-- ==== Sys2Proof/Word.lean ====
section
/-! DEFINITION. The plain words of the FPX-2144: lanes, tags, bytes and time-base ticks (R5, R6, R85, R256). -/

namespace Sys2Proof

/-- A byte of a frame, a record or a lot image (R5). -/
abbrev Byte := BitVec 8

/-- The 128 lanes of a node word; lane l is bit l (R6). -/
abbrev Lanes := BitVec 128

/-- The tag of a node word (R85). -/
abbrev Tag := BitVec 8

/-- A mordant key or a key stamp (R127, R130). -/
abbrev Key := BitVec 7

/-- Counts of the 50 MHz time base: one tick is 20 ns (R256). -/
abbrev Tick := Nat

/-- Ticks in one microsecond, one millisecond and one second (R256). -/
def usTicks : Nat := 50
def msTicks : Nat := 50000
def sTicks : Nat := 50000000

end Sys2Proof
end

