-- ==== Sys2Proof/Syntax.lean ====
section
/-! DEFINITION. The commands of the FPX-2144: one constructor for each row of spec/opcode_table.json, in the table's order.
The table gives its rows no operands; the operands here are what the spec's own words say the step takes from outside
(a measured value, a frame's bytes, a written value, the number of a channel). See log entry 6. -/

namespace Sys2Proof

/-- What the SEC-DED check of a fetched program row finds (R102). -/
inductive Ecc where
  | clean | corrected | uncorrectable
deriving DecidableEq, Repr

/-- What the hardware does to one WOP on its way: the ECC finding of its row and the lanes of the function-stage output
that a fault of the engine flips (0 on sound hardware; R102, chapter 06). -/
structure Fetch where
  ecc : Ecc
  flip : Lanes
deriving DecidableEq, Repr

/-- A fault of the engine that shows in the dry run of acceptance: at which WOP of which partition's pass, and what it does (R142). -/
structure EngineFault where
  part : Nat
  wop : Nat
  overdye : Bool
  fetch : Fetch
deriving DecidableEq, Repr

/-- A unit of the machine that a spare can replace (R415, R438). -/
inductive RepairUnit where
  | lane (l : Nat)
  | wordG (w : Nat)
  | wordO (w : Nat)
  | row (r : Nat)
deriving DecidableEq, Repr

/-- What the slice of a background or localising test finds (R428 to R434). -/
inductive SliceFinding where
  /-- The slice ends without a failure. -/
  | pass
  /-- Units fail that a spare can replace. -/
  | failed (us : List RepairUnit)
  /-- A program row whose single-bit error the scrub corrects (R433). -/
  | correctedRow (r : Nat)
  /-- A program row that cannot be corrected (R433). -/
  | badRow (r : Nat)
  /-- A program or table CRC that differs from the accepted one (R433, R434). -/
  | badCrc
deriving DecidableEq, Repr

/-- The two kinds of slice (R160). -/
inductive SliceKind where
  | background | localising
deriving DecidableEq, Repr

/-- The state that three margin reads give an OTP word (R412). -/
inductive WordState where
  | unwritten | good | marginal | unreliable
deriving DecidableEq, Repr

/-- The 73 fuses of an OTP word as they read at each margin: WRITTEN [72], ECC [71:64], DATA [63:0] (R409, R412). -/
structure WordRead where
  low : BitVec 73 := 0
  normal : BitVec 73 := 0
  high : BitVec 73 := 0
deriving DecidableEq, Repr

/-- The three fuses of a lock set as they read at each margin (R412, R417). -/
structure FuseRead where
  low : BitVec 3 := 0
  normal : BitVec 3 := 0
  high : BitVec 3 := 0
deriving DecidableEq, Repr

/-- A reading of the write-lock or the read-lock set of a region. -/
structure LockRead where
  region : Nat
  read : Bool
  fuses : FuseRead
deriving DecidableEq, Repr

/-- What a reading of the array brings: the words and lock sets that it lists; the others read as they stand. -/
structure OtpReads where
  words : List (Nat × WordRead)
  locks : List LockRead
deriving DecidableEq, Repr

/-- What the start-up BIST finds (R68, R436): the units that a spare can replace, the tests 0 to 5 that fail otherwise, the input
and speed channels that fail loop-back, the off-state test of the outputs, and the engine rate. -/
structure StartUpFindings where
  faults : List RepairUnit
  failed : BitVec 6
  inputs : BitVec 48
  speeds : BitVec 8
  outputsOff : Bool
  rate : Nat
deriving DecidableEq, Repr

/-- The reset source that a jam is judged on (R235, R236). -/
inductive JamSource where
  | channel (n : Fin 48)
  | trunk
deriving DecidableEq, Repr

/-- The source of a dark test: one output, or one of the parallel groups 1 to 4 (R213). -/
inductive DarkSource where
  | single (n : Fin 16)
  | parallel (g : Fin 4)
deriving DecidableEq, Repr

/-- What continuous readback finds (R216): not low at 20 samples, not high at 20 samples, in current limit for 10 ms. -/
inductive ReadbackCode where
  | notLow | notHigh | currentLimit
deriving DecidableEq, Repr

/-- The faults of a speed channel that are found outside the loop-back test; a pin that is neither high nor low has been so for so
many ns (R282). -/
inductive SpeedFault where
  | overRange
  | indeterminate (heldNs : Nat)
deriving DecidableEq, Repr

/-- The link that carries a sync symbol (R258). -/
inductive SyncLink where
  | cascade (hops : Nat)
  | crossLink
deriving DecidableEq, Repr

/-- The host ports (R307). -/
inductive HostPort where
  | ha | hb
deriving DecidableEq, Repr

/-- The trunk ports (R348). -/
inductive TrunkPort where
  | ta | tb
deriving DecidableEq, Repr

/-- What carries a control message: the cross-link, in a frame with a correct check, or the cascade, in a frame with this header and a
correct check (R374, R379). -/
inductive CtlVia where
  | crossLink
  | cascade (src dst hop : Byte) (seq : BitVec 32)
deriving DecidableEq, Repr

/-- The four network ports (R469). -/
inductive NetPort where
  | ha | hb | ta | tb
deriving DecidableEq, Repr

/-- The bands of the OWN loop (R389). -/
inductive OwnBand where
  | openWire | released | holding | unpowered | outside
deriving DecidableEq, Repr

/-- The straps as SUP measures them, in 1/1024 of the reference (R22, R23). -/
structure Straps where
  addr : Nat
  role : Nat
deriving DecidableEq, Repr

/-- The input supply as PDM measures it (R32). -/
structure MainsInput where
  volts : Nat
  dc : Bool
deriving DecidableEq, Repr

/-- What SUP reads in Boot's steps 2 to 4: the words of OTP regions 0 and 1 at three margins each, the AON rail in mV as it stands
from step 2 to step 5, the straps (R24, R37, R66, R67). -/
structure BootRead where
  otp : OtpReads
  aonMv : Nat
  straps : Straps
deriving DecidableEq, Repr

/-- The commands: the 178 rows of spec/opcode_table.json. -/
inductive Instr where
  -- power and boot
  | powerOn (input : MainsInput) (aonMv : Nat) (boot : BootRead)
  | startUpBistComplete (seed : BitVec 31) (rcCount slowCount : Nat) (found : StartUpFindings) (otp : OtpReads)
  | strapReread (straps : Straps)
  | nrst (lowNs : Nat) (boot : BootRead)
  | interruption (input : MainsInput) (power : Nat)
  | pfw (bulkV : Nat)
  | pfs (bulkV : Nat)
  | stagingFlushComplete
  | domainsOff
  | pfsRestart (input : MainsInput) (boot : BootRead)
  | aonLoss (bulkV : Nat)
  | mainsReturn (input : MainsInput)
  | pfwClear (bulkV : Nat)
  | aonRailFault (mv : Nat)
  | railFault (d : Fin 10) (core : Bool)
  | domainRestart (d : Fin 10)
  | trimWindow
  | usOverloadOff
  | usRetry
  | lfWarning (g : Fin 2) (mv : Nat)
  | lfCutOff (g : Fin 2) (mv : Nat)
  | lfGoodQualified (g : Fin 2) (mv : Nat)
  -- state commands
  | configure
  | validate
  | acceptanceComplete (faults : List EngineFault)
  | confirmation (value : BitVec 32)
  | confirmationTimeout
  | run
  | commission
  | park (count1 count2 : Nat)
  | parkedEntry
  | replay
  | endReplay
  | halt
  | leaveHalt
  | haltReleaseArmExpiry
  | restore
  | discard
  | reset (boot : BootRead)
  | wakeDelayExpiry (slowTicks : Nat) (retained : Bool)
  | wakeInputChange (n : Fin 48) (mv1 mv2 : Nat) (slowTicks : Nat) (retained : Bool)
  | parkedHalt (cause : Fin 16) (rail : Fin 10) (slowTicks : Nat)
  -- engine and scheduler
  | partitionRelease (p : Fin 16)
  | passResume (p : Fin 16)
  | lut (f : Fetch)
  | latch (f : Fetch)
  | edge (f : Fetch)
  | timer (f : Fetch)
  | equiv (f : Fetch)
  | tagset (f : Fetch)
  | barrier (f : Fetch)
  | nop (f : Fetch)
  | commitGate
  | watchdogExpiry
  | bistSlice (kind : SliceKind) (finding : SliceFinding) (rate : Nat)
  | localisationComplete (found : Option RepairUnit)
  | timeBaseCheck (rcCount slowCount : Nat)
  | otpReread (reads : OtpReads)
  | haltRequest
  | debugHaltEffect
  | step (fg fo : Fetch)
  | resume
  -- inputs and sources
  | testPulse (k : Fin 8)
  | filteredEdge (n : Fin 48) (run : List (Nat × Nat))
  | pulseDecision (n : Fin 48) (k : Fin 8) (rawBefore : Bool) (lowSamples : Nat) (inside : Bool)
  | sourceFault (k : Fin 8) (ma mv : Nat)
  | sourceRetry (k : Fin 8)
  | proofTimeout (n : Fin 48)
  | discrepancyTimeout (p : Fin 24)
  | loopBackTest (ok : Bool)
  | resetJam (src : JamSource)
  -- outputs and groups
  | closingCheckEnd (g : Fin 2) (notLow : BitVec 16) (railClosed : Bool)
  | groupTest (g : Fin 2)
  | groupTestDecision (g : Fin 2) (railSeen : Bool) (notLow bled : BitVec 16)
  | darkTest (src : DarkSource)
  | darkTestDecision (src : DarkSource) (seen bled : BitVec 16)
  | readbackFault (n : Fin 16) (code : ReadbackCode)
  | parallelMismatch (g : Fin 4)
  | openLoad (n : Fin 16)
  | driverOvertemperature (n : Fin 16)
  | groupOvercurrent (g : Fin 2)
  | groupOpenRetry (g : Fin 2) (railSeen : Bool)
  | groupCloseRetry (g : Fin 2) (notLow : BitVec 16) (railClosed : Bool)
  -- compare channels, speed and motion, time discipline, swatch
  | compareEvent (c : Fin 256)
  | arm (c : Fin 256)
  | disarm (c : Fin 256)
  | clearFlags (c : Fin 256)
  | softwareCapture (c : Fin 256)
  | targetWrite (c : Fin 256) (target : BitVec 64)
  | periodWrite (c : Fin 256) (period : BitVec 32)
  | captureValueRead (c : Fin 256) (meets : Option (BitVec 64))
  | nodeWordRead (w : Fin 2048)
  | speedEdge (n : Fin 8) (level : Bool) (stamp : Nat) (heldNs : Nat)
  | motionUpdate
  | speedChannelFault (n : Fin 8) (fault : SpeedFault)
  | speedLoopBack (ok : Bool)
  | syncSymbol (link : SyncLink) (carried residenceNs ownNs : Nat) (epoch : Option Nat)
  | disciplineHoldover
  | swatchRequest (t : BitVec 64)
  | swatchLatch
  | swatchGatherTimeout (records : List (Nat × List (BitVec 8)))
  -- analog
  | aaqConversion (e : Fin 64) (raw : BitVec 16) (value : Int)
  -- host port
  | cycleFrame (port : HostPort) (bytes : List Byte)
  | hostStale
  | hostWatchdogExpiry
  | read (tag : Byte) (addr : BitVec 32)
  | write (tag : Byte) (addr : BitVec 32) (body : List Byte)
  | beatRead (tag : Byte) (addr : BitVec 32)
  | beatWrite (tag : Byte) (addr : BitVec 32) (body : List Byte)
  | beatWriteTimeout
  | blockRead (tag : Byte) (addr : BitVec 32) (off : BitVec 32) (len : BitVec 16)
  | blockWrite (tag : Byte) (addr : BitVec 32) (off : BitVec 32) (data : List Byte)
  | wake (tag : Byte) (slowTicks : Nat) (retained : Bool)
  | recordComplete
  | odWrite (index : BitVec 16) (sub : Byte) (value : BitVec 64)
  -- OTP, CVU, recorder, log
  | programData (data : BitVec 64)
  | seal
  | writeLock (r : Fin 16)
  | readLock (r : Fin 16)
  | otpProgramComplete (readBack : WordRead) (fuses : FuseRead)
  | fuseRepair
  | fuseRepairComplete (readBacks : List WordRead)
  | init (n : Fin 16)
  | finalise (n : Fin 16)
  | dataIn (n : Fin 16) (v : BitVec 32)
  | runningValueWrite (n : Fin 16) (v : BitVec 32)
  | freezeCommand
  | episodePostTriggerEnd
  | exportSelect (e : Byte)
  | entrySelect (seq : BitVec 32)
  | meterWindowEnd
  | burstBudgetRefill
  | nandPageWrite
  -- trunk
  | trunkCycleStart
  | trunkFrame (port : TrunkPort) (bytes : List Byte)
  | stationWatchdogExpiry (a : Fin 4096)
  -- cascade and pair
  | words (bytes : List Byte)
  | keepalive (bytes : List Byte)
  | cascadeSourceTimeout (m : Fin 8)
  | ringLatencyMeasure (ns : Nat)
  | crossLinkTraining (ownNonce peerNonce answer : List Byte)
  | crossLinkDown (badChecks : Nat)
  | image (bytes : List Byte)
  | result (bytes : List Byte)
  | status (bytes : List Byte)
  | fullImage (bytes : List Byte)
  | pairWords (bytes : List Byte)
  | controlHalt (via : CtlVia) (p : Fin 256) (wop : BitVec 16)
  | stepResume (via : CtlVia) (isResume : Bool) (fg fo : Fetch)
  | controlSwatch (via : CtlVia) (id : BitVec 32) (tLow : BitVec 32)
  | controlCommand (via : CtlVia) (code : Byte) (boundary : BitVec 56)
  | controlPark (via : CtlVia) (t0 : BitVec 64) (count1 count2 wakeDelay : Nat)
  | parkAnswer (via : CtlVia) (code : BitVec 16)
  | abandonPark (via : CtlVia)
  | disagreement (via : CtlVia) (p : Fin 16) (seq : BitVec 32)
  | resyncRequest (via : CtlVia)
  | resyncStart (via : CtlVia) (ts : BitVec 64)
  | ownBandChange (samples : List (Nat × Nat))
  | roleDecisionTimeout
  | tripPulled (samples : List Nat)
  | tripOpenWire (ua : Nat)
  -- further events
  | auxContactUpdate
  | interruptionEnd
  | tripPullEnd
  | crossLinkRoundTrip (ns : Nat)
  | syncSymbolSend
  | keepaliveSend
  | statusSend
  | beatLatchLapse
  | portLinkChange (port : NetPort) (up : Bool)
  | jtagSession (active : Bool)
  | sensorPulse (n : Fin 48) (lowSamples : Nat)
  | chatterClear (n : Fin 48)
  | sourceFaultClear (k : Fin 8)
  | readbackChange (pins rails lf : List Nat)
  | healthReportRebuild
  | heldOnCommandApply (n : Fin 16)
  | railReadbackFault (g : Fin 2)
deriving DecidableEq, Repr

end Sys2Proof
end

