-- ==== Sys2Proof/WellFormed.lean ====
section
/-! DEFINITION. Well-formed commands: the operands that the hardware can bring (log entry 6). The meanings are total and need no
well-formedness; a command that is not well-formed is one that no module of the kind meets. -/

namespace Sys2Proof

/-- A strap reading lies within the reference it is measured against (R22, R23). -/
def Straps.wf (t : Straps) : Bool := decide (t.addr ≤ 1024) && decide (t.role ≤ 1024)

/-- The units that BIST can name: lanes 0 to 131, words 0 to 2,079, rows 0 to 65,543, the spares included (R438). -/
def RepairUnit.wf (u : RepairUnit) : Bool := match u with
  | .lane l => decide (l < 132)
  | .wordG w => decide (w < 2080)
  | .wordO w => decide (w < 2080)
  | .row r => decide (r < 65544)

/-- What a slice can find. -/
def SliceFinding.wf (f : SliceFinding) : Bool := match f with
  | .pass => true
  | .failed us => us.all RepairUnit.wf
  | .correctedRow r => decide (r < 65544)
  | .badRow r => decide (r < 65544)
  | .badCrc => true

/-- A reading of the array names words 0 to 511 and the lock sets of regions 0 to 15 (R409, R417). -/
def OtpReads.wf (r : OtpReads) : Bool :=
  r.words.all (fun e => decide (e.1 < 512)) && r.locks.all (fun l => decide (l.region < 16))

/-- What Boot reads. -/
def BootRead.wf (b : BootRead) : Bool := b.otp.wf && b.straps.wf

/-- A wrong lane of a WOP stands in a partition's pass (R102). -/
def EngineFault.wf (f : EngineFault) : Bool := decide (f.part < 16) && decide (f.wop < 65536)

/-- The link that carries a sync symbol is a ring of at most eight modules (R371). -/
def SyncLink.wf (l : SyncLink) : Bool := match l with
  | .cascade h => decide (h < 8)
  | .crossLink => true

/-- A well-formed command. -/
def Instr.wf (i : Instr) : Bool := match i with
  | .powerOn _ _ b => b.wf
  | .startUpBistComplete _ _ _ f r => f.faults.all RepairUnit.wf && r.wf
  | .strapReread t => t.wf
  | .nrst _ b => b.wf
  | .pfsRestart _ b => b.wf
  | .reset b => b.wf
  | .acceptanceComplete fs => fs.all EngineFault.wf
  | .bistSlice _ f _ => f.wf
  | .localisationComplete u => u.all RepairUnit.wf
  | .otpReread reads => reads.wf
  | .pulseDecision _ _ _ n _ => decide (n ≤ 160)
  | .readbackChange pins rails lf => decide (pins.length = 16) && decide (rails.length = 2) && decide (lf.length = 2)
  | .ownBandChange samples => decide (samples.length = 4)
  | .tripPulled samples => decide (samples.length = 4)
  | .syncSymbol l _ _ _ _ => l.wf
  | .swatchGatherTimeout records => records.all (fun e => decide (e.1 < 16))
  | .cycleFrame _ b => decide (b.length ≤ 1518)
  | .write _ _ b => decide (b.length ≤ 1032)
  | .beatWrite _ _ b => decide (b.length ≤ 1032)
  | .blockWrite _ _ _ b => decide (b.length ≤ 1028)
  | .trunkFrame _ b => decide (b.length ≤ 1518)
  | .crossLinkTraining a b c => decide (a.length = 16) && decide (b.length = 16) && decide (c.length = 8)
  | .crossLinkDown n => decide (n ≤ 3)
  | _ => true

end Sys2Proof
end

