-- ==== Sys2Proof/Decode.lean ====
section
/-! DEFINITION. Decoding of the rows that spec/opcode_table.json gives bits. It gives none of its 178 rows any: a command of this
block is an event at its pins, a register access or a frame, not a word. So no word spells a command. -/

namespace Sys2Proof

/-- The command that a word of `nbits` bits spells by the table's bits: none. -/
def decodeTableWord (_nbits _w : Nat) : Option Instr := none

end Sys2Proof
end

