-- ==== Sys2Proof/Config.lean ====
section
/-! DEFINITION. What the spec leaves open: free values that nothing in Lean can evaluate (log entry 3), and what one module
of the kind is delivered with (log entry 5). A statement about a free value holds for every value of it. -/

namespace Sys2Proof.Config

/-- Rail current of a domain in mA, as measured (0x2600+d:03, R58): the spec gives no value. -/
opaque railCurrent : Nat → Nat → BitVec 16

/-- The energy in uJ that a domain below 10, or US as 10, has drawn since its counter was last brought up (R58): measured. -/
opaque energy : Nat → Nat → BitVec 32

/-- US current in mA (0x260A:03, R58): measured, in no entry of the channel table. -/
opaque usCurrent : Nat → BitVec 16

/-- Whether PDM finds US in current limit while AAQ converts nothing (R45). -/
opaque usOverload : Nat → Bool

/-- How far above 2.75 A the current limit of US engages, in mA below 501 by its remainder (R44: from 2.75 to 3.25 A). -/
opaque usLimit : BitVec 16

/-- Ambient temperature in 0.1 degC that the derated rating 0x260A:05 uses (R44). -/
opaque ambient : Nat → BitVec 16

/-- Load current of an output in mA with the open-load bit, and of a group in mA (0x2200+n:16, 0x2220+g:14; R229, R230):
measured. -/
opaque outputCurrent : Nat → Nat → BitVec 16
opaque groupCurrent : Nat → Nat → BitVec 16

/-- What a comparator of SOUT decides for a voltage between its Always and its Never threshold (R48, R202): comparator and sample.
Comparators 0 to 15 are pin high, 16 to 31 pin low, 32 and 33 rail closed, 34 and 35 rail open; from 40 on those of an LF monitor:
40 warning, 41 sag, 42 collapse, 43 overvoltage, 44 Good, for LF_B 5 more. -/
opaque outputComparator : Nat → Nat → Bool

/-- Whether an output's current lies below its open-load threshold, between 3 and 8 mA (R201, R219). -/
opaque openLoadComparator : Nat → Nat → Bool

/-- Temperature of an output's driver in 0.1 degC (0x2200+n:1B; R220, R229): measured, by no row of the table. -/
opaque driverTemperature : Nat → Nat → BitVec 16

/-- Input voltage in V and input power in 0.1 W that PDM measures at an instant (0x260B:02, :03; R484): no row of the table brings
them. -/
opaque inputVoltage : Nat → BitVec 16
opaque inputPower : Nat → BitVec 16

/-- The comparator of input n (R171): how far its rising threshold lies above 8.5 V, and its falling one above 6.0 V, in mV, by the
remainders that Machine.inputRise and Machine.inputFall take. -/
opaque inputRise : Nat → BitVec 16
opaque inputFall : Nat → BitVec 16

/-- How far above 110 mA the current limit of source k engages, in mA below 41 by its remainder (R178: from 110 to 150 mA). -/
opaque sourceLimit : Nat → BitVec 16

/-- Source current in mA (0x2160+k:12). -/
opaque sourceCurrent : Nat → Nat → BitVec 16

/-- Whether an nRST low pulse of 1 us to 10 us resets the module: not specified (R83). -/
opaque shortReset : Nat → Bool

/-- The random number k of an ECDSA signature over an export (R458; FIPS 186-4 leaves it to the signer). -/
opaque exportNonce : Nat → Nat

/-- One of the two slow-oscillator counts of a Parked entry's calibration, where a host record brings PARK (R260): measured. -/
opaque parkCount : Nat → Nat → BitVec 32

/-- A strap reading in 1/1024 of the reference, where a host record brings RESET (R22, R23): 0 ADDR, 1 ROLE; measured. -/
opaque strapReading : Nat → Nat → BitVec 11

/-- The AON rail in mV, and an OTP word and a lock set as they read at low, normal and high margin (from the lowest bits on), where no
command brings them: a RESET that a host record brings (R37, R67), and a re-read during a wake (R437); measured. -/
opaque aonReading : Nat → BitVec 16
opaque otpReading : Nat → Nat → BitVec 219
opaque lockReading : Nat → Nat → BitVec 9

/-- The pad that hardware derives from the scramble pad of region 0, the region number and the word (R416): the derivation
is not given. -/
opaque scramblePad : BitVec 256 → Nat → Nat → BitVec 64

/-- Time in ns from acceptance to the first preamble bit of a Response Frame: 960 to 3,000 (R315). -/
opaque responseStart : Nat → Nat

/-- How many program or erase bytes the NAND already carried (0x2A00:0A counts from manufacture, R454). -/
opaque nandWrittenBefore : Nat

/-- The speed estimate in mHz of a channel without a complete period at the very tick of its start or of its last edge, where
R281's quotient has the divisor 0. -/
opaque speedAtZero : Nat → Nat → BitVec 32

/-- The rate correction in 0.001 ppm that a receiving module settles on at a sync symbol (R258): the spec bounds it by 200 ppm
and gives no law. -/
opaque rateCorrection : Nat → Int

/-- What a read of the data of an UNRELIABLE OTP word returns (R412 gives it no use): word and instant. -/
opaque otpUnreliable : Nat → Nat → BitVec 64

/-- The count of the slow oscillator since the time-base stop, and whether the retained words agree with their CRC, where a
Cycle Frame wakes the module (R56, R261, R330): measured. -/
opaque slowTicks : Nat → Nat
opaque retained : Nat → Bool

/-- The live running value of a check-value unit that hardware uses and whose stream the model does not follow (R445): unit and
instant. -/
opaque cvuLive : Nat → Nat → BitVec 32

end Sys2Proof.Config
end

