-- ==== Sys2Proof/Machine/Bytes.lean ====
section
/-! DEFINITION. Byte strings: little-endian fields (R5), the CRCs of R443, and 128-bit words as bytes (R135). -/

namespace Sys2Proof.Machine

/-- Byte `i` of a string; a string that is too short reads 0. -/
def byteAt (l : List Byte) (i : Nat) : Nat := (l.getD i 0).toNat

/-- The unsigned number of `n` little-endian bytes (R5). -/
def leNat : List Byte → Nat
  | [] => 0
  | b :: r => b.toNat + 256 * leNat r

/-- The unsigned number of big-endian bytes (R72, R310). -/
def beNat (l : List Byte) : Nat := l.foldl (fun a b => 256 * a + b.toNat) 0

/-- `n` bytes from offset `o`, filled with 0 where the string ends. -/
def slice (l : List Byte) (o n : Nat) : List Byte :=
  let t := (l.drop o).take n
  t ++ List.replicate (n - t.length) 0

/-- Little-endian fields at an offset (R5). -/
def u8 (l : List Byte) (o : Nat) : Nat := byteAt l o
def u16 (l : List Byte) (o : Nat) : Nat := leNat (slice l o 2)
def u32 (l : List Byte) (o : Nat) : Nat := leNat (slice l o 4)
def u64 (l : List Byte) (o : Nat) : Nat := leNat (slice l o 8)

/-- `v` as `n` little-endian bytes. -/
def leBytes : Nat → Nat → List Byte
  | 0, _ => []
  | n + 1, v => BitVec.ofNat 8 v :: leBytes n (v / 256)

/-- `v` as `n` big-endian bytes. -/
def beBytes (n v : Nat) : List Byte := (leBytes n v).reverse

/-- A 128-bit word as 16 bytes, lane l at bit (l mod 8) of byte l div 8 (R135). -/
def laneBytes (w : Lanes) : List Byte := leBytes 16 w.toNat

/-- 16 bytes as a 128-bit word. -/
def bytesLanes (l : List Byte) : Lanes := BitVec.ofNat 128 (leNat (l.take 16))

/-- Whether every byte of a string is 0. -/
def allZero (l : List Byte) : Bool := l.all (fun b => decide (b = 0))

/-- One bit of a number. -/
def bitOf (v i : Nat) : Bool := v.testBit i

/-- The bit field [hi:lo] of a number (R5). -/
def field (v hi lo : Nat) : Nat := (v / 2 ^ lo) % 2 ^ (hi - lo + 1)

/-! ### The SEC-DED (72,64) code of an OTP word (R409) -/

/-- The Hamming position of each data bit: 3 to 71 without the powers of two. R409 gives the code's strength and not its check matrix:
an extended Hamming code (DESIGN CHOICE, log entry 74). -/
def eccPos : List Nat :=
  [3, 5, 6, 7, 9, 10, 11, 12, 13, 14, 15, 17, 18, 19, 20, 21, 22, 23, 24, 25, 26, 27, 28, 29, 30, 31] ++
  [33, 34, 35, 36, 37, 38, 39, 40, 41, 42, 43, 44, 45, 46, 47, 48, 49, 50, 51, 52, 53, 54, 55, 56, 57, 58, 59, 60, 61, 62, 63] ++
  [65, 66, 67, 68, 69, 70, 71]

/-- The exclusive or of the positions of the data bits that are 1. -/
def eccSyndrome (d : Nat) : Nat :=
  (eccPos.foldl (fun (a : Nat × Nat) p => (if a.2 % 2 = 1 then Nat.xor a.1 p else a.1, a.2 / 2)) (0, d)).1

/-- Whether the number of ones among the lowest n bits is odd. -/
def oddOnes : Nat → Nat → Bool
  | 0, _ => false
  | n + 1, v => xor (decide (v % 2 = 1)) (oddOnes n (v / 2))

/-- The eight check bits: seven Hamming checks, and the parity of all the others. -/
def eccCheck (d : Nat) : Nat :=
  let h := eccSyndrome d
  h + (if oddOnes 71 (d + h * 2 ^ 64) then 128 else 0)

/-- The fuses of a programmed word: WRITTEN, ECC and DATA (R409). -/
def otpFuses (d : Nat) : BitVec 73 := BitVec.ofNat 73 (2 ^ 72 + eccCheck d * 2 ^ 64 + d)

/-- One read of 73 fuses through the ECC: the data and whether a bit was corrected; none where two bits are wrong. -/
def eccDecode (v : BitVec 73) : Option (Nat × Bool) :=
  let n := v.toNat
  let d := field n 63 0
  let syn := Nat.xor (eccSyndrome d) (field n 70 64)
  let odd := oddOnes 72 n
  if syn = 0 then some (d, odd)
  else if ! odd then none
  else match eccPos.findIdx? (fun p => decide (p = syn)) with
    | some i => some (Nat.xor d (2 ^ i), true)
    | none => if [1, 2, 4, 8, 16, 32, 64].contains syn then some (d, true) else none

/-- One bit through a reflected CRC register of 32 bits. -/
def crcBit (poly : BitVec 32) (r : BitVec 32) : BitVec 32 :=
  if r.getLsbD 0 then (r >>> 1) ^^^ poly else r >>> 1

/-- One byte through a reflected CRC register, least significant bit first (R443). -/
def crcByte (poly : BitVec 32) (r : BitVec 32) (b : Byte) : BitVec 32 :=
  let x := r ^^^ b.zeroExtend 32
  crcBit poly (crcBit poly (crcBit poly (crcBit poly (crcBit poly (crcBit poly (crcBit poly (crcBit poly x)))))))

/-- Bytes through a reflected CRC register. -/
def crcFeed (poly : BitVec 32) (r : BitVec 32) (l : List Byte) : BitVec 32 := l.foldl (crcByte poly) r

/-- The polynomial 0x04C1_1DB7, bits reversed (R71). -/
def polyIeee : BitVec 32 := 0xEDB88320#32

/-- The polynomial 0x1EDC_6F41, bits reversed (R134). -/
def polyC : BitVec 32 := 0x82F63B78#32

/-- CRC-32 (IEEE 802.3): initial value and final XOR 0xFFFF_FFFF (R71). -/
def crc32 (l : List Byte) : BitVec 32 := ~~~ (crcFeed polyIeee 0xFFFFFFFF#32 l)

/-- CRC-32C: initial value and final XOR 0xFFFF_FFFF (R134, R311). -/
def crc32c (l : List Byte) : BitVec 32 := ~~~ (crcFeed polyC 0xFFFFFFFF#32 l)

/-- One bit through a CRC register that is not reflected, of width `w` (R443). -/
def crcMsbBit (w : Nat) (poly r : Nat) : Nat :=
  let s := (2 * r) % 2 ^ w
  if r.testBit (w - 1) then s ^^^ poly else s

/-- One byte through a CRC register that is not reflected. -/
def crcMsbByte (w poly r : Nat) (b : Byte) : Nat :=
  let x := r ^^^ (b.toNat * 2 ^ (w - 8))
  (List.range 8).foldl (fun a _ => crcMsbBit w poly a) x

/-- CRC-16/CCITT register through bytes (R443). -/
def crc16Feed (r : Nat) (l : List Byte) : Nat := l.foldl (crcMsbByte 16 0x1021) r

/-- CRC-8 with polynomial 0x07 register through bytes (R443). -/
def crc8Feed (r : Nat) (l : List Byte) : Nat := l.foldl (crcMsbByte 8 0x07) r

/-- Consecutive blocks of `n` bytes; the last one may be shorter. -/
def blocksAux (n : Nat) : Nat → List Byte → List (List Byte)
  | 0, _ => []
  | k + 1, l => if l.isEmpty then [] else l.take n :: blocksAux n k (l.drop n)

/-- The blocks of a byte string. -/
def blocks (n : Nat) (l : List Byte) : List (List Byte) := blocksAux n l.length l

end Sys2Proof.Machine
end

