-- ==== Sys2Proof/Machine/Table.lean ====
section
/-! DEFINITION. Sparse tables: the one form in which State holds every addressed store of the module (the node banks, the
lane-timer memories, the OTP array, the channel records). A table is a list of number and value, numbers strictly rising, and
no entry equal to what an unlisted number reads as (`d` below), so equal stores are equal data. -/

namespace Sys2Proof.Machine

/-- A sparse table. -/
structure Tab (α : Type) where
  cells : List (Nat × α) := []
deriving DecidableEq, Repr

/-- The first entry listed for a number. -/
def Tab.look {α : Type} (k : Nat) : List (Nat × α) → Option α
  | [] => none
  | e :: r => if e.1 = k then some e.2 else Tab.look k r

/-- What number `k` reads as; `d` is what an unlisted number reads as. -/
def Tab.get {α : Type} (t : Tab α) (d : α) (k : Nat) : α := (Tab.look k t.cells).getD d

/-- The list without number `k`. -/
def Tab.without {α : Type} (k : Nat) : List (Nat × α) → List (Nat × α)
  | [] => []
  | e :: r => if e.1 = k then Tab.without k r else e :: Tab.without k r

/-- Number `k` put at its place. -/
def Tab.put {α : Type} (k : Nat) (v : α) : List (Nat × α) → List (Nat × α)
  | [] => [(k, v)]
  | e :: r => if k < e.1 then (k, v) :: e :: r else e :: Tab.put k v r

/-- Write `v` at `k`; writing what an unlisted number reads as removes the entry. -/
def Tab.set {α : Type} [DecidableEq α] (t : Tab α) (d : α) (k : Nat) (v : α) : Tab α :=
  ⟨if v = d then Tab.without k t.cells else Tab.put k v (Tab.without k t.cells)⟩

/-- Change the value at `k`. -/
def Tab.upd {α : Type} [DecidableEq α] (t : Tab α) (d : α) (k : Nat) (f : α → α) : Tab α :=
  t.set d k (f (t.get d k))

/-- Numbers strictly rising. -/
def Tab.rising {α : Type} : List (Nat × α) → Bool
  | [] => true
  | e :: r => r.all (fun x => decide (e.1 < x.1)) && Tab.rising r

/-- The canonical form, for a table whose unlisted number `k` reads as `d k`. -/
def Tab.wf {α : Type} [DecidableEq α] (d : Nat → α) (t : Tab α) : Bool :=
  Tab.rising t.cells && t.cells.all (fun e => decide (e.2 ≠ d e.1))

end Sys2Proof.Machine
end

