-- ==== Sys2Proof/Machine/State.lean ====
section
/-! DEFINITION. The state of the FPX-2144: every register, table, buffer, counter, mode and pin that spec/00 to spec/20 give the
module, and the queue of waiting commands. Every field carries its value at State.reset as its default (log entries 1 and 5).
A field's comment names the rule or the object of spec/ that gives it. -/

namespace Sys2Proof.Machine

/-! ### The time base (chapter 11) -/

/-- Discipline states, 0x2500:02 (R259, R288). -/
inductive Disc where
  | free | acquiring | locked | holdover
deriving DecidableEq, Repr

/-- The time base and its discipline. -/
structure Clk where
  /-- Real time in units of 20 ns, whether or not the time base runs: the model's own field (log entry 2). -/
  real : Nat := 0
  /-- The 64-bit time base (R256). -/
  now : Nat := 0
  /-- The time base counts: from ENG on to Parked entry (R256, R261). -/
  running : Bool := false
  /-- 0x2500:02 (R259). -/
  disc : Disc := .free
  /-- 0x2500:03, offset of the last symbol in ns (R288). -/
  offsetNs : Int := 0
  /-- 0x2500:04, rate correction (R258, R288). -/
  rateCorr : Int := 0
  /-- Consecutive symbols within 50 ns, and above 1 us (R259). -/
  goodRun : Nat := 0
  badRun : Nat := 0
  /-- Time of the last sync symbol (R259). -/
  lastSymbol : Option Nat := none
  /-- Half the cross-link round trip, in ns (R258). -/
  linkAllowanceNs : Nat := 0
  /-- 0x2500:05, slow-to-main ratio with 32 fraction bits (R260). -/
  rho : Nat := 0
  /-- 0x2500:06, time-base value at the stop (R261). -/
  parkStop : Nat := 0
  /-- 0x2500:07, time made up (R261). -/
  madeUp : Nat := 0
  /-- The time-base value that the last sync symbol sent carried (R258). -/
  lastSync : Nat := 0
  /-- The part of a tick that the rate correction has gathered, in 10^-9 ticks (R258). -/
  acc : Int := 0
  /-- The symbol that a member has forwarded last: the value carried, the residence times in ns (R258). -/
  forwarded : Option (Nat × Nat) := none
  /-- The epoch of the reference, as the time discipline has brought it (R156). -/
  refEpoch : Option Nat := none
deriving DecidableEq, Repr

/-! ### Power (chapter 02) -/

/-- Domain states, 0x2600+d:01 (R58). -/
inductive DomState where
  | off | on | retain | fault | locked
deriving DecidableEq, Repr

/-- One of the ten switched domains (R39, R58). -/
structure Dom where
  state : DomState := .off
  /-- 0x2600+d:02, mV. -/
  mv : Nat := 0
  /-- 0x2600+d:05 and :06. -/
  faults : Nat := 0
  lastFault : Nat := 0
  /-- Real time of the last restart-once fault (R39: a second one within 1 h). -/
  restartAt : Option Nat := none
  /-- 0x2600+d:04 in uJ, as of the last reading (log entry 62). -/
  energy : Nat := 0
deriving DecidableEq, Repr

/-- Mains states, 0x260B:01 (R484). -/
inductive Mains where
  | normal | interrupted | pfw | pfs
deriving DecidableEq, Repr

/-- US states, 0x260A:01 (R45, R58). -/
inductive UsState where
  | off | on | limit | retryWait
deriving DecidableEq, Repr

/-- Mains side, domains, trim and US. -/
structure Pwr where
  /-- The input is present (R484). -/
  present : Bool := false
  mains : Mains := .normal
  /-- 0x260B:04 in V. -/
  bulkV : Nat := 0
  /-- Input power before the interruption, 0.1 W (R484). -/
  preP : Nat := 0
  /-- 0x260B:06. -/
  interruptions : Nat := 0
  /-- When the input came back (R484). -/
  backAt : Nat := 0
  /-- An interruption has been detected, and the input has not been present again for 3 ms since (R484). -/
  interr : Bool := false
  /-- The PFC recharges the bulk (R484). -/
  recharging : Bool := false
  /-- The AON rail in mV, and whether the power-on reset is released (R66). -/
  aonMv : Nat := 0
  aonUp : Bool := false
  /-- The ten domains by number (R39). -/
  doms : Tab Dom := {}
  /-- 0x2600:10 (rws), 0x2600:11 in mV, 0x2600:12. -/
  trimFixed : Bool := false
  setpoint : Nat := 980
  minSlack : Nat := 1000
  /-- Minimum slack of the running 16 ms window as a fraction, and the window's start (R41). -/
  winSlack : Option (Nat × Nat) := none
  winStart : Nat := 0
  /-- The holds of R42: lane localisation open, its end plus 1 s, rate measurement failed, its pass plus 1 s. -/
  locHold : Bool := false
  locHoldUntil : Nat := 0
  rateHold : Bool := false
  rateHoldUntil : Nat := 0
  /-- US (R45). -/
  us : UsState := .off
  usMv : Nat := 0
  usSince : Nat := 0
  /-- 0x260A:04 in uJ, as of the last reading (log entry 62). -/
  usEnergy : Nat := 0
  /-- 0x260A:10 (rws). -/
  usKeep : Bool := false
  /-- 0x260B:08 bit 0, and the die temperatures in 0.1 degC (R43). -/
  tempWarn : Bool := false
  tempLowRun : Nat := 0
  tempDiffSince : Option Nat := none
  t1 : Int := 0
  t2 : Int := 0
deriving DecidableEq, Repr

/-! ### The supervisor and the operating state (chapters 00, 01, 03, 06) -/

/-- The operating states (chapter 00, Table: Operating states). -/
inductive Mode where
  | off | boot | unconfigured | configuring | validating | commissioning | run | safeHalt | parked | replay
deriving DecidableEq, Repr

/-- The pair roles (chapter 00, Table: Pair roles). -/
inductive Role where
  | solo | active | standby | isolated | resync | undecided
deriving DecidableEq, Repr

/-- The commands of 0x2000:02 that wait for a cycle boundary of the module (R63). -/
inductive Cmd where
  | configure | run | commission | park | replay | endReplay | halt | reset
deriving DecidableEq, Repr

/-- A command that waits for the boundary, and the tag of the record that brought it (R63, R65). -/
structure PendCmd where
  cmd : Cmd
  tag : Option Byte
  /-- PARK: the two slow-oscillator counts of its calibration (R52, R260). -/
  count1 : Nat := 0
  count2 : Nat := 0
  /-- RESET: what Boot then reads (R24, R37, R67). -/
  boot : BootRead := ⟨⟨[], []⟩, 3300, ⟨0, 0⟩⟩
  /-- A COMMAND message names the boundary at which the command acts (R403). -/
  at? : Option Nat := none
deriving DecidableEq, Repr

/-- 0x2000:05 (R65): nothing, Parked pending since a time, halt release armed until a time, Replay pending. -/
inductive Pend where
  | none
  | parked (since : Nat)
  | armed (until_ : Nat)
  | replay
deriving DecidableEq, Repr

/-- The strap decode of Boot (R22 to R24): none is invalid. -/
structure StrapDecode where
  addr : Option Nat := none
  role : Option Nat := none
deriving DecidableEq, Repr

/-- SUP: states, causes, straps, watchdog, reference oscillators. -/
structure Sup where
  /-- 0x2000:01. -/
  mode : Mode := .off
  /-- Real time of the last state change (0x2000:09). -/
  modeSince : Nat := 0
  /-- 0x2000:03 (none reads 255), its instant, and 0x2000:04 (R80). -/
  firstCause : Option Nat := none
  firstAt : Nat := 0
  /-- The time-base tick of that instant, where the time base ran (R80). -/
  firstTick : Option Nat := none
  causes : BitVec 32 := 0
  /-- 0x2000:05. -/
  pend : Pend := .none
  /-- The command waiting for the cycle boundary (R63). -/
  cmd : Option PendCmd := none
  /-- 0x2000:06 and its value at the time-base stop (R55). -/
  wakeDelay : Nat := 0
  wakeDelayAtStop : Nat := 0
  /-- 0x2000:08. -/
  bootCount : Nat := 0
  /-- The state from which Safe Halt was entered (R82). -/
  haltFrom : Option Mode := none
  /-- 0x1F63 (R61). -/
  resume : Nat := 0
  /-- The state the module parked from, and the lot ID it parked with (R56). -/
  parkedFrom : Option Mode := none
  parkedLot : Nat := 0
  /-- The boundary t0 of a group park and the answers still missing stand in Cpl (R404). -/
  straps : StrapDecode := {}
  /-- Consecutive strap readings that differ from Boot's or are invalid (R24). -/
  strapBad : Nat := 0
  /-- SUP's own removal of output drive (R147, R149). -/
  driveRemoved : Bool := true
  /-- The safe-halt watchdog runs; last feed's real time; 0x2000:0C; a feed is armed (R145 to R147). -/
  wdRunning : Bool := false
  wdFedAt : Nat := 0
  wdCount : Nat := 0
  wdArmed : Bool := false
  /-- Test 6: RC reference deviation of the start-up BIST, failed windows (R435). -/
  rcRef : Int := 0
  rcBad : Nat := 0
  slowBad : Nat := 0
  rcDev : Int := 0
  /-- A JTAG session is active (R62). -/
  jtag : Bool := false
  /-- The AUX contact is closed (R473). -/
  auxClosed : Bool := false
  /-- The power-fail order: 0 not begun, 1 PFS, 2 staging flushed (R35, R36). -/
  pfsOrder : Nat := 0
  /-- The start-up BIST of Boot step 6 runs, at Boot or after a halt release (R66, R82). -/
  bistRunning : Bool := false
  /-- After a release, the state to resume: none, or what R82 gives. -/
  resumeTo : Option Mode := none
deriving DecidableEq, Repr

/-! ### Lots (chapter 03) -/

/-- A parsed dye lot: the header, the image digest, the sections by ID (an absent section is empty), the ID order of the
directory (R69, R70, R72, R73). -/
structure Lot where
  hdr : List Byte := []
  digest : List Byte := []
  secs : Tab (List Byte) := {}
deriving DecidableEq, Repr

/-- The lot objects and the acceptance. -/
structure LotBlk where
  /-- 0x1F50. -/
  image : List Byte := []
  /-- The lot loaded for acceptance (0x1F52 to 0x1F54, 0x1F60). -/
  loaded : Option Lot := none
  /-- The active lot (0x1F51, 0x1F61). -/
  active : Option Lot := none
  /-- The stored lot's image, and whether it is marked invalid (R60). -/
  stored : List Byte := []
  storedInvalid : Bool := false
  /-- 0x1F55:01 to :03 (R74). -/
  step : Nat := 0
  refusal : Nat := 0
  item : Nat := 0
  /-- Validating the stored lot; wrong confirmations; start of step 7 (R74, R76). -/
  fromStored : Bool := false
  wrong : Nat := 0
  confirmSince : Nat := 0
deriving DecidableEq, Repr

/-! ### The node space (chapter 04) -/

/-- A node word: value, tag, and the key stamp of an overdye word (0 in the ground bank; R85, R130). -/
structure Cell where
  val : Lanes := 0
  tag : Tag := 0
  key : Key := 0
deriving DecidableEq, Repr

/-- A beat latch: what it belongs to, the value, the tag, when it was taken (R99, R272). -/
structure BeatLatch where
  addr : Nat
  val : Nat
  tag : Nat
  at_ : Nat
deriving DecidableEq, Repr

/-- NMT: landing buffers, committed banks, latch planes. A plane's word w of partition p stands at 2048 p + w. -/
structure Nmt where
  land : Tab Cell := {}
  comG : Tab Cell := {}
  comO : Tab Cell := {}
  planeG : Tab Cell := {}
  planeO : Tab Cell := {}
  /-- The most recent latch of an input-bound word by any partition (R99). -/
  seen : Tab (Option Cell) := {}
  /-- The held latch of a node word, and of a capture value (R99, R272). -/
  beat : Option BeatLatch := none
  capBeat : Option BeatLatch := none
deriving DecidableEq, Repr

/-! ### The engine and the scheduler (chapters 05 to 07) -/

/-- A repair: kind 1 engine lane, 2 ground word, 3 overdye word, 4 program row; the unit, its spare, and whether it is fused. -/
structure Repair where
  kind : Nat
  unit : Nat
  spare : Nat
  fused : Bool := false
  /-- Node words: the latch planes whose row the spare has taken over. -/
  planes : BitVec 16 := 0
deriving DecidableEq, Repr

/-- The same unit by the same spare. -/
def Repair.same (a b : Repair) : Bool := decide (a.kind = b.kind ∧ a.unit = b.unit ∧ a.spare = b.spare)

/-- State of a lane timer: elapsed count and previous input (R118). -/
structure TCell where
  e : Nat := 0
  p : Bool := false
deriving DecidableEq, Repr

/-- The phases of a release: none open, a standby's release that waits for its IMAGE (R381), waiting for the engine, the two
passes and the gate (R139, R158). -/
inductive Phase where
  | idle | image | ready | passes | gate
deriving DecidableEq, Repr

/-- A partition at run time. -/
structure Part where
  phase : Phase := .idle
  /-- Next WOP of each pass, counted from the partition's first WOP (R125, R159). -/
  gi : Nat := 0
  oi : Nat := 0
  /-- 1 or 2 (R139). -/
  attempt : Nat := 1
  /-- Keys: of the attempt, of the failed first attempt, of the previous committed release (R127). -/
  key : Key := 0
  failedKey : Key := 0
  lastKey : Key := 0
  /-- 0x2020+p:06, the last committed sequence number (R136). -/
  seq : Nat := 0
  /-- Release stamp T, stamp of the previous committed release, release instant (R119, R163). -/
  stamp : Nat := 0
  prev : Option Nat := none
  relAt : Nat := 0
  /-- Release index k of the next release (R156). -/
  relK : Nat := 0
  /-- W5.2 and W5.3 not yet consumed by a commit (R91, R141). -/
  first : Bool := true
  edge : Bool := false
  /-- W5.3 in the plane of the open release (R141). -/
  edgeSeen : Bool := false
  /-- Working copies (R96, R121): words and timers of each bank, the overdye timers by slot under the attempt's key (R133). -/
  workG : Tab (Option Cell) := {}
  workO : Tab (Option Cell) := {}
  timG : Tab (Option TCell) := {}
  timO : Tab (Option TCell) := {}
  /-- The assignment of lanes, words and rows that is bound to the open release (R143). -/
  bound : List Repair := []
  /-- Running fastness signatures: CRC-32C and CRC-32 of each pass (R134). -/
  sgC : BitVec 32 := 0xFFFFFFFF#32
  sgI : BitVec 32 := 0xFFFFFFFF#32
  soC : BitVec 32 := 0xFFFFFFFF#32
  soI : BitVec 32 := 0xFFFFFFFF#32
  /-- 0x2020+p:07 to :0E (R169). -/
  lastResp : Nat := 0
  maxResp : Nat := 0
  lastSlack : Nat := 0
  minSlack : Nat := 1000
  retries : Nat := 0
  alarms : Nat := 0
  suspensions : Nat := 0
deriving DecidableEq, Repr

/-- The debug halt (R148 to R152): 0x2000:10, :11, :12, and the WOP after which a requested halt takes effect. -/
structure Dbg where
  state : Nat := 0
  part : Option Nat := none
  idx : Nat := 0
  /-- The pass stops after this WOP of the partition (R148). -/
  stopAt : Option Nat := none
  /-- The request waits for the commit gate of this partition's attempt, and the gate has decided (R148). -/
  atGate : Option Nat := none
  due : Bool := false
deriving DecidableEq, Repr

/-- SLE and EVS. -/
structure Sle where
  parts : Tab Part := {}
  /-- The partition whose pass the engine executes (R158, R159), and the one that it has served last with the
  sequence number of that release (R445). -/
  cur : Option Nat := none
  lastRun : Option (Nat × Nat) := none
  /-- Committed lane-timer state: the ground memory by timer, the overdye memory by slot, its key stamp by group (R118, R133). -/
  tmG : Tab TCell := {}
  tmO : Tab TCell := {}
  tmKey : Tab Key := {}
  /-- The count of the last watchdog feed (R146). -/
  feed : Nat := 0
  /-- The LFSR of the mordant key (R127). -/
  lfsr : BitVec 31 := 1
  /-- Time of the last corrected error of each program row (R102), and rows queued for repair. -/
  rowErr : Tab (Option Nat) := {}
  rowQueue : List Nat := []
  /-- 0x2800:20 to :26 and the times of the unlocalised mismatches (R144, R152). -/
  mismatches : Nat := 0
  retriesCommitted : Nat := 0
  lastMisPart : Option Nat := none
  lastMisAt : Nat := 0
  misKey1 : Nat := 0
  misKey2 : Nat := 0
  locState : Nat := 0
  locLane : Nat := 255
  unloc : List Nat := []
  dbg : Dbg := {}
  /-- 0x2000:1A, and 0x2000:1B with the time of its last accrual (R156, R160). -/
  epoch : Option Nat := none
  /-- BIST credit in twentieths of a tick (200,000 are 200 us). -/
  credit : Nat := 0
  creditAt : Nat := 0
  /-- Localisation is open, and the mismatches that it is to localise (R144). -/
  locOpen : Bool := false
  locCount : Nat := 0
deriving DecidableEq, Repr

/-! ### Safety inputs (chapters 08 and 10) -/

/-- An input channel (R173 to R190, R195, R234, R235). -/
structure Chan where
  /-- Raw state of the latest sample and filtered state f. -/
  raw : Bool := false
  f : Bool := false
  /-- The filter count, and the tick of the latest sample that the filter has taken (R173). -/
  count : Nat := 0
  sampledAt : Nat := 0
  /-- Latched channel faults by code 1 to 5, and the chatter flag. -/
  fault : BitVec 6 := 0
  chatter : Bool := false
  /-- Consecutive missed pulses; consecutive assessed pulses seen (R180, R187). -/
  missed : Nat := 0
  seen : Nat := 0
  /-- Bit k: the last window of source k held a foreign pulse; the windows by source that are still to be clean while f is 1, 2 after
  one that held a foreign pulse (R181, R187). -/
  foreign : BitVec 8 := 0
  taint : Tab Nat := {}
  /-- The pulse of each source that was last judged on this channel, plus 1. -/
  judged : Tab Nat := {}
  /-- Stamp of the last filtered edge, the last 8 stamps, transitions, faults (R173, R186, R195). -/
  stamp : Nat := 0
  stamps : List Nat := []
  transitions : Nat := 0
  faults : Nat := 0
  /-- Start of the proof timer; a sensor pulse has been seen since the last proof fault (R183, R187). -/
  proofFrom : Nat := 0
  sensorSeen : Bool := false
  /-- Last loop-back result, 255 none (R190). -/
  loop : Nat := 255
  /-- Reset judgement: stamp t1 of the rising delivered edge; jammed (R234, R235). -/
  rise : Option Nat := none
  jam : Bool := false
deriving DecidableEq, Repr

/-- States of a pair evaluator (R185). -/
inductive PairState where
  | idle | closing | active | opening | fault
deriving DecidableEq, Repr

/-- What a pair evaluator holds (R185, R188, R196). -/
structure PairEv where
  state : PairState := .idle
  code : Nat := 0
  t0 : Nat := 0
  elapsed : Nat := 0
  largest : Nat := 0
  /-- Since FAULT: both at 0 at a sample, then both at 1 at a later one. -/
  both0 : Bool := false
  both1 : Bool := false
  demands : Nat := 0
  faults : Nat := 0
deriving DecidableEq, Repr

/-- A pair evaluator: what it holds, and what it held before the sample that it was last evaluated at: both channels of a pair may
change at one sample (R185, log entry 20). -/
structure InPair extends PairEv where
  base : PairEv := {}
  baseAt : Option Nat := none
deriving DecidableEq, Repr

/-- States of a test source, 0x2160+k:10 (R197); `fault` runs again with its fault latched. -/
inductive SrcState where
  | off | on | limit | fault | retryWait
deriving DecidableEq, Repr

/-- A test source (R175, R178, R197). -/
structure Src where
  state : SrcState := .off
  code : Nat := 0
  /-- Time of the last fault, pulses begun since the retry, the last switch-on and switch-off. -/
  faultAt : Nat := 0
  good : Nat := 0
  onAt : Nat := 0
  offAt : Nat := 0
  /-- Since when it is in current limit, and below 18 V outside its windows; its comparator last read below 18 V (R178, R300). -/
  limitSince : Option Nat := none
  lowSince : Option Nat := none
  low : Bool := false
  /-- Start of the last pulse. -/
  pulseAt : Option Nat := none
  mv : Nat := 0
  faults : Nat := 0
deriving DecidableEq, Repr

/-- The judgement of a trunk bit as halt-release source (R236). -/
structure TrunkJudge where
  /-- A landed GOOD record with 0 has been seen since the last gap. -/
  ready : Bool := false
  rise : Option Nat := none
  /-- The stamp of the latest record that showed 1. -/
  last : Nat := 0
  jam : Bool := false
deriving DecidableEq, Repr

/-- SIN. -/
structure Sin where
  chans : Tab Chan := {}
  pairs : Tab InPair := {}
  srcs : Tab Src := {}
  /-- The next channel of the loop-back test, and the last test (R190). -/
  nextLoop : Nat := 0
  loopAt : Option Nat := none
  trunk : TrunkJudge := {}
  /-- Wake inputs: their filtered states f at Parked entry (R193; log entry 74). -/
  wakeRef : BitVec 48 := 0
  /-- T0 to T7 are switched on: from step 6 of Table: Boot sequence to PFS (R35, R66). -/
  srcOn : Bool := false
deriving DecidableEq, Repr

/-! ### Safety outputs (chapters 02 and 09) -/

/-- An output (R216 to R221, R229). -/
structure Out where
  /-- An on command waits for the end of the output's own slot (R214). -/
  held : Bool := false
  /-- Readback decisions (R202). -/
  pinHigh : Bool := false
  pinLow : Bool := false
  /-- Since when the pin reads low, and high. -/
  lowSince : Option Nat := none
  highSince : Option Nat := none
  /-- Since when the pin reads not low, and not high (R216). -/
  notLowSince : Nat := 0
  notHighSince : Nat := 0
  /-- READBACK INPUT: the filtered high decision, its count, and the tick of the latest sample that the filter has taken (R225). -/
  filt : Bool := false
  count : Nat := 0
  sampledAt : Nat := 0
  /-- Switch state when SOUT last looked, the last switch-off, and the last event that the recovery time counts from: switch-on, end of
  its own pulse, of its group's test, of the closing check (R216, R217). -/
  sw : Bool := false
  offAt : Nat := 0
  onAt : Nat := 0
  /-- 0x2200+n:14; the outputs of the bleed that latched code 4; agreeing AAQ readings in a row, disagreeing ones. -/
  code : Nat := 0
  peers : BitVec 16 := 0
  agree : Nat := 0
  disagree : Nat := 0
  /-- 0x2200+n:15, :17 to :1C. -/
  mv : Nat := 0
  lastTest : Nat := 255
  lastTestAt : Nat := 0
  seen : Nat := 0
  faults : Nat := 0
  pairDis : Bool := false
  /-- Consecutive feeding releases whose W4.n differs from the active's (R227). -/
  pairRun : Nat := 0
  /-- Since when the switch is on, its own dark pulses apart (R219). -/
  onSince : Option Nat := none
deriving DecidableEq, Repr

/-- States of an output group (R208). -/
inductive GrpState where
  | unused | cutOff | fault | closing | closed
deriving DecidableEq, Repr

/-- A run of consecutive samples of an LF monitor: its first sample, and whether it has qualified (R48). -/
structure LfRun where
  since : Option Nat := none
  done : Bool := false
deriving DecidableEq, Repr

/-- The LF monitor of a group: whether it has sampled, the decisions of its last sample, and their runs (R48). -/
structure LfMon where
  seen : Bool := false
  warn : Bool := false
  good : Bool := false
  sag : LfRun := {}
  collapse : LfRun := {}
  ovolt : LfRun := {}
deriving DecidableEq, Repr

/-- An output group (R48 to R51, R208 to R210, R221, R230). -/
structure Grp where
  state : GrpState := .cutOff
  /-- W4.34 or W4.35, and 0x2220+g:11. -/
  latch : Bool := true
  cause : Nat := 1
  /-- When the cut-off was latched. -/
  cutAt : Nat := 0
  /-- 0x2220+g:12, whether it has cleared, when it was latched, the last retry. -/
  code : Nat := 0
  cleared : Bool := false
  faultAt : Nat := 0
  triedAt : Nat := 0
  railOpen : Bool := false
  railClosed : Bool := false
  /-- The LF monitor; LF warning; Good is counted from here; Good has held 100 ms (R48, R50, R51). -/
  lf : LfMon := {}
  warn : Bool := false
  goodSince : Nat := 0
  good : Bool := false
  /-- Since when Good holds for the end of the warning (R48). -/
  clearSince : Nat := 0
  /-- An accepted edge has released the cut-off and the release waits for its boundary (R50, R222). -/
  relDue : Bool := false
  relCut : Bool := false
  /-- Since when the rail reads not closed (R221). -/
  notClosedSince : Nat := 0
  /-- When the switch closed for the check, or passed it, and when it opened last. -/
  closeAt : Nat := 0
  openAt : Nat := 0
  /-- The end of the last group test (R216). -/
  testEnd : Nat := 0
  lastTest : Nat := 255
  mv : Nat := 0
  /-- AAQ readings in a row that disagree with the comparators (R51). -/
  disagree : Nat := 0
  cutOffs : Nat := 0
  faults : Nat := 0
deriving DecidableEq, Repr

/-- What a test pulse is of (R210, R211). -/
inductive TestOf where
  | group (g : Nat)
  | dark (src : DarkSource)
deriving DecidableEq, Repr

/-- The test pulse that runs: its source, its start, the outputs that read not low before it, those switched during the slot,
and the readings in mV that AAQ's urgent conversions have given, by output (R211, R294). -/
structure TestPulse where
  of : TestOf
  start : Nat
  notLow : BitVec 16
  moved : BitVec 16 := 0
  /-- The outputs that were on when it began (R210). -/
  wasOn : BitVec 16 := 0
  urgent : List (Nat × Nat) := []
deriving DecidableEq, Repr

/-- SOUT. -/
structure Sout where
  outs : Tab Out := {}
  grps : Tab Grp := {}
  /-- The last W8 taken: lanes and delivered quality (R90, R140, R200). -/
  w8 : Lanes := 0
  w8q : Nat := 3
  test : Option TestPulse := none
  /-- Since when the members of each parallel group read alike, or differ (R215, R221). -/
  alike : Tab (Option Nat) := {}
  unlike : Tab (Option Nat) := {}
  /-- After a resume no output is on until both groups are released (R150). -/
  holdBoth : Bool := false
deriving DecidableEq, Repr

/-! ### Compare channels, swatch, speed and motion (chapters 10 and 11) -/

/-- A compare or capture channel (R263 to R274, R289). -/
structure TChan where
  /-- 0x2400+c:02 to :08. -/
  mode : Nat := 0
  link : Nat := 0
  master : Nat := 0xFFFF
  target : Nat := 0
  period : Nat := 0
  source : Nat := 0
  edge : Nat := 0
  /-- Table: Compare channel status. -/
  armed : Bool := false
  fired : Bool := false
  late : Bool := false
  new : Bool := false
  ovr : Bool := false
  gated : Bool := false
  /-- Value register, hold register and whether it holds a value (R272). -/
  value : Nat := 0
  hold : Nat := 0
  held : Bool := false
  events : Nat := 0
  clocks : Nat := 0
  /-- The master has fired since this channel was armed (R269). -/
  masterFired : Bool := false
  /-- The channel has fired since its mode was last set (R266). -/
  everFired : Bool := false
  /-- The arm lane at the previous commit (R268). -/
  lane : Bool := false
deriving DecidableEq, Repr

/-- A channel's entry in a swatch record (R276). -/
structure SwChan where
  status : Nat := 0
  mode : Nat := 0
  events : Nat := 0
  value : Nat := 0
  target : Nat := 0
deriving DecidableEq, Repr

/-- A speed channel's entry in a swatch record. -/
structure SwSpeed where
  edges : Nat := 0
  estimate : Nat := 0
  last : Nat := 0
  periodNs : Nat := 0
deriving DecidableEq, Repr

/-- A station's counters in a swatch record. -/
structure SwStation where
  landed : Nat := 0
  crc : Nat := 0
  expiries : Nat := 0
deriving DecidableEq, Repr

/-- A swatch record (R276). -/
structure SwRecord where
  id : Nat := 0
  origin : Nat := 0
  late : Bool := false
  locked : Bool := false
  module_ : Nat := 0
  tsw : Nat := 0
  latchedAt : Nat := 0
  lotId : Nat := 0
  chans : Tab SwChan := {}
  speeds : List SwSpeed := []
  energy : List Nat := []
  stations : Tab SwStation := {}
deriving DecidableEq, Repr

/-- The swatch (R275 to R278, R288). -/
structure Swatch where
  state : Nat := 0
  id : Nat := 0
  tsw : Nat := 0
  origin : Nat := 0
  /-- LATE is owed at the latch: the requested time had passed. -/
  late : Bool := false
  select : Nat := 0
  held : BitVec 16 := 0
  startedAt : Nat := 0
  record : Option SwRecord := none
  /-- The records gathered from other modules, by their select value, as they came (R277). -/
  others : Tab (List Byte) := {}
deriving DecidableEq, Repr

/-- A speed channel (R280 to R282, R290). -/
structure SpeedCh where
  /-- Stamps of the measured edges, newest first, at most 65. -/
  stamps : List Nat := []
  /-- Complete period: span in ticks over m periods; m 0 is none. -/
  span : Nat := 0
  m : Nat := 0
  level : Bool := false
  edges : Nat := 0
  /-- Estimate in mHz at the last update. -/
  est : Nat := 0
  fault : BitVec 4 := 0
  /-- Last time an over-range condition held; since when a valid level holds; times of the last rejected pulses. -/
  overAt : Nat := 0
  validSince : Option Nat := none
  rejTimes : List Nat := []
  rejected : Nat := 0
  faults : Nat := 0
  loop : Nat := 255
  startAt : Nat := 0
deriving DecidableEq, Repr

/-- A speed pair (R283, R284). -/
structure SpeedPair where
  fault : Bool := false
  since : Option Nat := none
  largest : Nat := 0
deriving DecidableEq, Repr

/-- A motion function (R245 to R249, R251). -/
structure Motion where
  /-- W2 lanes +0 to +4. -/
  within : Bool := false
  stand : Bool := false
  ramp : Bool := false
  stopped : Bool := false
  violated : Bool := false
  /-- The request lane of the last W8 taken. -/
  request : Bool := false
  tr : Nat := 0
  vr : Nat := 0
  fallback : Bool := false
  standSince : Option Nat := none
  overSince : Option Nat := none
  underSince : Option Nat := none
  envSince : Option Nat := none
  enableSince : Option Nat := none
  cause : Nat := 0
  violations : Nat := 0
deriving DecidableEq, Repr

/-- TMU. -/
structure Tmu where
  chans : Tab TChan := {}
  swatch : Swatch := {}
  speeds : Tab SpeedCh := {}
  spairs : Tab SpeedPair := {}
  motions : Tab Motion := {}
  /-- The next speed channel of the loop-back test (R282). -/
  nextLoop : Nat := 0
  /-- When the last one was tested. -/
  loopAt : Option Nat := none
deriving DecidableEq, Repr

/-! ### Analog acquisition (chapter 12) -/

/-- An analog input (R295 to R297, R305). -/
structure AChan where
  value : Int := 0
  raw : Nat := 0
  /-- W3 lanes +0 to +2. -/
  below : Bool := false
  above : Bool := false
  valid : Bool := false
  cause : Nat := 0
  at_ : Nat := 0
  invalids : Nat := 0
  /-- Consecutive valid conversions, at most 3. -/
  run : Nat := 0
deriving DecidableEq, Repr

/-- An analog pair (R298, R299). -/
structure APair where
  diff : Nat := 0
  fault : Bool := false
  since : Option Nat := none
  largest : Nat := 0
deriving DecidableEq, Repr

/-- AAQ. -/
structure Aaq where
  chans : Tab AChan := {}
  pairs : Tab APair := {}
  /-- Round of the last conversion of each entry, plus 1 (R292). -/
  rounds : Tab Nat := {}
  /-- VREF_A and VREF_B in 0.1 mV; consecutive checks outside and inside 0.5 %; latched faults (R301). -/
  vrefA : Nat := 0
  /-- VREF_A deviates by more than 0.5 % in this round. -/
  devA : Bool := false
  vrefB : Nat := 0
  badA : Nat := 0
  badB : Nat := 0
  badBoth : Nat := 0
  goodA : Nat := 0
  goodB : Nat := 0
  refA : Bool := false
  refB : Bool := false
  /-- MF-DGND offset in mV, consecutive readings of 0.50 V, the ground fault, since when below 0.25 V, last warning (R302). -/
  offset : Int := 0
  gndRun : Nat := 0
  gnd : Bool := false
  gndLow : Option Nat := none
  gndWarn : Option Nat := none
  urgent : Nat := 0
  aborted : Nat := 0
  /-- The last urgent request, and the end of the table conversion that it restarted (R294). -/
  urgentAt : Option Nat := none
  restartEnd : Nat := 0
  /-- Consecutive readings: bulk below 245 V, bulk apart from PDM, sources low, rails outside 7 % (R300). -/
  bulkLow : Nat := 0
  bulkApart : Nat := 0
  srcLow : Tab Nat := {}
  railBad : Tab Nat := {}
deriving DecidableEq, Repr

/-! ### Answers of the object dictionary -/

/-- The final answer of a record or command: DONE, DATA, or ABORT with a code (R321, R324). -/
inductive Reply where
  | done
  | data (bytes : List Byte)
  | abort (code : Nat)
deriving DecidableEq, Repr

/-- A record as it arrives: type, tag, address, stated body length, body (R320). -/
structure Rec0 where
  type : Nat
  tag : Nat
  addr : Nat
  len : Nat
  body : List Byte
deriving DecidableEq, Repr

/-- A record outstanding, queued or PENDING (R322): its final answer once it has completed, whether its first answer has been
sent, and whether it is only the answer of a repeated record or of a record over the limit, which completes nothing. -/
structure Outst where
  rec0 : Rec0
  final : Option Reply := none
  first : Bool := false
  echo : Bool := false
  /-- Its execution has begun. -/
  started : Bool := false
deriving DecidableEq, Repr

/-- A kept final answer (R323). -/
structure Kept where
  tag : Nat
  type : Nat
  addr : Nat
  reply : Reply
deriving DecidableEq, Repr

/-- Beats of a BEAT WRITE that are held: the entry's address, the next offset, the bytes, the tick of the beat at offset 0
(R324). -/
structure HeldBeat where
  addr : Nat
  next : Nat
  bytes : List Byte
  at_ : Nat
deriving DecidableEq, Repr

/-- HPO (R307 to R331). -/
structure Hpo where
  /-- 0x1E00:01 and :02 (rws). -/
  etherType : Nat := 0x88B6
  /-- The EtherType still in use until the response that carries DONE has been sent (R331). -/
  etherOld : Option Nat := none
  portEnable : Nat := 3
  /-- 0x1E00:10 to :1B. -/
  active : Nat := 0
  linkA : Bool := false
  linkB : Bool := false
  /-- The port that keeps its link in Parked: 1 HA, 2 HB (R330). -/
  keptPort : Nat := 1
  /-- Real time of the last Cycle Frame from the partner that was answered on HA (R329). -/
  answeredA : Option Nat := none
  partner : Option Nat := none
  period : Nat := 0
  quality : Nat := 3
  seq : Nat := 0
  /-- The n_c of the last accepted Cycle Frame of the bound partner (R314). -/
  nc : Option Nat := none
  tLast : Nat := 0
  landed : Bool := false
  accepted : Nat := 0
  discarded : Nat := 0
  linkFails : Nat := 0
  gaps : Nat := 0
  busy : Nat := 0
  respStart : Nat := 0
  respMax : Nat := 0
  releases : Nat := 0
  /-- Until when each port sends its last Response Frame (R316). -/
  sendA : Nat := 0
  sendB : Nat := 0
  /-- Records outstanding in execution order, and the last 32 kept answers, newest last (R322, R323). -/
  out : List Outst := []
  kept : List Kept := []
  /-- Answers to records that came while parked, each for a MAC address (R330). -/
  parked : List (Nat × List Byte) := []
  /-- The held beats, at most one set for each entry. -/
  held : List HeldBeat := []
  /-- Generation counts of the DOMAIN entries by index * 256 + subindex (R325). -/
  gens : Tab Nat := {}
  /-- The last Response Frame sent, from the destination address to the FCS, and its port. -/
  response : List Byte := []
  responsePort : Nat := 0
  /-- The last final answer of a record or command. -/
  reply : Option Reply := none
deriving DecidableEq, Repr

/-! ### The trunk (chapter 15) -/

/-- A trunk station at run time (R365 to R367). -/
structure Station where
  quality : Nat := 3
  /-- 0x5000+s:12 to :16. -/
  landed : Nat := 0
  crc : Nat := 0
  expiries : Nat := 0
  stamp : Nat := 0
  seq : Nat := 0
  /-- A record with quality 0 landed in the previous cycle, and a record has landed in this one (R367). -/
  goodPrev : Bool := false
  goodNow : Bool := false
  landedNow : Bool := false
  /-- What the copies sent on TA and on TB brought in this cycle: judged, and the accepted slot's quality, data and stamp. -/
  judgedA : Bool := false
  judgedB : Bool := false
  copyA : Option (Nat × Nat × Nat) := none
  copyB : Option (Nat × Nat × Nat) := none
  /-- The data last landed, or 0 at FAULT. -/
  image : Nat := 0
deriving DecidableEq, Repr

/-- TRK. -/
structure Trk where
  /-- The trunk runs (R349), its epoch grid, and the cycles started on it. -/
  running : Bool := false
  epoch : Nat := 0
  cycle : Option Nat := none
  stations : Tab Station := {}
  /-- The frames last sent, in order of frame index, as sent on TA (R361, R364). -/
  sent : List (List Byte) := []
  /-- The same frames as sent on TB at the same time (R361). -/
  sentB : List (List Byte) := []
  /-- The frame that a pair module that is not Active has forwarded last: the port it went out of (1 TA, 2 TB), the frame (R406). -/
  relayed : Option (Nat × List Byte) := none
  /-- Judged copies of this cycle by frame index, of the TA and the TB direction. -/
  backA : Tab Nat := {}
  backB : Tab Nat := {}
  /-- The ring break: recognised in a cycle, the stations at it (R369); a WRAPPED copy has come in this cycle. -/
  broken : Bool := false
  breakA : Nat := 0
  breakB : Nat := 0
  wrapped : Bool := false
  /-- Highest slot position served in wrapped TA copies, lowest in wrapped TB copies, of this cycle, plus 1. -/
  hiA : Nat := 0
  loB : Nat := 0
  /-- The links of TA and TB are up (R348, R469). -/
  linkA : Bool := false
  linkB : Bool := false
deriving DecidableEq, Repr

/-! ### One-time-programmable memory (chapter 17) -/

/-- A fuse word: the fuses that programming has blown, the three margins of its latest reading, and the data and the state that the
reading gives it; an unwritten word has data 0 (R409, R412). -/
structure OtpWord where
  fuses : BitVec 73 := 0
  last : WordRead := {}
  data : Nat := 0
  state : WordState := .unwritten
deriving DecidableEq, Repr

/-- A word that is written with `d` and reads good. -/
def OtpWord.holding (d : Nat) : OtpWord := { fuses := otpFuses d, last := ⟨otpFuses d, otpFuses d, otpFuses d⟩, data := d, state := .good }

/-- What the controller is programming (R410, R418). -/
inductive OtpJob where
  | word (a data : Nat)
  | lock (r : Nat) (read : Bool)
deriving DecidableEq, Repr

/-- The words written at delivery (R414, log entry 5). -/
def otpFactory : List (Nat × Nat) := [
  (0, 0), (1, 0), (2, 0), (3, 0), (4, 0), (5, 0), (6, 0), (7, 0), (8, 0x0EE6B2800EE6B280), (9, 0), (10, 0), (11, 0), (12, 0),
  (31, 0x652BEBAB5EA10D00), (32, 0x0000214441534C44), (33, 0x100000000), (34, 0x442158504602), (35, 1),
  (36, 0x141CFC9842C4B0E3), (37, 0x24B96F99C8F4FB9A), (38, 0x4C939B64E441AE27), (39, 0x55B852781B9995A4),
  (40, 0x47422CE1F2D1176B), (41, 0xF240A463E5E6BCF8), (42, 0xA033EB2D817D0377), (43, 0x96C298D84539A1F4),
  (44, 0x9B7F1AFEE242E34F), (45, 0x169E0F7C4AEBE78E), (46, 0xCE5E316B5733CE2B), (47, 0xF551BF376840B6CB),
  (63, 0x1916B01B5EA11001), (192, 0), (223, 0xF9EF0C725EA10106), (256, 0), (257, 0), (258, 0), (259, 0), (287, 0x9F6E79465EA10408)]

/-- The OTP array and its controller. -/
structure Otp where
  words : Tab OtpWord := ⟨otpFactory.map (fun e => (e.1, .holding e.2))⟩
  /-- The three write-lock and read-lock fuses of each region (R417). -/
  wlock : Tab Nat := ⟨[(0, 7), (1, 7), (8, 7)]⟩
  rlock : Tab Nat := ⟨[(0, 7), (8, 7)]⟩
  /-- 0x2900:02 and the last value written to 0x2900:05. -/
  sel : Nat := 0
  progData : Nat := 0
  job : Option OtpJob := none
  /-- The job's record is the front record of HPO (R426). -/
  byRecord : Bool := false
  /-- 0x2900:08 and the highest die temperature at that re-read (R413). -/
  reread : Nat := 0
  rereadTemp : Int := 0
  /-- Until power cycle: JTAG locked, exports cannot be signed (R422). -/
  jtagLocked : Bool := false
  noSign : Bool := false
  /-- The regions that Boot's step 3 does not read are still to be read (R413). -/
  readOwed : Bool := false
  /-- 0x1F95, the firmware version 0x100A and the certificate in the CP's store (R336, log entry 5). -/
  exportsSigned : Nat := 0
  firmware : Nat := 0x0100
  cert : List Byte := []
deriving DecidableEq, Repr

/-! ### Self-test, repair, check-value units (chapter 18) -/

/-- The BIST controller, repairs and the health report (R428 to R442). -/
structure Bist where
  /-- 0x2800:02, and which tests have failed a part of their running sweep. -/
  failed : BitVec 8 := 0
  sweepFail : BitVec 8 := 0
  /-- Test 4: the loop-back tests of I00 to I47 (bit 0) and of S0 to S7 (bit 1) have come round in its running sweep (R430). -/
  loopEnds : BitVec 2 := 0
  /-- Next position of the rotation (0 to 17), and the next slice of tests 0 to 3. -/
  pos : Nat := 0
  slices : Tab Nat := {}
  /-- Completion time of the last sweep and sweeps completed, of each test. -/
  lastSweep : Tab Nat := {}
  sweeps : Tab Nat := {}
  /-- Last rate in k WOP/s with the setpoint and the temperature at it, and measurements below the floor in a row (R431). -/
  rate : Nat := 0
  rateSp : Nat := 0
  rateTemp : Int := 0
  rateLow : Nat := 0
  /-- Repairs in effect in the order in which they took effect, those requested, and the spares that failed (R438, R439). -/
  repairs : List Repair := []
  wanted : List Repair := []
  unusable : List (Nat × Nat) := []
  /-- The spares that have failed in the running sweep of their test (R438). -/
  spareFail : List (Nat × Nat) := []
  /-- 0x2800:08 and :09; the repairs still to be fused; one entry has failed already; the record is HPO's front record (R440). -/
  fuseVal : Nat := 0
  fuseState : Nat := 0
  fuseLeft : List Repair := []
  fuseFailed : Bool := false
  fuseByRecord : Bool := false
  /-- When the last entry of the running fuse repair was read back: the next one is blown from then on (R427, R446). -/
  fuseAt : Option Nat := none
  /-- The health report and its generation (R442). -/
  reportGen : Nat := 0
  report : List Byte := []
deriving DecidableEq, Repr

/-- A check-value unit (R342, R444). -/
structure Cvu where
  poly : Nat := 0
  fold : Nat := 0
  run : Nat := 0
  /-- The fold is armed; FINALISE has ended the calculation. -/
  armed : Bool := false
  ended : Bool := false
deriving DecidableEq, Repr

/-! ### Cascade and pair (chapter 16) -/

/-- A source of cascade frames as a receiver sees it (R376, R377). -/
structure CSource where
  /-- When its last valid frame came; the last WORDS sequence accepted from it. -/
  lastValid : Option Nat := none
  seq : Option Nat := none
  /-- Its words are FAULT. -/
  fault : Bool := true
  /-- A valid frame has come within 1 ms. -/
  present : Bool := false
  /-- Hop count of its last frame, and when two sources were last seen under the number. -/
  hop : Nat := 0
  dupAt : Option Nat := none
deriving DecidableEq, Repr

/-- A RESULT: sequence, ground signature, commit tick, and W8 where the release wrote it (R379, R382). -/
structure PResult where
  seq : Nat
  sig : Nat
  tick : Nat
  wrote : Bool
  tag : Nat
  val : Lanes
deriving DecidableEq, Repr

/-- An IMAGE: sequence, release stamp, the input-bound words (R379 to R381). -/
structure PImage where
  seq : Nat
  stamp : Nat
  words : List (Nat × Cell)
deriving DecidableEq, Repr

/-- A partition as the pair exchange sees it. -/
structure CPart where
  own : Option PResult := none
  peer : Option PResult := none
  /-- The last sequence compared, plus 1; consecutive missing RESULTs (R382, R383). -/
  compared : Nat := 0
  missing : Nat := 0
  /-- IMAGEs that wait, oldest first (R381, R402). -/
  images : List PImage := []
  /-- Its FULL IMAGE is installed (at the standby) or sent (at the active) in this resync (R402). -/
  full : Bool := false
  /-- The cut words of the last IMAGE used: the active's view for R227, R386 and R387. -/
  view : List (Nat × Cell) := []
deriving DecidableEq, Repr

/-- What the last STATUS of the partner said (R379, R388, R393). -/
structure Peer where
  seen : Bool := false
  /-- A STATUS has come since the link last went up. -/
  live : Bool := false
  state : Nat := 0
  role : Nat := 0
  ready : Bool := false
  cause : Nat := 255
  disc : Nat := 0
  lotId : Nat := 0
  sha : List Byte := []
  /-- Consecutive STATUS frames with the role Active; when the last one came. -/
  actRun : Nat := 0
  activeAt : Option Nat := none
deriving DecidableEq, Repr

/-- Steps of a resync (R402): identity, request sent, FULL IMAGEs, catching up, counting clean cycles. -/
inductive ResyncStep where
  | identity | requested | gathering | catching | counting
deriving DecidableEq, Repr

/-- A front-end comparison (R386): differing since, agreeing since, set. -/
structure FrontEnd where
  diffSince : Option Nat := none
  agreeSince : Option Nat := none
  set : Bool := false
deriving DecidableEq, Repr

/-- A Parked entry of a group (R404): t0, the modules whose answers are missing, the first refusal code. -/
structure GroupPark where
  t0 : Nat
  /-- Members 1 to 7, and 8 for the partner. -/
  waiting : List Nat
  since : Nat
  /-- This module started the entry, and the tag of the record that brought PARK; a partner master relays and answers. -/
  first : Bool
  tag : Option Byte
deriving DecidableEq, Repr

/-- What this module's OWN interface does (R389, R390): without supply it conducts with the 6 V clamp; a module that is not Active sources
the loop; the Active holds 10 mA, and is commanded to the released band when its drive is removed. -/
inductive OwnDrive where
  | clamp | sourcing | holding | released
deriving DecidableEq, Repr

/-- CPL. -/
structure Cpl where
  /-- 0x2000:07. -/
  role : Role := .solo
  /-- 0x2700:10; the session fold; last good frame; consecutive wrong checks; frames sent (R378, R379). -/
  link : Nat := 0
  fold : List Byte := []
  lastGood : Nat := 0
  badRun : Nat := 0
  frames : Nat := 0
  /-- The frames sent on XL_TX and CO at the instant `outAt` (real time): the model's own view of the pins. -/
  outAt : Nat := 0
  xlOut : List (List Byte) := []
  caOut : List (List Byte) := []
  /-- Sequences of the cascade frames sent, by destination (R374). -/
  seqs : Tab Nat := {}
  sources : Tab CSource := {}
  /-- Discarded cascade frames (R376), 0x2700:22, 0x2700:23. -/
  discarded : Nat := 0
  breaks : Nat := 0
  ringNs : Nat := 0
  peer : Peer := {}
  parts : Tab CPart := {}
  /-- 0x2700:11, :12, and since when the band holds (R389, R394). -/
  ownCurrent : Nat := 0
  ownBand : OwnBand := .openWire
  ownSince : Nat := 0
  ownDrive : OwnDrive := .clamp
  /-- 0x2700:13, since when this module pulls, open wire (R392). -/
  trip : Nat := 0
  tripAt : Nat := 0
  tripOpen : Bool := false
  /-- Since when the TRIP loop reads below 0.5 mA (R392). -/
  tripLow : Option Nat := none
  /-- 0x2700:14, :15, :16 and :18. -/
  inStep : Nat := 0
  disagreements : Nat := 0
  load : Nat := 0
  takeOvers : Nat := 0
  /-- A disagreement in this module cycle; consecutive cycles with one; any release or comparison of the cycle was not clean
  (R400, R402). -/
  disNow : Bool := false
  disRun : Nat := 0
  dirty : Bool := false
  /-- The standby is not ready since a disagreement: its time, the sweeps and repairs counted then (R400). -/
  disAt : Option Nat := none
  sweepSnap : Tab Nat := {}
  repairSnap : Nat := 0
  /-- Front-end comparisons by W0 lane, 64 + n for W2, 80 + n for W3 (R386). -/
  fronts : Tab FrontEnd := {}
  /-- Consecutive releases at which an output is energised against the active (R387). -/
  stuck : Tab Nat := {}
  /-- Resync: step, t_s, times of the restarts (R402). -/
  resync : ResyncStep := .identity
  ts : Nat := 0
  restarts : List Nat := []
  /-- A partner's STATUS with another lot has been logged in this resync (R402). -/
  lotLogged : Bool := false
  gpark : Option GroupPark := none
  /-- The module was Active at Parked entry (R404). -/
  wasActive : Bool := false
  /-- When STATUS and KEEPALIVE were last sent and the ring and the cross-link round trip last measured. -/
  statusAt : Option Nat := none
  keepAt : Option Nat := none
  ringAt : Option Nat := none
  tripTimeAt : Option Nat := none
deriving DecidableEq, Repr

/-! ### The flight recorder (chapter 19) -/

/-- A record of the recorder stream: its place in the stream, when it was written, its release stamp (or event stamp), its bytes
(R448 to R451, R453). -/
structure Rcd where
  pos : Nat
  at_ : Nat
  stamp : Nat
  bytes : List Byte
deriving DecidableEq, Repr

/-- An episode, 0x2A40+e (R341, R456, R458). -/
structure Episode where
  state : Nat := 0
  trigger : Nat := 0
  first : Nat := 0
  last : Nat := 0
  trigAt : Nat := 0
  /-- First page, and the page after the last one. -/
  fromPage : Nat := 0
  toPage : Nat := 0
  lotId : Nat := 0
  sha : List Byte := []
  cause : Nat := 255
  truncated : Bool := false
  frozenAt : Nat := 0
  /-- Stream position up to which the last page belongs to the episode: what comes into that page later does not (R456). -/
  endPos : Nat := 0
deriving DecidableEq, Repr

/-- The recording of one partition as the replay follows it: next record, last attempt keys, its words, the last matching
checkpoint (R460, R461). -/
structure RPart where
  rest : List Rcd := []
  n : Nat := 0
  stamp : Option Nat := none
  words : Tab (Option Cell) := {}
  key : Key := 0
  failed : Option Key := none
  check : Nat := 0
deriving DecidableEq, Repr

/-- Replay (R459 to R464): 0x2A00:10 to :16. -/
structure Replay where
  episode : Nat := 0
  parts : Tab RPart := {}
  released : Nat := 0
  progress : Nat := 0
  divPart : Nat := 255
  divSeq : Nat := 0
  divKind : Nat := 0
  divCheck : Nat := 0
  divergences : Nat := 0
  /-- The recording ends at a gap. -/
  gapEnd : Bool := false
  /-- The recorded SAFE compare events and captures that are still to come (R274, R460). -/
  events : List Rcd := []
deriving DecidableEq, Repr

/-- A NAND page: its sequence and the boot count in its header (R452). -/
structure NandPage where
  page : Nat
  boot : Nat
  at_ : Nat
deriving DecidableEq, Repr

/-- FRC, staging and NAND. -/
structure Rec where
  /-- The stream since manufacture that is still held, its length, and what of it stands in NAND (R452). -/
  recs : List Rcd := []
  total : Nat := 0
  written : Nat := 0
  pages : List NandPage := []
  /-- Bytes written to NAND since the model's reset (R454). -/
  nand : Nat := 0
  /-- When the pages that the ring has reused within 24 h were written (0x2A00:03). -/
  reused : List Nat := []
  /-- Stream position of the last release record and its full signature: it becomes a CHECKPOINT if a gap, a freeze or a state
  change follows (R448). -/
  lastRel : Option (Nat × Nat) := none
  /-- The current 10 ms window and whole second and their bytes (R453). -/
  winAt : Nat := 0
  winBytes : Nat := 0
  secAt : Nat := 0
  secBytes : Nat := 0
  /-- 0x2A00:04 and :05. -/
  budget : Nat := 8000
  gaps : Nat := 0
  /-- An open gap: stamp of its first lost record and bytes lost (R453). -/
  gap : Option (Nat × Nat) := none
  /-- The owed keyframe follows a gap: it waits for a release at which it fits (R453). -/
  keyWaits : Bool := false
  /-- Stream position and time of the last keyframe; one is owed (R451). -/
  keyPos : Nat := 0
  keyAt : Nat := 0
  keyOwed : Bool := true
  /-- Input-bound words and W8 as last recorded, by partition (R447). -/
  lastIn : Tab (Option Cell) := {}
  lastW8 : Option Cell := none
  /-- 0x2A40 to 0x2A7F, the episode whose post-trigger time runs and its end (R456). -/
  episodes : Tab Episode := {}
  open_ : Option (Nat × Nat) := none
  /-- The episode frozen in the present module cycle, and when (R456). -/
  cycleTrig : Option (Nat × Nat) := none
  /-- Level of the trigger lane at the last commit of its partition. -/
  lane : Bool := false
  /-- 0x2A00:08. -/
  sel : Nat := 0
  replay : Replay := {}
deriving DecidableEq, Repr

/-! ### The diagnostic log (chapter 14) -/

/-- One entry of the diagnostic log (R344). -/
structure LogEntry where
  seq : Nat
  time : Nat
  boot : Nat
  index : Nat
  sub : Nat
  severity : Nat
  item : Nat
  value : Nat
deriving DecidableEq, Repr

/-- The log: the last 4,096 entries, oldest first, the newest sequence number, 0x6000:04. -/
structure Logb where
  entries : List LogEntry := []
  seq : Nat := 0
  select : Nat := 0
deriving DecidableEq, Repr

/-- The state of the module. -/
structure State where
  clk : Clk := {}
  pwr : Pwr := {}
  sup : Sup := {}
  lot : LotBlk := {}
  nmt : Nmt := {}
  sle : Sle := {}
  sin : Sin := {}
  sout : Sout := {}
  tmu : Tmu := {}
  aaq : Aaq := {}
  hpo : Hpo := {}
  trk : Trk := {}
  otp : Otp := {}
  bist : Bist := {}
  cvus : Tab Cvu := {}
  cpl : Cpl := {}
  rcr : Rec := {}
  log : Logb := {}
  /-- The model's own counter of the free values taken (log entry 3). -/
  fresh : Nat := 0
  /-- The commands that wait, first in, first out. -/
  pending : List Instr := []
deriving DecidableEq, Repr

/-- The reasons for which a step could stop with a fault: there are none. No command of the table stops the block; what the spec
forbids is answered with an abort code, and what it calls a fault is state of the module. -/
inductive Fault where
deriving DecidableEq, Repr

/-- The reasons for which a command could be refused by the model. -/
inductive Refusal where
  /-- Raised by the dispatch for a row of the table without a meaning (safe); every row has one, so nothing raises it. -/
  | notModelled (mnemonic : String)
deriving DecidableEq, Repr

/-- The module right after reset: Off, never yet powered, every field at its default (log entries 1 and 5). -/
def State.reset : State := {}

end Sys2Proof.Machine
end

