-- ==== Sys2Proof/Machine/Lots.lean ====
section
/-! DEFINITION. What a dye lot says: the header (R69), the sections (R70) and the fields of sections 0x0001 to 0x0007 that the
running module reads. A section or header that is too short reads as 0. -/

namespace Sys2Proof.Machine

/-- The bytes of a section; an absent one is empty. -/
def Lot.sec (l : Lot) (id : Nat) : List Byte := l.secs.get [] id

/-- Header fields (R69). -/
def Lot.id (l : Lot) : Nat := u64 l.hdr 8
def Lot.minSilicon (l : Lot) : Nat := u16 l.hdr 20
def Lot.minFirmware (l : Lot) : Nat := u16 l.hdr 22
def Lot.tool (l : Lot) : Nat := u32 l.hdr 24
def Lot.created (l : Lot) : Nat := u64 l.hdr 32
def Lot.keySlot (l : Lot) : Nat := u8 l.hdr 42
def Lot.pair (l : Lot) : Bool := bitOf (u8 l.hdr 43) 0
def Lot.cascade (l : Lot) : Bool := bitOf (u8 l.hdr 43) 1
def Lot.members (l : Lot) : Nat := u8 l.hdr 44
def Lot.member (l : Lot) : Nat := u8 l.hdr 45
def Lot.side (l : Lot) : Nat := u8 l.hdr 46
def Lot.production (l : Lot) : Bool := bitOf (u8 l.hdr 47) 0
/-- The short fingerprint: the first four digest bytes, first byte first (R73). -/
def Lot.fingerprint (l : Lot) : Nat := beNat (slice l.digest 0 4)

/-! ### The Partition Table, section 0x0004 (R154) -/

def Lot.pInUse (l : Lot) (p : Nat) : Bool := bitOf (u8 (l.sec 4) (16 * p)) 0
def Lot.pReflex (l : Lot) (p : Nat) : Bool := bitOf (u8 (l.sec 4) (16 * p)) 1
def Lot.pClass (l : Lot) (p : Nat) : Nat := u8 (l.sec 4) (16 * p + 1)
def Lot.pFirst (l : Lot) (p : Nat) : Nat := u16 (l.sec 4) (16 * p + 2)
def Lot.pCount (l : Lot) (p : Nat) : Nat := u32 (l.sec 4) (16 * p + 4)
/-- Period and offset in ticks: units of 5 us are 250 ticks (R154). -/
def Lot.pPeriod (l : Lot) (p : Nat) : Nat := 250 * u16 (l.sec 4) (16 * p + 8)
def Lot.pOffset (l : Lot) (p : Nat) : Nat := 250 * u16 (l.sec 4) (16 * p + 10)

/-- The partitions in use, in ascending order. -/
def Lot.inUse (l : Lot) : List Nat := (List.range 16).filter l.pInUse

/-- The feeding partition: the shortest period in use, the lowest number where several share it (R145). -/
def Lot.feeding (l : Lot) : Option Nat :=
  l.inUse.foldl (fun a p => match a with
    | none => some p
    | some q => if l.pPeriod p < l.pPeriod q then some p else some q) none

/-- The watchdog window in counts of the RC oscillator: floor of 1.5 periods in us (R145). -/
def Lot.wdWindow (l : Lot) : Nat :=
  match l.feeding with
  | none => 0
  | some p => 3 * l.pPeriod p / 2 / usTicks

/-! ### The Binding Table, section 0x0003 (R92, R93) -/

def Lot.bType (l : Lot) (w : Nat) : Nat := u8 (l.sec 3) (32 * w)
def Lot.bParam (l : Lot) (w : Nat) : Nat := u8 (l.sec 3) (32 * w + 1)
def Lot.bPartner (l : Lot) (w : Nat) : Nat := u16 (l.sec 3) (32 * w + 2)
def Lot.bForce (l : Lot) (w : Nat) : Bool := bitOf (u8 (l.sec 3) (32 * w + 4)) 0
def Lot.bConst (l : Lot) (w : Nat) : Lanes := bytesLanes (slice (l.sec 3) (32 * w + 8) 16)

/-- The initial tag of a word by its binding type and parameter, the force-NONSAFE flag apart (Table: Binding types and
initial tags; the fixed words by R91). With no active lot too W0 to W5 and W8 keep theirs (log entry 22). -/
def initTagOf (w type param : Nat) : Tag :=
  if w < 16 then
    (if w < 6 then 0x04#8 else if w = 8 then 0x14#8 else 0x03#8)
  else match type with
    | 1 => 0x04#8
    | 2 => if bitOf param 3 then 0x14#8 else 0x0B#8
    | 3 => 0x0F#8
    | 4 => 0x14#8
    | 5 => 0x33#8
    | 6 => 0x14#8
    | 7 => 0x14#8
    | 8 => 0x00#8
    | 9 => 0x1B#8
    | _ => 0x03#8

/-- The tag with the force-NONSAFE flag of its binding added (R93). -/
def Lot.force (l : Lot) (w : Nat) (t : Tag) : Tag := if w ≥ 16 ∧ l.bForce w then t ||| 0x20#8 else t

/-- The initial tag of a word (R93, R98). -/
def Lot.initTag (l : Lot) (w : Nat) : Tag := l.force w (initTagOf w (l.bType w) (l.bParam w))

/-- The initial value of a word: a CONST word holds its constant, every other word 0 (R98). -/
def Lot.initVal (l : Lot) (w : Nat) : Lanes := if w ≥ 16 ∧ l.bType w = 8 then l.bConst w else 0

/-- A word that WOPs may write: W8, WORK, TRUNK-OUT, HOST-OUT, CASCADE out (R93). -/
def Lot.mayWrite (l : Lot) (w : Nat) : Bool :=
  if w < 16 then decide (w = 8)
  else match l.bType w with
    | 2 => bitOf (l.bParam w) 3
    | 4 => true
    | 6 => true
    | 7 => true
    | _ => false

/-- An input-bound word: W0 to W5, LOCAL, CASCADE in, TRUNK-IN, HOST-IN, PAIR (chapter 04). -/
def Lot.inputBound (l : Lot) (w : Nat) : Bool :=
  if w < 16 then decide (w < 6)
  else match l.bType w with
    | 1 => true
    | 2 => ! bitOf (l.bParam w) 3
    | 3 => true
    | 5 => true
    | 9 => true
    | _ => false

/-! ### The Mask Table, section 0x0002, and the lane timer presets, section 0x0006 (R108, R117) -/

def Lot.mask (l : Lot) (e : Nat) : Lanes := bytesLanes (slice (l.sec 2) (16 * e) 16)
/-- The preset P of a lane timer. -/
def Lot.preset (l : Lot) (t : Nat) : Nat := field (u32 (l.sec 6) (4 * t)) 23 0
/-- The counts of one tick of a lane timer: 500 for 10 us, 50,000 for 1 ms. -/
def Lot.timerTick (l : Lot) (t : Nat) : Nat := if bitOf (u32 (l.sec 6) (4 * t)) 24 then 50000 else 500

/-! ### WOPs, section 0x0001 (R104) -/

/-- A source operand field (R104). -/
structure Operand where
  addr : Nat
  rot : Nat
  inv : Bool
deriving DecidableEq, Repr

/-- A WOP by its fields (R104). `aux` keeps the bit numbers of the WOP: AUX[8] is bit 0 of it. -/
structure Wop where
  cls : Nat
  lut : BitVec 16
  a : Operand
  b : Operand
  c : Operand
  d : Operand
  dest : Nat
  mask : Nat
  aux : Nat
  tag : Nat
deriving DecidableEq, Repr

/-- An operand field of 19 bits. -/
def Operand.ofNat (v : Nat) : Operand := ⟨field v 18 8, field v 7 1, bitOf v 0⟩

/-- The WOP that 128 bits hold. -/
def Wop.ofNat (v : Nat) : Wop :=
  { cls := field v 127 124, lut := BitVec.ofNat 16 (field v 123 108),
    a := Operand.ofNat (field v 107 89), b := Operand.ofNat (field v 88 70),
    c := Operand.ofNat (field v 69 51), d := Operand.ofNat (field v 50 32),
    dest := field v 31 21, mask := field v 20 14, aux := field v 13 8, tag := field v 7 0 }

/-- AUX[i] as the spec numbers it: bits 8 to 13 of the WOP. -/
def Wop.auxBit (w : Wop) (i : Nat) : Bool := bitOf w.aux (i - 8)

/-- WOP i of the program. -/
def Lot.wop (l : Lot) (i : Nat) : Wop := Wop.ofNat (leNat (slice (l.sec 1) (16 * i) 16))

/-- The WOPs of a partition in order, read in one pass over its bytes. -/
def Lot.wops (l : Lot) (p : Nat) : List Wop :=
  (blocks 16 (((l.sec 1).drop (16 * l.pFirst p)).take (16 * l.pCount p))).map (fun b => Wop.ofNat (leNat b))

/-! ### Which operands count, and which words a partition reads and writes (R95, R106, R107, R113) -/

/-- A 4-input table depends on input j (R106). -/
def lutDepends (t : BitVec 16) (j : Nat) : Bool :=
  (List.range 16).any (fun i => t.getLsbD i != t.getLsbD (Nat.xor i (2 ^ j)))

/-- A table over A to C of LATCH, 8 bits from bit `o`, depends on input j (R106). -/
def latchDepends (t : BitVec 16) (o j : Nat) : Bool :=
  j < 3 && (List.range 8).any (fun i => t.getLsbD (o + i) != t.getLsbD (o + Nat.xor i (2 ^ j)))

/-- The WOP depends on operand j (R106); BARRIER and NOP depend on none. -/
def Wop.depends (w : Wop) (j : Nat) : Bool :=
  if w.cls > 5 then false
  else if w.cls = 1 then latchDepends w.lut 0 j || latchDepends w.lut 8 j
  else lutDepends w.lut j

/-- The WOP uses operand j: it depends on it, or a TAGSET with AUX[11] names operand B (R107). -/
def Wop.uses (w : Wop) (j : Nat) : Bool :=
  w.depends j || (decide (w.cls = 5) && w.auxBit 11 && decide (j = 1))

/-- Operand j by number. -/
def Wop.opnd (w : Wop) (j : Nat) : Operand :=
  match j with
  | 0 => w.a
  | 1 => w.b
  | 2 => w.c
  | _ => w.d

/-- The words that a WOP uses as operands. -/
def Wop.reads (w : Wop) : List Nat :=
  ((List.range 4).filter w.uses).map (fun j => (w.opnd j).addr)

/-- The words that a WOP writes: DEST, and DEST + 1 for EDGE (R113). -/
def Wop.writes (w : Wop) : List Nat :=
  if w.cls > 5 then [] else if w.cls = 2 then [w.dest, w.dest + 1] else [w.dest]

/-- Partition p writes word w. -/
def Lot.pWrites (l : Lot) (p w : Nat) : Bool := (l.wops p).any (fun o => o.writes.contains w)

/-- Partition p names word w as an operand that it uses (0x3000+w:05). -/
def Lot.pReads (l : Lot) (p w : Nat) : Bool := (l.wops p).any (fun o => o.reads.contains w)

/-- The partition that writes word w (R93). -/
def Lot.writer (l : Lot) (w : Nat) : Option Nat := l.inUse.find? (fun p => l.pWrites p w)

/-- The words that partition p reads but does not write, each once (R95). -/
def Lot.latched (l : Lot) (p : Nat) : List Nat :=
  let ws := l.wops p
  let wr := ws.flatMap Wop.writes
  (((ws.flatMap Wop.reads).filter (fun w => ! wr.contains w))).eraseDups

/-- The words that partition p writes, each once. -/
def Lot.written (l : Lot) (p : Nat) : List Nat := ((l.wops p).flatMap Wop.writes).eraseDups

/-- The lane timers that a WOP reaches (R118). -/
def wopTimers (l : Lot) (w : Wop) : List Nat :=
  if w.cls = 3 then
    ((List.range 128).filter (fun i => (l.mask w.mask).getLsbD i)).map (fun i => 128 * field w.aux 5 2 + i)
  else []

/-- The lane timers of partition p, ascending (R118). -/
def Lot.pTimers (l : Lot) (p : Nat) : List Nat :=
  let ts := (l.wops p).flatMap (wopTimers l)
  if ts.isEmpty then [] else (List.range 2048).filter ts.contains

/-- The words that partition p writes, ascending. -/
def Lot.pWords (l : Lot) (p : Nat) : List Nat :=
  let ws := l.written p
  (List.range 2048).filter ws.contains

/-- The input-bound words of the lot, ascending: W0 to W5 and the bound ones (R95, R451). -/
def Lot.inputWords (l : Lot) : List Nat := (List.range 2048).filter l.inputBound

/-! ### The recorder policy, section 0x000A (R455) -/

def Lot.recFlag (l : Lot) (i : Nat) : Bool := bitOf (u8 (l.sec 10) 0) i
/-- Pre-trigger time and keyframe interval in s, post-trigger time in units of 100 ms. -/
def Lot.recPre (l : Lot) : Nat := u16 (l.sec 10) 2
def Lot.recPost (l : Lot) : Nat := u16 (l.sec 10) 4
def Lot.recKey (l : Lot) : Nat := u16 (l.sec 10) 6
def Lot.recWord (l : Lot) : Nat := u16 (l.sec 10) 8
def Lot.recLane (l : Lot) : Nat := u8 (l.sec 10) 10

end Sys2Proof.Machine
end

