-- ==== Sys2Proof/Machine/Flags.lean ====
section
/-! DEFINITION. The tag of a node word and how a WOP forms it: R85 to R90, R112, R115, R122, R123. -/

namespace Sys2Proof.Machine

/-- Quality of a tag: 0 GOOD, 1 SUBST, 2 STALE, 3 FAULT (R85). -/
def tagQ (t : Tag) : Nat := (t &&& 3#8).toNat
/-- NONSAFE of a tag. -/
def tagNS (t : Tag) : Bool := t.getLsbD 5
/-- Source class of a tag. -/
def tagClass (t : Tag) : Nat := field t.toNat 4 2

/-- A tag from NONSAFE, source class and quality. -/
def mkTag (ns : Bool) (cls q : Nat) : Tag := BitVec.ofNat 8 ((if ns then 32 else 0) + 4 * (cls % 8) + q % 4)

/-- A tag with its quality replaced. -/
def setQ (t : Tag) (q : Nat) : Tag := (t &&& 0xFC#8) ||| BitVec.ofNat 8 (q % 4)

/-- The source class WORK (R85). -/
def clsWork : Nat := 5

/-- The worst quality of several tags; GOOD of none (R86). -/
def worstQ (ts : List Tag) : Nat := ts.foldl (fun a t => max a (tagQ t)) 0

/-- The OR of the NONSAFE bits (R87). -/
def anyNS (ts : List Tag) : Bool := ts.any tagNS

/-- The result tag of a WOP before its policy: worst quality and OR of NONSAFE of the operands that count, class WORK
(R87 steps 1 to 3). -/
def formTag (ts : List Tag) : Tag := mkTag (anyNS ts) clsWork (worstQ ts)

/-- The tag policy of a WOP (R122, R123). -/
def applyPolicy (pol : Nat) (t : Tag) : Tag :=
  let q := match field pol 1 0 with
    | 0 => tagQ t
    | 1 => 0
    | 2 => 1
    | _ => 3
  mkTag (tagNS t && ! bitOf pol 4) (tagClass t) q

/-- A later write of the same release: the worst quality, NONSAFE by OR (R88). -/
def mergeTag (old new : Tag) : Tag := mkTag (tagNS old || tagNS new) clsWork (max (tagQ old) (tagQ new))

/-- The tag as R89 delivers it from an output word that is not HOST-OUT: NONSAFE at commit counts as FAULT. -/
def deliverQ (t : Tag) : Nat := if tagNS t then 3 else tagQ t

end Sys2Proof.Machine
end

