-- ==== Sys2Proof/Machine/Operands.lean ====
section
/-! DEFINITION. What the datapath computes: operands (R105, R130), the function stage in plain and dual form (R106, R111,
R131, R132), the lane timers in plain and mirrored form (R120, R133), masks and the transform (R108, R129). -/

namespace Sys2Proof.Machine

/-- The two passes of a release (R126). -/
inductive Pass where
  | ground | overdye
deriving DecidableEq, Repr

/-- The overdye form of a word under a key (R129): lane (l + K) mod 128 holds NOT lane l. -/
def dye (k : Key) (w : Lanes) : Lanes := ~~~ (w.rotateLeft k.toNat)

/-- The plain form of an overdye word (R129). -/
def undye (k : Key) (w : Lanes) : Lanes := ~~~ (w.rotateRight k.toNat)

/-- The mask of a pass: rotated, not inverted, in the overdye pass (R131). -/
def passMask (ps : Pass) (k : Key) (m : Lanes) : Lanes :=
  match ps with
  | .ground => m
  | .overdye => m.rotateLeft k.toNat

/-- The lanes that the read port delivers for an operand of a word held under its stamp (R105, R130). -/
def operandLanes (ps : Pass) (k : Key) (o : Operand) (c : Cell) : Lanes :=
  let rot := match ps with
    | .ground => o.rot
    | .overdye => (o.rot + c.key.toNat + 128 - k.toNat) % 128
  let v := c.val.rotateRight rot
  if o.inv then ~~~ v else v

/-- A word re-rotated to the pass's key without a rotate of the WOP: the latch state and the edge history (R130). -/
def alignLanes (ps : Pass) (k : Key) (c : Cell) : Lanes := operandLanes ps k ⟨0, 0, false⟩ c

/-- The lanes at which index bits select minterm i of the table. -/
def minterm (a b c d : Lanes) (i : Nat) : Lanes :=
  (if bitOf i 0 then a else ~~~ a) &&& (if bitOf i 1 then b else ~~~ b) &&&
  (if bitOf i 2 then c else ~~~ c) &&& (if bitOf i 3 then d else ~~~ d)

/-- A 4-input table applied to every lane (R106). -/
def lutLanes (t : BitVec 16) (a b c d : Lanes) : Lanes :=
  (List.range 16).foldl (fun y i => if t.getLsbD i then y ||| minterm a b c d i else y) 0

/-- The dual of a 4-input table (R131). -/
def dualLut (t : BitVec 16) : BitVec 16 :=
  (List.range 16).foldl (fun y i => if t.getLsbD (15 - i) then y else y ||| BitVec.ofNat 16 (2 ^ i)) 0

/-- The set table of LATCH as a 4-input table without D, and its reset table (R111). -/
def setTable (t : BitVec 16) : BitVec 16 := (t &&& 0xFF#16) ||| ((t &&& 0xFF#16) <<< 8)
def resetTable (t : BitVec 16) : BitVec 16 := (t >>> 8) ||| ((t >>> 8) <<< 8)

/-- The table of a pass: plain in the ground pass, dual in the overdye pass (R131). -/
def passTable (ps : Pass) (t : BitVec 16) : BitVec 16 :=
  match ps with
  | .ground => t
  | .overdye => dualLut t

/-- All lanes equal to a Bool. -/
def spread (v : Bool) : Lanes := if v then BitVec.allOnes 128 else 0

/-- The lowest lane with a set bit, as a one-lane mask; none of an empty mask (R114). -/
def lowestLane (m : Lanes) : Lanes :=
  match (List.range 128).find? (fun l => m.getLsbD l) with
  | some l => BitVec.ofNat 128 (2 ^ l)
  | none => 0

/-- What enters the function stage of one WOP. -/
structure WopIn where
  pass : Pass
  key : Key
  a : Lanes
  b : Lanes
  c : Lanes
  d : Lanes
  /-- Tags of the operands A to D. -/
  ta : Tag
  tb : Tag
  tc : Tag
  td : Tag
  /-- cur(DEST) under the pass's key and its tag; cur(DEST + 1). -/
  q : Lanes
  tq : Tag
  h : Lanes
  /-- The Mask Table entry, plain. -/
  mask : Lanes
  /-- W5.2 of the plane. -/
  first : Bool
deriving DecidableEq, Repr

/-- The table result of a WOP with a 4-input table. -/
def WopIn.table (i : WopIn) (w : Wop) : Lanes := lutLanes (passTable i.pass w.lut) i.a i.b i.c i.d

/-- The tags of the operands that count under R87. -/
def WopIn.counted (i : WopIn) (w : Wop) : List Tag :=
  ((List.range 4).filter w.uses).map (fun j => match j with
    | 0 => i.ta
    | 1 => i.tb
    | 2 => i.tc
    | _ => i.td)

/-- The tags of the operands that the table depends on: what a TAGSET without AUX[11] checks (R111). -/
def WopIn.dependedTags (i : WopIn) (w : Wop) : List Tag :=
  ((List.range 4).filter w.depends).map (fun j => match j with
    | 0 => i.ta
    | 1 => i.tb
    | 2 => i.tc
    | _ => i.td)

/-- The set and reset lanes of LATCH in either pass: s, r or their complements (R111, R132). -/
def WopIn.latchS (i : WopIn) (w : Wop) : Lanes := lutLanes (passTable i.pass (setTable w.lut)) i.a i.b i.c i.d
def WopIn.latchR (i : WopIn) (w : Wop) : Lanes := lutLanes (passTable i.pass (resetTable w.lut)) i.a i.b i.c i.d

/-- r is 1 in every masked lane; in the overdye pass r' is 0 in every rotated masked lane (R112, R132). -/
def WopIn.fullReset (i : WopIn) (w : Wop) : Bool :=
  let m := passMask i.pass i.key i.mask
  match i.pass with
  | .ground => decide (i.latchR w &&& m = m)
  | .overdye => decide (i.latchR w &&& m = 0)

/-- The function-stage output y of the classes of R111; TIMER has its own stage. -/
def WopIn.out (i : WopIn) (w : Wop) : Lanes :=
  let m := passMask i.pass i.key i.mask
  match w.cls with
  | 1 =>
    let s := i.latchS w
    let r := i.latchR w
    match i.pass, w.auxBit 8 with
    | .ground, true => s ||| (i.q &&& ~~~ r)
    | .ground, false => (s ||| i.q) &&& ~~~ r
    | .overdye, true => s &&& (i.q ||| ~~~ r)
    | .overdye, false => (s &&& i.q) ||| ~~~ r
  | 2 =>
    let x := i.table w
    let y := match i.pass, field w.aux 1 0 with
      | .ground, 0 => x &&& ~~~ i.h
      | .ground, 1 => i.h &&& ~~~ x
      | .ground, _ => x ^^^ i.h
      | .overdye, 0 => x ||| ~~~ i.h
      | .overdye, 1 => i.h ||| ~~~ x
      | .overdye, _ => ~~~ (x ^^^ i.h)
    if w.auxBit 10 && i.first then (match i.pass with
      | .ground => 0
      | .overdye => BitVec.allOnes 128) else y
  | 4 =>
    let t := i.table w
    let all := decide (t &&& m = m)
    let any := decide (t &&& m ≠ 0)
    spread (match i.pass, w.auxBit 8 with
      | .ground, false => all
      | .ground, true => any
      | .overdye, false => any
      | .overdye, true => all)
  | 5 =>
    let g := if w.auxBit 11 then tagQ i.tb else worstQ (i.dependedTags w)
    let th := field w.aux 1 0
    if th ≠ 0 ∧ g ≥ th then spread (match i.pass with
      | .ground => w.auxBit 10
      | .overdye => ! w.auxBit 10)
    else i.table w
  | _ => i.table w

/-- The lanes that the WOP writes (R108, R114). -/
def WopIn.lanes (i : WopIn) (w : Wop) : Lanes :=
  passMask i.pass i.key (if w.cls = 4 ∧ w.auxBit 9 then lowestLane i.mask else i.mask)

/-- The finished result tag of the WOP (R87, R112, R115, R123). -/
def WopIn.tag (i : WopIn) (w : Wop) : Tag :=
  let ts := i.counted w ++ (if w.cls = 1 ∧ ! i.fullReset w then [i.tq] else [])
  applyPolicy w.tag (formTag ts)

/-! ### Lane timers -/

/-- The greatest elapsed count (R118). -/
def timerMax : Nat := 0xFFFFFF

/-- The advance of a timer in a release (R119): stamps T and T_prev, tick of N counts. -/
def timerDelta (n t : Nat) (prev : Option Nat) : Nat :=
  match prev with
  | none => 0
  | some u => min (t / n - u / n) 16777215

/-- One masked lane of a TIMER WOP in the ground pass: new state and output (R120). -/
def timerGround (mode pre delta : Nat) (x : Bool) (c : TCell) : TCell × Bool :=
  match mode with
  | 0 =>
    let e := if x && c.p then min pre (c.e + delta) else 0
    (⟨e, x⟩, x && decide (e ≥ pre))
  | 1 =>
    let e := if x then 0 else if c.p then 0 else min pre (c.e + delta)
    (⟨e, x⟩, x || decide (e < pre))
  | _ =>
    let e := if c.e < pre then min pre (c.e + delta) else if x && ! c.p then 0 else c.e
    (⟨e, x⟩, decide (e < pre))

/-- One masked lane in the overdye pass: complemented state, every comparison and bound mirrored (R133). -/
def timerOverdye (mode pre delta : Nat) (x : Bool) (c : TCell) : TCell × Bool :=
  let lim := timerMax - pre
  match mode with
  | 0 =>
    let e := if ! x && ! c.p then max lim (c.e - delta) else timerMax
    (⟨e, x⟩, x || decide (e > lim))
  | 1 =>
    let e := if ! x then timerMax else if ! c.p then timerMax else max lim (c.e - delta)
    (⟨e, x⟩, x && decide (e ≤ lim))
  | _ =>
    let e := if c.e > lim then max lim (c.e - delta) else if ! x && c.p then timerMax else c.e
    (⟨e, x⟩, decide (e ≤ lim))

/-- The start state of a timer: e = P and p = 0, and its overdye form (R120, R133). -/
def timerStart (pre : Nat) : TCell := ⟨pre, false⟩
def timerStartO (pre : Nat) : TCell := ⟨timerMax - pre, true⟩

/-- The slot of lane timer t in the overdye timer memory under a key stamp (R133). -/
def timerSlot (k : Key) (t : Nat) : Nat := 128 * (t / 128) + (t % 128 + k.toNat) % 128

/-- The slot of a pass under its key: the ground memory is addressed by the timer. -/
def passSlot (ps : Pass) (k : Key) (t : Nat) : Nat :=
  match ps with
  | .ground => t
  | .overdye => timerSlot k t

end Sys2Proof.Machine
end

