-- ==== Sys2Proof/Machine/Ops.lean ====
section
/-! DEFINITION. The named operations over the module's state that every family shares: the log, the domains, the committed banks,
replies, state changes. -/

namespace Sys2Proof.Machine

/-! ### Answers -/

/-- The active lot, or the empty lot where none is active (R333). -/
def State.lotD (s : State) : Lot := s.lot.active.getD {}

/-- The pair role, 0x4000:01 of chapter 16. -/
def State.cplRole (s : State) : Role := s.cpl.role

/-- A domain's record and whether it is ON (R39). -/
def State.dom (s : State) (d : Nat) : Dom := s.pwr.doms.get {} d
def State.domOn (s : State) (d : Nat) : Bool := decide ((s.dom d).state = .on)
def State.setDom (s : State) (d : Nat) (v : Dom) : State := { s with pwr := { s.pwr with doms := s.pwr.doms.set {} d v } }

/-- A free value: the model's counter moves on with every one taken (log entry 3). -/
def State.tick (s : State) : State := { s with fresh := s.fresh + 1 }

/-- The word whose lane l, for l below n, is f l. -/
def lanesOf (n : Nat) (f : Nat → Bool) : Lanes :=
  (List.range n).foldl (fun a l => if f l then a ||| BitVec.ofNat 128 (2 ^ l) else a) 0

/-- The final answer of a record or command: DONE, or an abort code. -/
def State.answer (s : State) (r : Reply) : State := { s with hpo := { s.hpo with reply := some r } }
def State.done (s : State) : State := s.answer .done
def State.refuse (s : State) (code : Nat) : State := s.answer (.abort code)

/-! ### The diagnostic log (R344) -/

/-- The generation of a DOMAIN entry rises (R325). -/
def State.bumpGen (s : State) (index sub : Nat) : State :=
  let k := 256 * index + sub
  { s with hpo := { s.hpo with gens := s.hpo.gens.set 0 k ((s.hpo.gens.get 0 k + 1) % 2 ^ 32) } }

/-- Append an entry: index, subindex, severity, item, value. Time reads 0 while ENG is off. The generation of 0x6000:05 rises where
the selected entry is replaced, or comes into being (R325). -/
def State.mlog (s : State) (index sub severity item value : Nat) : State :=
  let n := (s.log.seq + 1) % 2 ^ 32
  let e : LogEntry := ⟨n, if s.domOn 0 then s.clk.now else 0, s.sup.bootCount, index, sub, severity, item, value⟩
  let l := s.log.entries ++ [e]
  let touched := decide (n = s.log.select) || (l.take (l.length - 4096)).any (fun x => decide (x.seq = s.log.select))
  let s1 : State := { s with log := { s.log with entries := l.drop (l.length - 4096), seq := n } }
  if touched then s1.bumpGen 0x6000 5 else s1

/-- Partitions are released in Commissioning, Run and Replay, until PFS (R35, R63). -/
def State.released (s : State) : Bool :=
  decide (s.sup.mode = .commissioning ∨ s.sup.mode = .run ∨ s.sup.mode = .replay) && decide (s.sup.pfsOrder = 0)

/-! ### Release instants (R156, R158) -/

/-- Now is a release instant of partition p (R156). -/
def State.isInstant (s : State) (p : Nat) : Bool :=
  match s.sle.epoch with
  | none => false
  | some e =>
    let o := e + s.lotD.pOffset p
    decide (s.lotD.pPeriod p ≠ 0 ∧ s.clk.now ≥ o ∧ (s.clk.now - o) % s.lotD.pPeriod p = 0)

/-- The index k of the release instant that now is. -/
def State.instantK (s : State) (p : Nat) : Nat :=
  match s.sle.epoch with
  | none => 0
  | some e => (s.clk.now - (e + s.lotD.pOffset p)) / s.lotD.pPeriod p

/-! ### A tick (R256, R258) -/

/-- One tick: a running time base rises by 1. Its tick is 20 ns of real time, but for the rate correction, which gathers until it makes up
a tick: a faster time base then passes a tick in no time of the model's real clock, a slower one in two (log entry 2). -/
def Clk.advance (c : Clk) : Clk :=
  if c.running then
    let a := c.acc + c.rateCorr
    if a ≥ 1000000000 then { c with now := c.now + 1, acc := a - 1000000000 }
    else if a ≤ -1000000000 then { c with now := c.now + 1, real := c.real + 2, acc := a + 1000000000 }
    else { c with now := c.now + 1, real := c.real + 1, acc := a }
  else { c with real := c.real + 1 }

/-! ### The partner (R379, R388) -/

/-- Nothing more is heard of the partner; what its last STATUS said of its lot stays (R388). -/
def Peer.gone (p : Peer) : Peer := { p with live := false, actRun := 0 }

/-! ### The epoch (R156) -/

/-- The first multiple of 1 ms that lies at least 1 ms ahead. -/
def nextEpoch (now : Nat) : Nat := (now + 2 * msTicks - 1) / msTicks * msTicks

/-! ### Energy counters (R58, log entry 62) -/

/-- The counter of a domain, and of US, as a reading finds it: it has grown by what was drawn, while there is supply. -/
def State.energyAt (s : State) (d : Nat) : Nat :=
  (s.dom d).energy + (if (s.dom d).state = .on ∨ (s.dom d).state = .retain then (Config.energy d s.fresh).toNat else 0)
def State.usEnergyAt (s : State) : Nat := s.pwr.usEnergy + (if s.pwr.us = .on ∨ s.pwr.us = .limit then (Config.energy 10 s.fresh).toNat else 0)

/-- US as 0x260A:01 and the supply warnings show it: while AAQ converts nothing PDM's own finding, a free value (R45, log entry 62). -/
def State.usShown (s : State) : UsState :=
  if s.domOn 9 ∨ (s.pwr.us ≠ .on ∧ s.pwr.us ≠ .limit) then s.pwr.us else if Config.usOverload s.fresh then .limit else .on

/-- A reading of measured quantities: the counters are brought up to it. -/
def State.measured (s : State) : State :=
  { s with
    fresh := s.fresh + 1,
    pwr := { s.pwr with
      doms := (List.range 10).foldl (fun (t : Tab Dom) d => t.set {} d { s.dom d with energy := s.energyAt d }) s.pwr.doms,
      usEnergy := s.usEnergyAt } }

/-! ### Node words and partitions -/

/-- What an unlisted committed word reads as: its initial value and tag, in the overdye bank transformed under key 0 (R98). -/
def State.initG (s : State) (w : Nat) : Cell := ⟨s.lotD.initVal w, s.lotD.initTag w, 0⟩
def State.initO (s : State) (w : Nat) : Cell := ⟨dye 0 (s.lotD.initVal w), s.lotD.initTag w, 0⟩

/-- The committed word of each bank. -/
def State.comG (s : State) (w : Nat) : Cell := s.nmt.comG.get (s.initG w) w
def State.comO (s : State) (w : Nat) : Cell := s.nmt.comO.get (s.initO w) w

/-- Partition p at run time. -/
def State.part (s : State) (p : Nat) : Part := s.sle.parts.get {} p
def State.setPart (s : State) (p : Nat) (q : Part) : State := { s with sle := { s.sle with parts := s.sle.parts.set {} p q } }
def State.setCur (s : State) (c : Option Nat) : State :=
  { s with sle := { s.sle with cur := c, lastRun := (c.map (fun p => (p, (s.part p).seq + 1))) <|> s.sle.lastRun } }

/-- A corrected single-bit error of a program row: logged with the row number; a second one within 24 h queues the row for
repair (R102). -/
def State.rowCorrected (s : State) (row : Nat) : State :=
  let again : Bool := match s.sle.rowErr.get none row with
    | some t => decide (s.clk.now - t ≤ 24 * 3600 * sTicks)
    | none => false
  let q := if again ∧ ! s.sle.rowQueue.contains row then s.sle.rowQueue ++ [row] else s.sle.rowQueue
  let s1 := { s with sle := { s.sle with rowErr := s.sle.rowErr.set none row (some s.clk.now), rowQueue := q } }
  s1.mlog 0x2800 0x06 0 row 0

end Sys2Proof.Machine
end

