-- ==== Sys2Proof/Machine/SwatchOps.lean ====
section
/-! DEFINITION. The swatch: what it latches and its record as bytes (R275 to R277). -/

namespace Sys2Proof.Machine

/-- Table: Compare channel status. -/
def TChan.status (t : TChan) : Nat :=
  (if t.armed then 1 else 0) + (if t.fired then 2 else 0) + (if t.late then 4 else 0) + (if t.new then 8 else 0)
    + (if t.ovr then 16 else 0) + (if t.gated then 32 else 0)

/-- A channel's entry. -/
def TChan.swatch (t : TChan) : SwChan := ⟨t.status, t.mode, t.events % 2 ^ 32, t.value, t.target⟩

/-- A speed channel's entry: the complete period in ns is span * 20 over m (R276). -/
def SpeedCh.swatch (c : SpeedCh) : SwSpeed :=
  ⟨c.edges % 2 ^ 32, c.est, c.stamps.headD 0, if c.m = 0 then 0 else 20 * c.span / c.m⟩

/-- A station's entry. -/
def Station.swatch (c : Station) : SwStation := ⟨c.landed % 2 ^ 32, c.crc % 65536, c.expiries % 65536⟩

/-- The module is Solo and in no cascade: a swatch is its own affair (R275, R277). -/
def State.swAlone (s : State) : Bool := decide (s.cplRole = .solo) && ! s.lotD.cascade

/-- The modules whose records this module gathers (R277), by select value: a master its members 1 to 7, an active the partner 8
and the partner's members 9 to 15. -/
def State.gathers (s : State) : List Nat :=
  let ms := if s.lotD.cascade && decide (s.lotD.member = 0) then (List.range s.lotD.members).map (· + 1) else []
  ms ++ (if s.cplRole = .active then 8 :: ms.map (· + 8) else [])

/-- The latch at this tick (R275): nothing in the channels changes. The record replaces the previous one. -/
def State.swatchLatch (s : State) : State :=
  let w := s.tmu.swatch
  let r : SwRecord := {
    id := w.id, origin := w.origin, late := w.late, locked := decide (s.clk.disc = .locked), module_ := s.sup.straps.addr.getD 255,
    tsw := w.tsw, latchedAt := s.clk.now, lotId := s.lotD.id,
    chans := s.tmu.chans.cells.foldl (fun t e => t.set {} e.1 e.2.swatch) {},
    speeds := (List.range 8).map (fun n => (s.tmu.speeds.get {} n).swatch),
    energy := (List.range 10).map s.energyAt ++ [s.usEnergyAt],
    stations := s.trk.stations.cells.foldl (fun t e => t.set {} e.1 e.2.swatch) {} }
  let s1 := s.measured
  { s1 with
    tmu := { s1.tmu with swatch := { w with
      record := some r, others := {}, held := 1, late := false, startedAt := s.clk.now,
      state := if w.origin = 1 ∨ w.origin = 2 ∨ s.gathers.isEmpty then 3 else 2 } } }

/-- A swatch that the module starts for itself at this tick (origin 1 recorder, 2 Parked entry). -/
def State.swatchNow (s : State) (origin : Nat) : State :=
  let w := s.tmu.swatch
  State.swatchLatch { s with
    tmu := { s.tmu with swatch := { w with id := (w.id + 1) % 2 ^ 32, origin := origin, tsw := s.clk.now, late := false, select := w.select } } }

/-- Table: Swatch record. -/
def SwRecord.bytes (r : SwRecord) : List Byte :=
  leBytes 4 r.id ++ [BitVec.ofNat 8 r.origin, BitVec.ofNat 8 ((if r.late then 1 else 0) + (if r.locked then 2 else 0)),
    BitVec.ofNat 8 r.module_, 0] ++ leBytes 8 r.tsw ++ leBytes 8 r.latchedAt ++ leBytes 8 r.lotId
  ++ (List.range 256).flatMap (fun c =>
      let e := r.chans.get {} c
      [BitVec.ofNat 8 e.status, BitVec.ofNat 8 e.mode, 0, 0] ++ leBytes 4 e.events ++ leBytes 8 e.value ++ leBytes 8 e.target)
  ++ (List.range 8).flatMap (fun n =>
      let e := r.speeds.getD n {}
      leBytes 4 e.edges ++ leBytes 4 e.estimate ++ leBytes 8 e.last ++ leBytes 8 e.periodNs)
  ++ (List.range 11).flatMap (fun d => leBytes 8 (r.energy.getD d 0)) ++ leBytes 8 0
  ++ (List.range 4096).flatMap (fun n =>
      let e := r.stations.get {} n
      leBytes 4 e.landed ++ leBytes 2 e.crc ++ leBytes 2 e.expiries)

end Sys2Proof.Machine
end

