-- ==== Sys2Proof/Machine/RecOps.lean ====
section
/-! DEFINITION. The recorder's stream: metering and gaps, events, checkpoints, episodes (R448 to R457). -/

namespace Sys2Proof.Machine

/-- Payload bytes of a NAND page (R452). -/
def pageBytes : Nat := 4080

/-- Pages that hold the first `n` bytes of the stream. -/
def pagesOf (n : Nat) : Nat := (n + pageBytes - 1) / pageBytes

/-- FRC runs: the CPU domain is ON (R39). -/
def State.frcOn (s : State) : Bool := s.domOn 2

/-- A gap marker: type, stamp of the first lost record, bytes lost (R453). -/
def gapMarker (g : Nat × Nat) : List Byte := [0x40#8] ++ leBytes 8 g.1 ++ leBytes 8 g.2

/-- The marker that the stream owes for an open gap. -/
def Rec.mark (r : Rec) : List Byte := match r.gap with
  | some g => gapMarker g
  | none => []

/-- What the meter lets through (R453), with the marker of an open gap before it: nothing that takes the window above 80,000 bytes,
nothing above 1,000 bytes in a window without budget. -/
def Rec.fits (r : Rec) (n : Nat) : Bool :=
  let m := r.winBytes + r.mark.length + n
  decide (m ≤ 80000) && (decide (m ≤ 1000) || decide (r.budget > 0))

/-! ### Staging and NAND (R452, R454) -/

/-- Pages of the NAND ring: 4 GiB (0x2A00:02). -/
def nandPages : Nat := 1048576

/-- The page belongs to a frozen episode, or to the one whose post-trigger time runs. -/
def State.pageHeld (s : State) (p : Nat) : Bool :=
  s.rcr.episodes.cells.any (fun e => decide (e.2.state ≠ 0) && decide (e.2.fromPage ≤ p) && decide (p < e.2.toPage))

/-- The ring is full: the oldest page that no episode holds is reused, and the records that begin in it are gone. -/
def State.nandReuse (s : State) : State :=
  if s.rcr.pages.length < nandPages then s
  else match s.rcr.pages.find? (fun p => ! s.pageHeld p.page) with
    | none => s
    | some p => { s with rcr := { s.rcr with
        reused := (s.rcr.reused ++ [p.at_]).filter (fun t => decide (s.clk.real - t ≤ 24 * 3600 * sTicks)),
        pages := s.rcr.pages.filter (fun q => decide (q.page ≠ p.page)),
        recs := s.rcr.recs.filter (fun r => decide (r.pos / pageBytes ≠ p.page)) } }

/-- One page of the stream goes into NAND (R452, R454). -/
def State.nandWrite (s : State) : State :=
  let s1 := s.nandReuse
  { s1 with rcr := { s1.rcr with
    written := s1.rcr.written + pageBytes, nand := s1.rcr.nand + 4096,
    pages := s1.rcr.pages ++ [⟨s1.rcr.written / pageBytes, s1.sup.bootCount, s1.clk.real⟩] } }

/-- Pages that must be written: the CP never holds more than 256 KiB unwritten (R452). -/
def Rec.overfull (r : Rec) : Nat := if r.total ≤ r.written + 262144 then 0 else pagesOf (r.total - (r.written + 262144))

/-- They are written. -/
def State.frcDrain (s : State) : State := (List.range s.rcr.overfull).foldl (fun (a : State) _ => a.nandWrite) s

/-! ### The stream -/

/-- Bytes go to the stream as one record. -/
def State.frcStore (s : State) (stamp : Nat) (bytes : List Byte) : State :=
  let r := s.rcr
  State.frcDrain { s with rcr := { r with
      recs := r.recs ++ [⟨r.total, s.clk.real, stamp, bytes⟩], total := r.total + bytes.length,
      winBytes := r.winBytes + bytes.length, secBytes := r.secBytes + bytes.length } }

/-- The last release record becomes a CHECKPOINT: flag, full signature, and everything behind it moves up (R448). The CP writes no page
with the last release record in it, so that it can; one that a flush or the bound of R452 has put into NAND all the same stays as it is
(log entry 51). -/
def State.frcCheckpoint (s : State) : State :=
  let r := s.rcr
  match r.lastRel with
  | none => s
  | some (pos, sig) =>
    if pos < r.written then { s with rcr := { r with lastRel := none } }
    else
      let fix (e : Rcd) : Rcd :=
        if e.pos < pos then e
        else if e.pos = pos then
          { e with bytes := e.bytes.take 2 ++ [e.bytes.getD 2 0 ||| 0x40#8] ++ e.bytes.drop 3 ++ leBytes 8 sig }
        else { e with pos := e.pos + 8 }
      State.frcDrain { s with rcr := { r with
          recs := r.recs.map fix, total := r.total + 8, winBytes := r.winBytes + 8, secBytes := r.secBytes + 8,
          keyPos := if r.keyPos > pos then r.keyPos + 8 else r.keyPos, lastRel := none } }

/-- A record that does not fit opens a gap or lengthens it (R453): counted, and the release record before it is a CHECKPOINT. -/
def State.frcLose (s : State) (stamp n : Nat) : State :=
  match s.rcr.gap with
  | some (t, k) => { s with rcr := { s.rcr with gap := some (t, k + n), secBytes := s.rcr.secBytes + n } }
  | none =>
    let s1 := s.frcCheckpoint
    { s1 with rcr := { s1.rcr with
        gap := some (stamp, n), gaps := (s1.rcr.gaps + 1) % 2 ^ 32, keyOwed := true, keyWaits := true, secBytes := s1.rcr.secBytes + n } }

/-- An open gap ends with its marker, before data that fits again (R453). -/
def State.frcMark (s : State) : State :=
  if s.rcr.gap.isNone then s
  else State.frcStore { s with rcr := { s.rcr with gap := none } } s.clk.now s.rcr.mark

/-- A record goes through the meter. -/
def State.frcPut (s : State) (stamp : Nat) (bytes : List Byte) : State :=
  if ! s.frcOn then s
  else if s.rcr.fits bytes.length then s.frcMark.frcStore stamp bytes
  else s.frcLose stamp bytes.length

/-- An event record (R450); in Replay only event 10 is recorded (R460). -/
def State.frcEvent (s : State) (code arg : Nat) : State :=
  if s.sup.mode = .replay ∧ code ≠ 10 then s
  else s.frcPut s.clk.now ([0x20, BitVec.ofNat 8 code] ++ leBytes 8 s.clk.now ++ leBytes 8 arg)

/-! ### Episodes (R456, R457) -/

def State.episode (s : State) (e : Nat) : Episode := s.rcr.episodes.get {} e
/-- An episode's record changes; the content of the export 0x2A00:09 changes with that of the selected one (R325). -/
def State.setEpisode (s : State) (e : Nat) (v : Episode) : State :=
  let old := s.episode e
  let s1 : State := { s with rcr := { s.rcr with episodes := s.rcr.episodes.set {} e v } }
  if e = s.rcr.sel ∧ ({ v with state := old.state } : Episode) ≠ old then s1.bumpGen 0x2A00 9 else s1

/-- A keyframe, and a release record, by their type byte. -/
def Rcd.isKey (r : Rcd) : Bool := decide (byteAt r.bytes 0 = 0x30)
def Rcd.isRelease (r : Rcd) : Bool := decide (byteAt r.bytes 0 / 16 = 1)

/-- Where an episode begins (R456): the latest keyframe at or before the trigger minus the pre-trigger time; where none is so
old, the first one held. -/
def State.episodeStart (s : State) : Option Rcd :=
  let keys := s.rcr.recs.filter Rcd.isKey
  let pre := s.lotD.recPre * sTicks
  let old := (keys.filter (fun k => decide (k.at_ + pre ≤ s.clk.real))).getLast?
  match old with
  | some k => some k
  | none => keys.head?

/-- The first page of an episode whose records reach to page `z` (R456): where it would exceed 4,096 pages, that of the earliest later
keyframe that keeps it within, at latest of the latest keyframe at or before the trigger. -/
def State.episodeFrom (s : State) (v : Episode) (z : Nat) : Nat :=
  if z - v.fromPage ≤ 4096 then v.fromPage
  else
    let keys := s.rcr.recs.filter (fun k => k.isKey && decide (k.pos / pageBytes ≥ v.fromPage) && decide (k.at_ ≤ v.frozenAt))
    match keys.find? (fun k => decide (z - k.pos / pageBytes ≤ 4096)) with
    | some k => k.pos / pageBytes
    | none => (keys.getLast?.map (fun k => k.pos / pageBytes)).getD v.fromPage

/-- The slot for a new episode (R457): a free one, the oldest exported one, and for an automatic trigger the oldest episode of
code 3 to 7. -/
def State.episodeSlot (s : State) (auto : Bool) : Option Nat :=
  let es := (List.range 64).map (fun e => (e, s.episode e))
  let oldest (l : List (Nat × Episode)) : Option Nat :=
    (l.foldl (fun (a : Option (Nat × Episode)) x => match a with
      | none => some x
      | some y => if x.2.frozenAt < y.2.frozenAt then some x else some y) none).map (·.1)
  match es.find? (fun x => decide (x.2.state = 0)) with
  | some x => some x.1
  | none => match oldest (es.filter (fun x => decide (x.2.state = 2))) with
    | some e => some e
    | none => if auto then oldest (es.filter (fun x => decide (x.2.trigger ≥ 3))) else none

/-- The stamps of the first and the last release record of a range of pages. -/
def State.releaseSpan (s : State) (a b : Nat) : Nat × Nat :=
  let rs := s.rcr.recs.filter (fun r => r.isRelease && decide (r.pos ≥ a * pageBytes ∧ r.pos + r.bytes.length ≤ b * pageBytes))
  ((rs.head?.map (·.stamp)).getD 0, (rs.getLast?.map (·.stamp)).getD 0)

/-- End an episode at the present end of the stream, at most 4,096 pages after its start (R456). -/
def State.episodeEnd (s : State) (e : Nat) : State :=
  let v := s.episode e
  let z := pagesOf s.rcr.total
  let start := s.episodeFrom v z
  let stop := min z (start + 4096)
  let span := s.releaseSpan start stop
  s.setEpisode e { v with
    fromPage := start, toPage := stop, first := span.1, last := span.2, truncated := decide (z > stop),
    endPos := min s.rcr.total (stop * pageBytes) }

/-- The episode that this module cycle has frozen already: the cycle is the tick where no partition is released. -/
def State.cycleEpisode (s : State) : Option Nat :=
  match s.rcr.cycleTrig with
  | some (e, t) => if s.released ∨ t = s.clk.real then some e else none
  | none => none

/-- A trigger (R456): code, and the Safe Halt cause (255 none). In Replay Safe Halt and PFS alone freeze (R460, R463). -/
def State.frcFreeze (s0 : State) (code cause : Nat) : State :=
  let s := if code ≤ 2 ∧ s0.cycleEpisode.isSome ∧ s0.frcOn then s0.frcCheckpoint else s0
  if (s.sup.mode = .replay ∧ code > 2) ∨ ! s.frcOn then s
  else match s.cycleEpisode with
  | some e =>
    let v := s.episode e
    let s1 := s.setEpisode e { v with trigger := min v.trigger code, cause := if cause < 255 then cause else v.cause }
    if code ≤ 2 then
      ({ s1 with rcr := { s1.rcr with open_ := none } } : State).episodeEnd e
    else s1
  | none => match s.rcr.open_ with
    | some (e, _) =>
      if code ≤ 2 then
        let s1 := (s.frcCheckpoint.frcEvent 9 (e + 256 * code)).setEpisode e { s.episode e with cause := cause }
        ({ s1 with rcr := { s1.rcr with open_ := none } } : State).episodeEnd e
      else s.frcEvent 9 (e + 256 * code)
    | none => match s.episodeStart, s.episodeSlot (decide (code ≠ 3)) with
      | none, _ => s
      | some _, none => s.mlog 0x2A00 0x06 2 0 code
      | some k, some e =>
        let s1 := s.frcCheckpoint
        let v : Episode := {
          state := 1, trigger := code, trigAt := s.clk.now, fromPage := k.pos / pageBytes, lotId := s.lotD.id, sha := s.lotD.digest,
          cause := cause, frozenAt := s.clk.real }
        let s2 := ((s1.setEpisode e v).episodeEnd e).frcEvent 9 (e + 256 * code)
        let s3 := { s2 with rcr := { s2.rcr with
          cycleTrig := some (e, s.clk.real),
          open_ := if code ≤ 2 then none else some (e, s.clk.real + s.lotD.recPost * 100 * msTicks) } }
        if s3.lotD.recFlag 3 then (s3.swatchNow 1).frcEvent 8 ((s3.tmu.swatch.id + 1) % 2 ^ 32) else s3

end Sys2Proof.Machine
end

