-- ==== Sys2Proof/Machine/Starts.lean ====
section
/-! DEFINITION. The units as an exit from Validating, or a wake, starts them (R98, R191, R207, R264, R274, R287, R297, R299), and the
records of their channels. What the block of a lot decides comes as an argument, so that a unit starts in one way with a lot and without. -/

namespace Sys2Proof.Machine

/-! ### The records of the channels -/

def State.chan (s : State) (n : Nat) : Chan := s.sin.chans.get {} n
def State.setChan (s : State) (n : Nat) (c : Chan) : State := { s with sin := { s.sin with chans := s.sin.chans.set {} n c } }
def State.inPair (s : State) (p : Nat) : InPair := s.sin.pairs.get {} p
def State.setInPair (s : State) (p : Nat) (c : InPair) : State := { s with sin := { s.sin with pairs := s.sin.pairs.set {} p c } }
def State.src (s : State) (k : Nat) : Src := s.sin.srcs.get {} k
def State.setSrc (s : State) (k : Nat) (c : Src) : State := { s with sin := { s.sin with srcs := s.sin.srcs.set {} k c } }
def State.out (s : State) (n : Nat) : Out := s.sout.outs.get {} n
def State.setOut (s : State) (n : Nat) (o : Out) : State := { s with sout := { s.sout with outs := s.sout.outs.set {} n o } }
def State.grp (s : State) (g : Nat) : Grp := s.sout.grps.get {} g
def State.setGrp (s : State) (g : Nat) (v : Grp) : State := { s with sout := { s.sout with grps := s.sout.grps.set {} g v } }
def State.speed (s : State) (n : Nat) : SpeedCh := s.tmu.speeds.get {} n
def State.setSpeed (s : State) (n : Nat) (t : SpeedCh) : State := { s with tmu := { s.tmu with speeds := s.tmu.speeds.set {} n t } }
def State.spair (s : State) (p : Nat) : SpeedPair := s.tmu.spairs.get {} p
def State.setSpair (s : State) (p : Nat) (t : SpeedPair) : State := { s with tmu := { s.tmu with spairs := s.tmu.spairs.set {} p t } }
def State.motion (s : State) (m : Nat) : Motion := s.tmu.motions.get {} m
def State.setMotion (s : State) (m : Nat) (t : Motion) : State := { s with tmu := { s.tmu with motions := s.tmu.motions.set {} m t } }
def State.ach (s : State) (n : Nat) : AChan := s.aaq.chans.get {} n
def State.setAch (s : State) (n : Nat) (c : AChan) : State := { s with aaq := { s.aaq with chans := s.aaq.chans.set {} n c } }
def State.apair (s : State) (p : Nat) : APair := s.aaq.pairs.get {} p
def State.setApair (s : State) (p : Nat) (c : APair) : State := { s with aaq := { s.aaq with pairs := s.aaq.pairs.set {} p c } }

def State.st (s : State) (a : Nat) : Station := s.trk.stations.get {} a

/-- Put a station back; a change of its quality goes to the recorder, code 4 (R450). -/
def State.setSt (s : State) (a : Nat) (v : Station) : State :=
  let s1 := { s with trk := { s.trk with stations := s.trk.stations.set {} a v } }
  if v.quality = (s.st a).quality then s1 else s1.frcEvent 4 (a + 65536 * v.quality)

/-- The reference of input n has failed (R301), and the cause that makes it invalid whatever it reads, an UNUSED one too: 3 a ground
fault, 4 a fault of its reference (R301, R302). -/
def State.refBad (s : State) (n : Nat) : Bool := if n < 4 then s.aaq.refA else s.aaq.refB
def State.aiCause (s : State) (n : Nat) : Nat := if s.aaq.gnd then 3 else if s.refBad n then 4 else 0

/-! ### The starts -/

/-- SIN (R191): `runs k` where source k has a mode other than OFF; a source runs while T0 to T7 are switched on (R66). A wake keeps the
counts since the last exit. -/
def State.sinFresh (s : State) (runs : Nat → Bool) (wake : Bool) : State :=
  let ch := (List.range 48).foldl (fun (t : Tab Chan) n =>
    let c := s.chan n
    t.set {} n { ({} : Chan) with raw := c.raw, sampledAt := s.clk.now, stamp := c.stamp, transitions := if wake then c.transitions else 0,
                                  faults := c.faults, loop := c.loop, proofFrom := s.clk.now }) {}
  let pr := (List.range 24).foldl (fun (t : Tab InPair) p =>
    let q := s.inPair p
    t.set {} p { ({} : InPair) with elapsed := q.elapsed, largest := if wake then q.largest else 0, demands := q.demands, faults := q.faults }) {}
  let sr := (List.range 8).foldl (fun (t : Tab Src) k =>
    let q := s.src k
    t.set {} k { ({} : Src) with state := if runs k && s.sin.srcOn then .on else .off, onAt := s.clk.now, faults := q.faults }) {}
  { s with sin := { s.sin with chans := ch, pairs := pr, srcs := sr, trunk := {} } }

/-- SOUT (R207): `unused g` where group g is UNUSED. -/
def State.soutFresh (s : State) (unused : Nat → Bool) : State :=
  let outs := (List.range 16).foldl (fun (t : Tab Out) n =>
    let o := s.out n
    t.set {} n { o with held := false, code := 0, peers := 0, agree := 0, disagree := 0, lastTest := 255, pairDis := false, pairRun := 0,
                        sw := false, offAt := s.clk.now, filt := false, count := 0, sampledAt := s.clk.now, onSince := none }) {}
  let grps := (List.range 2).foldl (fun (t : Tab Grp) g =>
    let v := s.grp g
    t.set {} g { ({} : Grp) with
      state := if unused g then .unused else .cutOff, railOpen := v.railOpen, railClosed := v.railClosed, warn := v.warn, lf := v.lf,
      notClosedSince := v.notClosedSince, goodSince := s.clk.now, clearSince := v.clearSince, openAt := s.clk.now, cutOffs := v.cutOffs,
      faults := v.faults, mv := v.mv }) {}
  { s with sout := { s.sout with outs := outs, grps := grps, test := none, w8 := 0, w8q := 0, holdBoth := false } }

/-- Speed channels, pairs and motion functions (R249, R287). -/
def State.speedsStart (s : State) (wake : Bool) : State :=
  let sp := (List.range 8).foldl (fun (t : Tab SpeedCh) n =>
    let c := s.speed n
    t.set {} n { ({} : SpeedCh) with level := c.level, rejected := c.rejected, faults := c.faults, loop := c.loop, startAt := s.clk.now,
                                     overAt := s.clk.now }) {}
  let mo := (List.range 4).foldl (fun (t : Tab Motion) m =>
    t.set {} m { ({} : Motion) with violations := (s.motion m).violations, standSince := some s.clk.now }) {}
  let pr := (List.range 4).foldl (fun (t : Tab SpeedPair) p =>
    t.set {} p { ({} : SpeedPair) with largest := if wake then (s.spair p).largest else 0 }) {}
  { s with tmu := { s.tmu with speeds := sp, spairs := pr, motions := mo } }

/-- Analog channels and pairs (R297, R299). -/
def State.aaqStart (s : State) (wake : Bool) : State :=
  let ch := (List.range 8).foldl (fun (t : Tab AChan) n =>
    let c := s.ach n
    t.set {} n { c with below := false, above := false, valid := false, cause := s.aiCause n, run := 0 }) {}
  let pr := (List.range 4).foldl (fun (t : Tab APair) p =>
    let q := s.apair p
    t.set {} p { q with fault := false, since := none, largest := if wake then q.largest else 0 }) {}
  { s with aaq := { s.aaq with chans := ch, pairs := pr } }

/-- A station at an epoch: FAULT; its counts and its last stamp stay, but for an exit from Validating (R343, R367). -/
def Station.start (v : Station) (fresh : Bool) : Station :=
  if fresh then {} else { ({} : Station) with landed := v.landed, crc := v.crc, expiries := v.expiries, stamp := v.stamp, seq := v.seq }

/-- Every station at an epoch, and where the TRUNK-IN words restart from their initial tags (R98, R367). -/
def State.stationsStart (s : State) (fresh : Bool) : State :=
  s.trk.stations.cells.foldl (fun (a : State) c => a.setSt c.1 (c.2.start fresh)) s

/-- Words, lane timers and partitions (R98, R120, R169), the recorder's references with them. -/
def State.freshEngine (s : State) : State :=
  { s with
    nmt := {},
    sle := { s.sle with parts := {}, cur := none, lastRun := none, tmG := {}, tmO := {}, tmKey := {}, dbg := {} },
    rcr := { s.rcr with keyOwed := true, lastIn := {}, lastW8 := none, lastRel := none, lane := false },
    cpl := { s.cpl with sources := {}, ts := 0, gpark := none },
    hpo := { s.hpo with quality := 3 } }

/-- No lot is active any more: every unit as an exit from Validating without a lot leaves it, every channel UNUSED, every source OFF,
both groups open (R98, R172, R207, R274, R287, R333, R343, R349; log entry 34). -/
def State.lotEnds (s : State) : State :=
  let s1 : State := { s with
    lot := { s.lot with active := none }, sle := { s.sle with epoch := none },
    clk := { s.clk with disc := .free, rateCorr := 0, goodRun := 0, badRun := 0, refEpoch := none },
    tmu := { s.tmu with chans := {} }, cpl := { s.cpl with load := 0 },
    trk := { s.trk with running := false, cycle := none, sent := [], sentB := [], linkA := false, linkB := false } }
  ((((s1.stationsStart true).freshEngine.sinFresh (fun _ => false) false).soutFresh (fun _ => true)).speedsStart false).aaqStart false

end Sys2Proof.Machine
end

