-- ==== Sys2Proof/Machine/HaltOps.lean ====
section
/-! DEFINITION. State changes and Safe Halt entry, the one shared operation of every cause (R63, R79, R80), and the hold of the
group switches that belongs to it (R224). -/

namespace Sys2Proof.Machine

/-- The code of a state at 0x2000:01 (R65); Off shows nothing and has code 0. -/
def Mode.code : Mode → Nat
  | .off => 0
  | .boot => 1
  | .unconfigured => 2
  | .configuring => 3
  | .validating => 4
  | .commissioning => 5
  | .run => 6
  | .safeHalt => 7
  | .parked => 8
  | .replay => 9

/-- The code of a role at 0x2000:07 (R65). -/
def Role.code : Role → Nat
  | .solo => 0
  | .active => 1
  | .standby => 2
  | .isolated => 3
  | .resync => 4
  | .undecided => 5

/-- What the OWN interface does in a role: nothing but its clamp while LNK is off (R389, R390). -/
def State.driveOf (s : State) (r : Role) : OwnDrive :=
  if ! s.domOn 5 then .clamp else if r = .active then .holding else .sourcing

/-- A pair role is taken, and the OWN interface follows it; recorder event 7 where it changes (R389, R450). -/
def State.setRole (s : State) (r : Role) : State :=
  if s.cpl.role = r then s
  else ({ s with cpl := { s.cpl with role := r, ownDrive := s.driveOf r } } : State).frcEvent 7 r.code

/-- SUP commands the released band with a removal of output drive (R390). -/
def State.releaseOwn (s : State) : State :=
  if s.cpl.ownDrive = .holding then { s with cpl := { s.cpl with ownDrive := .released } } else s

/-- The trunk stands still: nothing is sent (R349). -/
def Trk.stopped (t : Trk) : Trk := { t with running := false, cycle := none, sent := [], sentB := [] }

/-- The state changes: 0x2000:01 and :09, recorder event 1 behind a CHECKPOINT, the trim's fixed or starting setpoint, and the
stop of the trunk in Boot, Validating and Parked (R42, R349, R448, R450). -/
def State.setMode (s : State) (m : Mode) : State :=
  let s1 := if m = .replay then s.frcCheckpoint.frcEvent 1 m.code else s
  let s2 := { s1 with
    trk := match m with
      | .boot => s1.trk.stopped
      | .validating => s1.trk.stopped
      | .parked => s1.trk.stopped
      | _ => s1.trk,
    sup := { s1.sup with mode := m, modeSince := s.clk.real },
    pwr := { s1.pwr with setpoint := match m with
      | .boot => 980
      | .validating => 980
      | .replay => 980
      | .run => 980
      | .commissioning => 980
      | _ => s1.pwr.setpoint } }
  if m = .replay then s2 else s2.frcCheckpoint.frcEvent 1 m.code

/-- The first unfinished record of those that `sel` names gets its final answer, which is kept (R322, R323). -/
def State.closeRec (s : State) (sel : Outst → Bool) (r : Reply) : State :=
  match s.hpo.out.find? (fun o => o.final.isNone && ! o.echo && sel o) with
  | none => s
  | some o =>
    let kept := s.hpo.kept ++ [({ tag := o.rec0.tag, type := o.rec0.type, addr := o.rec0.addr, reply := r } : Kept)]
    { s with hpo := { s.hpo with
        out := s.hpo.out.map (fun x => if x = o then { x with final := some r } else x), kept := kept.drop (kept.length - 32) } }

/-- The final answer of a command, and of the record with `tag` that brought it (R65, R321). -/
def State.answerTag (s : State) (tag : Option Byte) (r : Reply) : State :=
  match tag with
  | none => s.answer r
  | some t => (s.answer r).closeRec (fun o => decide (o.rec0.tag = t.toNat)) r

/-! ### Groups -/

/-- The hold of R224 on one group: cause 6. -/
def State.holdGroup (s : State) (g : Nat) : State :=
  let v := s.grp g
  if v.state = .unused then s
  else s.setGrp g { v with
    latch := true, cause := 6, relCut := false, relDue := false,
    openAt := if v.state = .closed ∨ v.state = .closing then s.clk.now else v.openAt,
    state := if v.state = .closed ∨ v.state = .closing then .cutOff else v.state }

/-- Every output switch that was on is off from now (R216, R224). -/
def State.outsOff (s : State) : State :=
  { s with sout := { s.sout with
      outs := (List.range 16).foldl (fun (t : Tab Out) n =>
        if (t.get {} n).sw then t.upd {} n (fun o => { o with sw := false, offAt := s.clk.now, onSince := none }) else t) s.sout.outs } }

/-- R224: every exit from Commissioning or Run, and a debug halt, latch a cut-off with cause 6 on every group in use; no test pulse
runs on, and every output is off. In the other states the groups are open and keep their cause. -/
def State.holdOpen (s : State) : State :=
  let s1 := if s.sup.mode = .commissioning ∨ s.sup.mode = .run then (s.holdGroup 0).holdGroup 1 else s
  ({ s1 with sout := { s1.sout with test := none, holdBoth := false } } : State).outsOff

/-- Every open attempt is discarded and the engine is free: nothing of it is ever committed (R79, R164). -/
def State.dropAttempts (s : State) : State :=
  let ps := s.sle.parts.cells.foldl (fun (t : Tab Part) e =>
    t.set {} e.1 { e.2 with phase := .idle, workG := {}, workO := {}, timG := {}, timO := {}, edgeSeen := false }) s.sle.parts
  { s with sle := { s.sle with parts := ps, cur := none, dbg := { ({} : Dbg) with state := 0 } } }

/-- The command that waits for the boundary is refused: Safe Halt comes first (R63). -/
def State.refuseWaiting (s : State) : State :=
  match s.sup.cmd with
  | none => s
  | some c => ({ s with sup := { s.sup with cmd := none } } : State).answerTag c.tag (.abort 0x0F000202)

/-- The tick of the time base, where it runs. -/
def State.baseTick (s : State) : Option Nat := if s.clk.running then some s.clk.now else none

/-- Same instant as the first cause (R80): the same tick of the time base, or of the RC oscillator while the time base does not
run. -/
def State.sameInstant (s : State) : Bool :=
  match s.baseTick, s.sup.firstTick with
  | some a, some b => decide (a = b)
  | _, _ => decide (s.clk.real / usTicks = s.sup.firstAt / usTicks)

/-- A cause that arises in Safe Halt: recorded, and it disarms an armed release (R80, R81). -/
def State.addCause (s : State) (c : Nat) : State :=
  let first := match s.sup.firstCause with
    | some f => if s.sameInstant then min f c else f
    | none => c
  ({ s with sup := { s.sup with
      causes := s.sup.causes ||| BitVec.ofNat 32 (2 ^ c), firstCause := some first, pend := .none } } : State)

/-- Safe Halt is entered or a further cause recorded: log and recorder event 2 with each cause; at the entry the drive is removed
and the groups held open, no partition is committed, the watchdog stops, a waiting command is refused, an armed or pending
transition ends, the recorder freezes an episode, a pair module gives up its role with its OWN band (R79, R80, R224, R390,
R462). From Validating it is an exit from Validating without a lot, so no lot is active any more (R172, R191, R207; log entry 34).
In Off there is nothing to halt; from PFS on the cause is recorded alone (R63). -/
def State.enterHalt (s : State) (c : Nat) : State :=
  if s.sup.mode ≠ .off ∧ s.sup.pfsOrder ≠ 0 then ((s.addCause c).mlog 0x2000 0x04 3 c c).frcEvent 2 c
  else match s.sup.mode with
  | .off => s
  | .safeHalt => ((s.addCause c).mlog 0x2000 0x04 3 c c).frcEvent 2 c
  | m =>
    let s1 := (s.mlog 0x2000 0x04 3 c c).frcEvent 2 c
    let s2 := ((s1.frcFreeze 1 c).dropAttempts.holdOpen).refuseWaiting
    let s3 := if m = .replay then s2.frcEvent 10 (256 * s2.rcr.replay.episode) else s2
    let rp : Replay := match m with
      | .replay => { s3.rcr.replay with progress := 0 }
      | _ => s3.rcr.replay
    let s4 := { s3 with
      sup := { s3.sup with
        firstCause := some c, firstAt := s.clk.real, firstTick := s.baseTick, causes := BitVec.ofNat 32 (2 ^ c), pend := .none, haltFrom := some m,
        driveRemoved := true, wdRunning := false, wdArmed := false },
      cpl := { s3.cpl with gpark := none },
      rcr := { s3.rcr with replay := rp } }
    let s5 := match m with
      | .validating => s4.lotEnds.setRole .solo
      | _ => if s4.lotD.pair then s4.setRole .undecided else s4
    let s6 : State := { s5 with cpl := { s5.cpl with ownDrive := s.releaseOwn.cpl.ownDrive } }
    s6.setMode .safeHalt

end Sys2Proof.Machine
end

