-- ==== Sys2Proof/Machine/Crypto.lean ====
section
/-! DEFINITION. SHA-256 (FIPS 180-4), HMAC-SHA-256 (FIPS 198-1) and ECDSA P-256 (FIPS 186-4), the standards that R72, R378
and R480 name for the lot signature, the cross-link and the recorder export. Their constants are the standards' (log entry 8). -/

namespace Sys2Proof.Machine

/-- A number as 32-bit words, the most significant first. -/
def wordsOf (n v : Nat) : List (BitVec 32) := (List.range n).map (fun i => BitVec.ofNat 32 (v / 2 ^ (32 * (n - 1 - i))))

/-- The 64 additive constants of the rounds, eight to a number (FIPS 180-4). -/
def shaK : List (BitVec 32) := List.flatMap (wordsOf 8) [
  0x428A2F9871374491B5C0FBCFE9B5DBA53956C25B59F111F1923F82A4AB1C5ED5,
  0xD807AA9812835B01243185BE550C7DC372BE5D7480DEB1FE9BDC06A7C19BF174,
  0xE49B69C1EFBE47860FC19DC6240CA1CC2DE92C6F4A7484AA5CB0A9DC76F988DA,
  0x983E5152A831C66DB00327C8BF597FC7C6E00BF3D5A7914706CA635114292967,
  0x27B70A852E1B21384D2C6DFC53380D13650A7354766A0ABB81C2C92E92722C85,
  0xA2BFE8A1A81A664BC24B8B70C76C51A3D192E819D6990624F40E3585106AA070,
  0x19A4C1161E376C082748774C34B0BCB5391C0CB34ED8AA4A5B9CCA4F682E6FF3,
  0x748F82EE78A5636F84C878148CC7020890BEFFFAA4506CEBBEF9A3F7C67178F2]

/-- The chaining value as two shift registers, newest word first: the last four words that entered register A (a, b, c, d of the
standard) and the last four that entered register E (e, f, g, h). -/
structure ShaRegs where
  ra : List (BitVec 32)
  re : List (BitVec 32)
deriving DecidableEq, Repr

/-- The chaining value that 256 bits hold. -/
def ShaRegs.ofNat (v : Nat) : ShaRegs := ⟨wordsOf 4 (v / 2 ^ 128), wordsOf 4 v⟩

/-- The chaining value before the first block (FIPS 180-4). -/
def shaInit : ShaRegs := .ofNat 0x6A09E667BB67AE853C6EF372A54FF53A510E527F9B05688C1F83D9AB5BE0CD19

/-- The exclusive or of a word's rotations to the right by the amounts listed. -/
def rotSum (amounts : List Nat) (x : BitVec 32) : BitVec 32 := amounts.foldl (fun a n => a ^^^ x.rotateRight n) 0

/-- The window of sixteen schedule words, oldest first, moved on by one word. -/
def shaSlide (win : List (BitVec 32)) : List (BitVec 32) :=
  let old := win.getD 1 0
  let new := win.getD 14 0
  win.drop 1 ++ [win.getD 0 0 + win.getD 9 0 + (rotSum [7, 18] old ^^^ old >>> 3) + (rotSum [17, 19] new ^^^ new >>> 10)]

/-- What enters both registers in a round with constant k and schedule word w: `t` alone goes to d, and to a the sum with the
majority of a, b and c. -/
def ShaRegs.round (r : ShaRegs) (k w : BitVec 32) : ShaRegs :=
  let a := r.ra.getD 0 0
  let e := r.re.getD 0 0
  let pick := r.re.getD 2 0 ^^^ (e &&& (r.re.getD 1 0 ^^^ r.re.getD 2 0))
  let most := (a &&& (r.ra.getD 1 0 ||| r.ra.getD 2 0)) ||| (r.ra.getD 1 0 &&& r.ra.getD 2 0)
  let t := k + w + pick + rotSum [6, 11, 25] e + r.re.getD 3 0
  ⟨(most + rotSum [2, 13, 22] a + t) :: r.ra.take 3, (r.ra.getD 3 0 + t) :: r.re.take 3⟩

/-- One 64-byte block into the chaining value: a round for each constant, on the first word of the sliding window. -/
def ShaRegs.absorb (r : ShaRegs) (blk : List Byte) : ShaRegs :=
  let z := (shaK.foldl (fun (x : ShaRegs × List (BitVec 32)) k => (x.1.round k (x.2.getD 0 0), shaSlide x.2))
    (r, wordsOf 16 (beNat (slice blk 0 64)))).1
  ⟨List.zipWith (· + ·) r.ra z.ra, List.zipWith (· + ·) r.re z.re⟩

/-- The padding of a message of `n` bytes. -/
def shaPad (n : Nat) : List Byte :=
  0x80#8 :: (List.replicate ((119 - n % 64) % 64) 0#8 ++ beBytes 8 (8 * n))

/-- SHA-256 of a byte string (FIPS 180-4). -/
def sha256 (l : List Byte) : List Byte :=
  let r := (blocks 64 (l ++ shaPad l.length)).foldl ShaRegs.absorb shaInit
  (r.ra ++ r.re).flatMap (fun x => beBytes 4 x.toNat)

/-- HMAC-SHA-256 (FIPS 198-1) for a key of at most 64 bytes. -/
def hmacSha256 (key msg : List Byte) : List Byte :=
  let k := slice key 0 64
  let inner := sha256 (k.map (· ^^^ 0x36#8) ++ msg)
  sha256 (k.map (· ^^^ 0x5C#8) ++ inner)

/-- The curve P-256 (FIPS 186-4): field prime, coefficient b, base point and order. -/
def p256p : Nat := 0xFFFFFFFF00000001000000000000000000000000FFFFFFFFFFFFFFFFFFFFFFFF
def p256b : Nat := 0x5AC635D8AA3A93E7B3EBBD55769886BC651D06B0CC53B0F63BCE3C3E27D2604B
def p256gx : Nat := 0x6B17D1F2E12C4247F8BCE6E563A440F277037D812DEB33A0F4A13945D898C296
def p256gy : Nat := 0x4FE342E2FE1A7F9B8EE7EB4A7C0F9E162BCE33576B315ECECBB6406837BF51F5
def p256n : Nat := 0xFFFFFFFF00000000FFFFFFFFFFFFFFFFBCE6FAADA7179E84F3B9CAC2FC632551

/-- b to the power e modulo m, for e below 2^k. -/
def powMod (m : Nat) : Nat → Nat → Nat → Nat
  | 0, _, _ => 1 % m
  | k + 1, b, e =>
    let r := powMod m k (b * b % m) (e / 2)
    if e % 2 = 1 then b * r % m else r

/-- The inverse modulo a prime (Fermat). -/
def invMod (m a : Nat) : Nat := powMod m 256 (a % m) (m - 2)

/-- A point of the curve; none is the point at infinity. -/
abbrev Point := Option (Nat × Nat)

/-- Addition of points. -/
def pointAdd : Point → Point → Point
  | none, q => q
  | p, none => p
  | some (x1, y1), some (x2, y2) =>
    if x1 = x2 ∧ (y1 + y2) % p256p = 0 then none
    else
      let l := if x1 = x2 then (3 * x1 * x1 + (p256p - 3)) % p256p * invMod p256p (2 * y1) % p256p
               else (y2 + p256p - y1) % p256p * invMod p256p (x2 + p256p - x1) % p256p
      let x3 := (l * l + 2 * p256p - x1 - x2) % p256p
      some (x3, (l * (x1 + p256p - x3) + p256p - y1) % p256p)

/-- k times a point, for k below 2^n. -/
def pointMul : Nat → Nat → Point → Point
  | 0, _, _ => none
  | n + 1, k, p =>
    let r := pointMul n (k / 2) (pointAdd p p)
    if k % 2 = 1 then pointAdd p r else r

/-- Whether a pair is a point of the curve. -/
def onCurve (x y : Nat) : Bool :=
  decide (x < p256p) && decide (y < p256p) &&
    decide (y * y % p256p = (x * x * x + (p256p - 3) * x + p256b) % p256p)

/-- ECDSA verification over P-256 of a 32-byte digest (FIPS 186-4). -/
def ecdsaVerify (qx qy : Nat) (digest : List Byte) (r s : Nat) : Bool :=
  if onCurve qx qy && decide (0 < r) && decide (r < p256n) && decide (0 < s) && decide (s < p256n) then
    let w := invMod p256n s
    let u1 := beNat digest * w % p256n
    let u2 := r * w % p256n
    match pointAdd (pointMul 256 u1 (some (p256gx, p256gy))) (pointMul 256 u2 (some (qx, qy))) with
    | none => false
    | some (x, _) => decide (x % p256n = r)
  else false

/-- ECDSA signature with private scalar `d` and random number `k` (FIPS 186-4). -/
def ecdsaSign (d k : Nat) (digest : List Byte) : Nat × Nat :=
  match pointMul 256 (k % p256n) (some (p256gx, p256gy)) with
  | none => (0, 0)
  | some (x, _) =>
    let r := x % p256n
    (r, invMod p256n (k % p256n) * (beNat digest + r * d) % p256n)

end Sys2Proof.Machine
end

