-- ==== Sys2Proof/Machine/OtpOps.lean ====
section
/-! DEFINITION. The OTP array: words, locks, seals, regions (R409 to R421), what the module takes from them (R414, R415, R424), and
the start of a programming (R410, R418, R420, R425). -/

namespace Sys2Proof.Machine

def State.otpWord (s : State) (a : Nat) : OtpWord := s.otp.words.get {} a
def State.setOtpWord (s : State) (a : Nat) (w : OtpWord) : State := { s with otp := { s.otp with words := s.otp.words.set {} a w } }

/-- Usable: good or MARGINAL (R412). -/
def OtpWord.usable (w : OtpWord) : Bool := decide (w.state = .good ∨ w.state = .marginal)
def OtpWord.written (w : OtpWord) : Bool := decide (w.state ≠ .unwritten)

/-- The covered words of a region (R419). -/
def otpCovered (r pos : Nat) : Bool := decide (pos ≤ 30) && ! (decide (2 ≤ r ∧ r ≤ 5) && decide (pos = 4)) && (decide (r ≠ 6) || decide (pos = 0))

/-- The critical words (R411). -/
def otpCritical (r pos : Nat) : Bool :=
  decide (r ≤ 1 ∨ (7 ≤ r ∧ r ≤ 9)) || (decide (r ≤ 6) && decide (pos = 31)) || (decide (2 ≤ r ∧ r ≤ 5) && decide (pos = 4))

/-- A lock set is locked when two of its fuses are blown (R417). -/
def lockSet (v : Nat) : Bool := decide (2 ≤ (if bitOf v 0 then 1 else 0) + (if bitOf v 1 then 1 else 0) + (if bitOf v 2 then 1 else 0))
def State.wlocked (s : State) (r : Nat) : Bool := lockSet (s.otp.wlock.get 0 r)
def State.rlocked (s : State) (r : Nat) : Bool := lockSet (s.otp.rlock.get 0 r)

/-- The fuses of a lock set. -/
def State.lockFuses (s : State) (r : Nat) (read : Bool) : Nat := if read then s.otp.rlock.get 0 r else s.otp.wlock.get 0 r

/-- The written covered words of a region. -/
def State.coveredWritten (s : State) (r : Nat) : Nat :=
  ((List.range 31).filter (fun p => otpCovered r p && (s.otpWord (32 * r + p)).written)).length

/-- The seal word that the region as stored gives (R419). -/
def State.sealWord (s : State) (r : Nat) : Nat :=
  let b := ((List.range 31).filter (otpCovered r)).flatMap (fun p =>
    let w := s.otpWord (32 * r + p)
    (if w.written then 1#8 else 0#8) :: leBytes 8 w.data)
  (crc32 (BitVec.ofNat 8 r :: b)).toNat * 2 ^ 32 + 0x5EA1 * 2 ^ 16 + s.coveredWritten r * 2 ^ 8 + r

/-- The region's seal is written. -/
def State.sealed (s : State) (r : Nat) : Bool := (s.otpWord (32 * r + 31)).written

/-- The region is valid (R420). A covered word that is UNRELIABLE is not used (R412), so the seal cannot match the region as read with
one, a normal word either (DEDUCED, log entry 47). -/
def State.otpValid (s : State) (r : Nat) : Bool :=
  let w := s.otpWord (32 * r + 31)
  w.usable && decide (w.data = s.sealWord r) &&
  (List.range 31).all (fun p => ! otpCovered r p || decide ((s.otpWord (32 * r + p)).state ≠ .unreliable))

/-- Words written in a region. -/
def State.regionWritten (s : State) (r : Nat) : Nat := ((List.range 32).filter (fun p => (s.otpWord (32 * r + p)).written)).length
def State.regionMarginal (s : State) (r : Nat) : Nat :=
  ((List.range 32).filter (fun p => decide ((s.otpWord (32 * r + p)).state = .marginal))).length

/-- 0x2910+r:01 (R421). -/
def State.regionState (s : State) (r : Nat) : Nat :=
  if s.otpValid r then (if s.wlocked r then 3 else 2)
  else if s.sealed r || s.wlocked r then 4
  else if s.regionWritten r = 0 then 0 else 1

/-! ### What the module reads from the regions -/

/-- The bytes of consecutive words, byte 8i in bits [7:0] of word i (R415). -/
def State.otpBytes (s : State) (a n : Nat) : List Byte := (List.range n).flatMap (fun i => leBytes 8 (s.otpWord (a + i)).data)

/-- Region 1 (Table: Region 1). -/
def State.macBytes (s : State) : List Byte := leBytes 6 (s.otpWord 34).data
def State.serial (s : State) : Nat := field (s.otpWord 33).data 31 0
def State.silicon (s : State) : Nat := field (s.otpWord 33).data 47 32
def State.vendor (s : State) : Nat := field (s.otpWord 32).data 31 0
def State.sample (s : State) : Bool := decide (field (s.otpWord 35).data 7 0 = 2)
def State.attestKey (s : State) : List Byte := s.otpBytes 40 8
/-- 0x1F91: the certificate, empty where it differs from its digest (R414). -/
def State.certificate (s : State) : List Byte := if sha256 s.otp.cert = s.otpBytes 36 4 then s.otp.cert else []
/-- The calibrated reference values in 0.01 uV. -/
def State.vrefCal (s : State) (b : Bool) : Nat := if b then field (s.otpWord 8).data 63 32 else field (s.otpWord 8).data 31 0

/-- A slot is revoked when its revoke word reads written (R424). -/
def State.slotRevoked (s : State) (k : Nat) : Bool := (s.otpWord (32 * (2 + k) + 4)).written
def State.slotUsable (s : State) (k : Nat) : Bool := s.otpValid (2 + k) && ! s.slotRevoked k
/-- The digest of a slot; none where it is not usable. -/
def State.slotDigest (s : State) (k : Nat) : Option (List Byte) :=
  if k < 4 ∧ s.slotUsable k then some (s.otpBytes (32 * (2 + k)) 4) else none
/-- 0x1F92:01 to :04: the digest of a slot that is written, else 32 bytes of 0 (R336). -/
def State.ownerDigest (s : State) (k : Nat) : List Byte := if s.otpValid (2 + k) then s.otpBytes (32 * (2 + k)) 4 else List.replicate 32 0
/-- The generations of the owner key digests that differ from those of `old` rise (R325). -/
def State.digestGens (s old : State) : State :=
  (List.range 4).foldl (fun a k => if s.ownerDigest k ≠ old.ownerDigest k then a.bumpGen 0x1F92 (k + 1) else a) s
/-- 0x1F93. -/
def State.slotState (s : State) : Nat :=
  (List.range 4).foldl (fun a k => a + (if s.otpValid (2 + k) then 2 ^ k else 0) + (if s.slotRevoked k then 2 ^ (4 + k) else 0)) 0

/-- 0x1F94 (R422, R423): UNRELIABLE where a critical word of region 9 is. -/
def State.pairBinding (s : State) : Nat :=
  if (List.range 32).any (fun p => decide ((s.otpWord (288 + p)).state = .unreliable)) then 2
  else if s.otpValid 9 && s.rlocked 9 then 1 else 0

/-- JTAG is allowed by the owner policy (R422, R423). -/
def State.jtagAllowed (s : State) : Bool :=
  ! s.otp.jtagLocked && (match s.regionState 7 with
    | 0 => true
    | 1 => true
    | 4 => false
    | _ => ! bitOf (s.otpWord 224).data 0)

/-- Exports can be signed (R422). -/
def State.maySign (s : State) : Bool := s.otpValid 8 && ! s.otp.noSign

/-- A JTAG session runs, and the OTP does not lock JTAG (R62, R422, R423). -/
def State.jtagOn (s : State) : Bool := s.sup.jtag && s.jtagAllowed

/-- The pad of word i of region 8 or 9 (R416). -/
def State.scramble (s : State) (r i : Nat) : Nat := (Config.scramblePad (BitVec.ofNat 256 (leNat (s.otpBytes 9 4))) r i).toNat

/-- The plain value of the words of region 8 or 9 (R416). -/
def State.unscrambled (s : State) (r n : Nat) : List Nat :=
  (List.range n).map (fun i => Nat.xor (s.otpWord (32 * r + i)).data (s.scramble r i))

/-! ### Programming (R410, R418, R420, R425) -/

/-- 0x260B:05 in ms (R484): the bulk energy above 250 V at the minimum capacitance of 54.4 uF, over the input power. -/
def State.bulkReserve (s : State) : Nat :=
  let p := if s.pwr.mains = .interrupted ∨ ! s.pwr.present then s.pwr.preP else (Config.inputPower s.clk.real).toNat
  let v := s.pwr.bulkV
  if v ≤ 250 then 0 else if p = 0 then 65535 else min 65535 (272 * (v * v - 62500) / (1000 * p))

/-- 0x2900:06. -/
def State.otpConds (s : State) : Nat :=
  (if 3200 ≤ s.pwr.aonMv ∧ s.pwr.aonMv ≤ 3400 then 1 else 0)
  + (if 0 ≤ s.pwr.t1 ∧ s.pwr.t1 ≤ 850 ∧ 0 ≤ s.pwr.t2 ∧ s.pwr.t2 ≤ 850 then 2 else 0)
  + (if s.bulkReserve ≥ 20 then 4 else 0)

/-- Orders 1 to 3 of Table: OTP refusals. -/
def State.otpRefusal (s : State) (repairing : Bool) : Option Nat :=
  if ! decide (s.sup.mode = .unconfigured ∨ s.sup.mode = .configuring ∨ s.sup.mode = .commissioning) then some 0x0F000602
  else if repairing then some 0x0F00060B
  else if s.otpConds ≠ 7 then some 0x0F000604
  else none

/-- What is burnt: the seal of a region (R420); in regions 8 and 9 the plain value XOR its pad (R416); else the data. -/
def State.burnData (s : State) (a data : Nat) : Nat :=
  if a % 32 = 31 then s.sealWord (a / 32)
  else if a / 32 = 8 ∨ a / 32 = 9 then Nat.xor data (s.scramble (a / 32) (a % 32))
  else data

/-- Orders 6 to 11 of the table for a program write to word a. -/
def State.wordRefusal (s : State) (a data : Nat) : Option Nat :=
  let r := a / 32
  let p := a % 32
  let revoke := decide (2 ≤ r ∧ r ≤ 5) && decide (p = 4)
  if s.wlocked r && ! revoke then some 0x0F000606
  else if r = 6 ∧ 1 ≤ p ∧ p ≤ 30 then some 0x0F00060A
  else if (s.otpWord a).written then some 0x0F000603
  else if s.sealed r && otpCovered r p then some 0x0F000609
  else if p = 31 ∧ (data ≠ 0 ∨ s.coveredWritten r = 0) then some 0x0F000607
  else if revoke && (List.range 4).all (fun k => decide (k + 2 = r) || ! s.slotUsable k) then some 0x0F000608
  else none

/-- A program write of the selected word (R410): refused, or begun; a record stays without its final answer until the fuses are
read back (R426). -/
def State.otpProgram (s : State) (data : Nat) (repairing byRecord : Bool) : State :=
  let a := s.otp.sel
  match s.otpRefusal repairing <|> s.wordRefusal a data with
  | some c => s.refuse c
  | none => { s with otp := { s.otp with job := some (.word a (s.burnData a data)), byRecord := byRecord, progData := data },
                     hpo := { s.hpo with reply := none } }

/-- A lock is allowed (Table: Locks allowed). -/
def lockAllowed (r : Nat) (read : Bool) : Bool :=
  if read then decide (9 ≤ r ∧ r ≤ 15) else decide ((2 ≤ r ∧ r ≤ 5) ∨ r = 7 ∨ (9 ≤ r ∧ r ≤ 15))

/-- A lock command (R418). -/
def State.otpLock (s : State) (r : Nat) (read repairing byRecord : Bool) : State :=
  match s.otpRefusal repairing with
  | some c => s.refuse c
  | none =>
    if ! lockAllowed r read then s.refuse 0x0F00060C
    else if s.lockFuses r read = 7 then s.refuse 0x0F000605
    else { s with otp := { s.otp with job := some (.lock r read), byRecord := byRecord }, hpo := { s.hpo with reply := none } }

/-- The log code of a state. -/
def wordCode (st : WordState) : Nat := match st with
  | .unwritten => 0
  | .good => 1
  | .marginal => 2
  | .unreliable => 3

/-- A reading: no fuse reads blown at any margin (R410). -/
def blankRead (r : WordRead) : Bool := decide (r.low = 0 ∧ r.normal = 0 ∧ r.high = 0)

/-- Table: Margin decisions for a critical word: the state, the data and whether a bit was corrected (R412). -/
def decideCritical (r : WordRead) : WordState × Option Nat × Bool :=
  match eccDecode r.normal with
  | none => (.unreliable, none, false)
  | some (d, c) =>
    if r.low = r.normal ∧ r.high = r.normal then (.good, some d, c)
    else if (eccDecode r.low).map (·.1) = some d ∧ (eccDecode r.high).map (·.1) = some d then (.marginal, some d, false)
    else (.unreliable, none, false)

/-- The decision for a normal word, which is read at normal margin only (R411, R412). -/
def decideNormal (r : WordRead) : WordState × Option Nat × Bool :=
  match eccDecode r.normal with
  | none => (.unreliable, none, false)
  | some (d, _) => (.good, some d, false)

/-- What a reading gives a word. One with no blown fuse at any margin is unwritten (R410), unless it was written before: its fuses then
cannot be read (log entry 47). -/
def decideWord (critical written : Bool) (r : WordRead) : WordState × Option Nat × Bool :=
  if blankRead r || (written && ! critical && decide (r.normal = 0)) then (if written then .unreliable else .unwritten, none, false)
  else if critical then decideCritical r else decideNormal r

/-- The state of a word after a reading. -/
def takenState (critical written : Bool) (r : WordRead) : WordState := (decideWord critical written r).1

/-- The word after a reading: its state is that of the reading, its data what the reading decodes to (R412, R413). -/
def OtpWord.taken (w : OtpWord) (critical : Bool) (r : WordRead) : OtpWord :=
  { w with last := r, data := (decideWord critical w.written r).2.1.getD w.data, state := takenState critical w.written r }

/-- A word is read. A change of its state is logged with the word's address, and so is a critical word that is MARGINAL or that the ECC
has corrected (R412, R413). -/
def State.otpTake (s : State) (a : Nat) (r : WordRead) : State :=
  let w := s.otpWord a
  let critical := otpCritical (a / 32) (a % 32)
  let v := w.taken critical r
  let s1 := if v = w then s else s.setOtpWord a v
  if v.state ≠ w.state ∨ (critical ∧ (v.state = .marginal ∨ (decideWord critical w.written r).2.2)) then
    s1.mlog 0x2900 0x04 1 a (wordCode v.state)
  else s1

/-- The reading of word a: what the list says, or the word as it stands. -/
def State.readingOf (s : State) (reads : OtpReads) (a : Nat) : WordRead :=
  match reads.words.find? (fun e => decide (e.1 = a)) with
  | some e => e.2
  | none => (s.otpWord a).last

/-- The lock fuses of a set are read: those that read blown at normal margin are blown, and one that was blown stays so (log entry 47);
margins that differ are logged (R412). -/
def State.lockTake (s : State) (l : LockRead) : State :=
  let v := s.lockFuses l.region l.read ||| l.fuses.normal.toNat
  let s1 : State := { s with otp := { s.otp with
    rlock := if l.read then s.otp.rlock.set 0 l.region v else s.otp.rlock,
    wlock := if l.read then s.otp.wlock else s.otp.wlock.set 0 l.region v } }
  if l.fuses.low ≠ l.fuses.high then s1.mlog (0x2910 + l.region) (if l.read then 3 else 2) 1 0 2 else s1

/-- The reading of the first words and lock sets that no command brings: free values. -/
def freeReads (n words sets : Nat) : OtpReads :=
  ⟨(List.range words).map (fun a => let v := Config.otpReading n a; (a, ⟨v.extractLsb' 0 73, v.extractLsb' 73 73, v.extractLsb' 146 73⟩)),
    (List.range sets).map (fun i => let v := Config.lockReading n i; ⟨i / 2, decide (i % 2 = 1), ⟨v.extractLsb' 0 3, v.extractLsb' 3 3, v.extractLsb' 6 3⟩⟩)⟩

/-- Word a is being programmed: no reading takes it (R413). -/
def State.beingBurnt (s : State) (a : Nat) : Bool := match s.otp.job with
  | some (.word b _) => decide (b = a)
  | _ => false

/-- The words and lock sets that `sel` and `locks` pick are read (R412, R413). -/
def State.otpReading (s : State) (reads : OtpReads) (sel : Nat → Bool) (locks : Nat → Bool) : State :=
  (reads.locks.filter (fun l => locks l.region)).foldl State.lockTake
    (((List.range 512).filter (fun i => sel i && ! s.beingBurnt i)).foldl (fun a i => a.otpTake i (a.readingOf reads i)) s)

/-- A word once its fuses are blown with its data and read back. -/
def burntWord (a data : Nat) (rd : WordRead) : OtpWord := (OtpWord.holding data).taken (otpCritical (a / 32) (a % 32)) rd

/-- A word's fuses are blown with its data and read back; the change of its state is logged (R410, R412, R413). -/
def State.burnWord (s : State) (a data : Nat) (rd : WordRead) : State :=
  (s.setOtpWord a (burntWord a data rd)).mlog 0x2900 0x04 1 a (wordCode (burntWord a data rd).state)

end Sys2Proof.Machine
end

