-- ==== Sys2Proof/Machine/Repair.lean ====
section
/-! DEFINITION. BIST: spares and soft repair (R438, R439), the health report (R442), sweeps and failed tests (R430). -/

namespace Sys2Proof.Machine

/-- Bit t of an 8-bit set. -/
def bit8 (t : Nat) : BitVec 8 := BitVec.ofNat 8 (2 ^ t)

/-! ### Spares (R438) -/

/-- Spares of a kind: 4 lanes, 32 words in each bank, 8 rows. -/
def spareCount (kind : Nat) : Nat := match kind with
  | 1 => 4
  | 2 => 32
  | 3 => 32
  | 4 => 8
  | _ => 0

/-- Spare k of a kind is assigned, or requested. -/
def Bist.assigned (b : Bist) (kind k : Nat) : Bool := (b.repairs ++ b.wanted).any (fun r => decide (r.kind = kind ∧ r.spare = k))

/-- A spare that has not failed serves a unit, or is requested for it. -/
def Bist.serves (b : Bist) (kind n : Nat) : Bool :=
  (b.repairs ++ b.wanted).any (fun r => decide (r.kind = kind ∧ r.unit = n) && ! b.unusable.contains (kind, r.spare))

/-- The usable spares of a kind, ascending. -/
def Bist.usable (b : Bist) (kind : Nat) : List Nat :=
  (List.range (spareCount kind)).filter (fun k => ! b.assigned kind k && ! b.unusable.contains (kind, k))

/-- Repairs of a kind in effect (0x2800:03 to :06). -/
def Bist.inUse (b : Bist) (kind : Nat) : Nat := (b.repairs.filter (fun r => decide (r.kind = kind))).length

/-- Kind and number of a unit; a number at or above the first spare names a spare. -/
def unitOf (u : RepairUnit) : Nat × Nat := match u with
  | .lane l => (1, l)
  | .wordG w => (2, w)
  | .wordO w => (3, w)
  | .row r => (4, r)
def firstSpare (kind : Nat) : Nat := match kind with
  | 1 => 128
  | 4 => 65536
  | _ => 2048

/-! ### The health report (R442) -/

/-- Free field repair positions of region 6. -/
def State.freePositions (s : State) : List Nat := ((List.range 31).filter (fun p => decide (1 ≤ p) && ! (s.otpWord (192 + p)).written))

/-- MARGINAL words of the array. -/
def State.marginals (s : State) : Nat := (List.range 16).foldl (fun a r => a + s.regionMarginal r) 0

/-- Mismatches that were not localised in the last 24 h. -/
def State.unloc24 (s : State) : Nat := (s.sle.unloc.filter (fun t => decide (s.clk.now - t ≤ 24 * 3600 * sTicks))).length

/-- The health state. -/
def State.healthState (s : State) : Nat :=
  if s.sup.causes ≠ 0 then 2
  else if [1, 2, 3, 4].any (fun k => (s.bist.usable k).isEmpty) || decide (s.freePositions.length < 4) || decide (s.marginals ≠ 0)
      || decide (s.bist.failed ≠ 0) then 1 else 0

/-- A signed number in two's complement of n bytes. -/
def intBytes (n : Nat) (v : Int) : List Byte := leBytes n (v % (2 ^ (8 * n) : Int)).toNat

/-- Rebuild the report; its generation rises by 1. -/
def State.rebuildReport (s : State) : State :=
  let b := s.bist
  let gen := (b.reportGen + 1) % 2 ^ 32
  let bytes := leBytes 4 gen ++ leBytes 1 s.healthState ++ [0, 0, 0] ++ leBytes 8 s.clk.now ++ leBytes 8 s.lotD.id
    ++ leBytes 1 (b.usable 1).length ++ leBytes 1 (b.usable 2).length ++ leBytes 1 (b.usable 3).length ++ leBytes 1 (b.usable 4).length
    ++ leBytes 1 s.freePositions.length ++ leBytes 1 s.marginals ++ leBytes 1 s.unloc24 ++ leBytes 1 b.failed.toNat
    ++ leBytes 4 b.rate ++ leBytes 2 b.rateSp ++ intBytes 2 b.rateTemp ++ intBytes 4 s.sup.rcDev ++ [0, 0, 0, 0]
    ++ (List.range 8).flatMap (fun t => leBytes 4 (b.sweeps.get 0 t)) ++ List.replicate 16 0
  { s with bist := { b with reportGen := gen, report := bytes } }

/-! ### Sweeps (R430) -/

/-- The test that covers a kind of spare. -/
def kindTest (kind : Nat) : Nat := match kind with
  | 1 => 0
  | 4 => 2
  | _ => 1

/-- A complete sweep of test t has tested every spare of its kinds: those that have not failed in it are usable again (R438). -/
def Bist.sparesSwept (b : Bist) (t : Nat) : Bist :=
  { b with
    unusable := b.unusable.filter (fun e => decide (kindTest e.1 ≠ t) || b.spareFail.contains e),
    spareFail := b.spareFail.filter (fun e => decide (kindTest e.1 ≠ t)) }

/-- The controller after a part of test t at time `now`; `last` completes its sweep. -/
def Bist.endPart (b : Bist) (t : Nat) (ok last : Bool) (now : Nat) : Bist :=
  let bad := if ok then b.sweepFail else b.sweepFail ||| bit8 t
  let failed := if ok then b.failed else b.failed ||| bit8 t
  let clean := last && ! bad.getLsbD t
  let c := if last then b.sparesSwept t else b
  { c with
    failed := if clean then failed &&& ~~~ bit8 t else failed,
    sweepFail := if last then bad &&& ~~~ bit8 t else bad,
    lastSweep := if last then b.lastSweep.set 0 t now else b.lastSweep,
    sweeps := if last then b.sweeps.set 0 t (b.sweeps.get 0 t + 1) else b.sweeps }

/-- A part of test t ends. A failure brings a new report, and the first one a log entry (R430, R442). -/
def State.bistPart (s : State) (t : Nat) (ok last : Bool) : State :=
  let s1 := { s with bist := s.bist.endPart t ok last s.clk.now }
  if ok then s1
  else if s.bist.failed.getLsbD t then s1.rebuildReport
  else (s1.mlog 0x2800 0x02 2 0 s1.bist.failed.toNat).rebuildReport

/-! ### Soft repair (R438, R439) -/

/-- A node word is taken over from the other bank (R439). -/
def State.takeWord (s : State) (kind w : Nat) : State :=
  if s.lotD.mayWrite w then
    let g := s.comG w
    let o := s.comO w
    if kind = 2 then { s with nmt := { s.nmt with comG := s.nmt.comG.set (s.initG w) w ⟨undye o.key o.val, o.tag, 0⟩ } }
    else { s with nmt := { s.nmt with comO := s.nmt.comO.set (s.initO w) w ⟨dye o.key g.val, g.tag, o.key⟩ } }
  else s

/-- A requested repair takes effect, in place of a spare that served the unit until then. -/
def State.takeRepair (s : State) (r : Repair) : State :=
  let s1 := { s with bist := { s.bist with
    wanted := s.bist.wanted.filter (fun x => ! x.same r),
    repairs := s.bist.repairs.filter (fun (x : Repair) => ! decide (x.kind = r.kind ∧ x.unit = r.unit)) ++ [r] } }
  let s2 := if r.kind = 2 ∨ r.kind = 3 then s1.takeWord r.kind r.unit else s1
  (s2.mlog 0x2800 (2 + r.kind) 1 r.unit (s2.bist.inUse r.kind)).rebuildReport

/-- The partition at whose latch strobe a repair takes effect: none where it waits for none (R439). -/
def State.repairPart (s : State) (r : Repair) : Option Nat :=
  match r.kind with
  | 4 => s.lotD.inUse.find? (fun p => decide (s.lotD.pFirst p ≤ r.unit ∧ r.unit < s.lotD.pFirst p + s.lotD.pCount p))
  | _ => s.lotD.writer r.unit

/-- The unit is an input-bound node word that a frame brings: its spare takes over at the first landing after the request (R439). The
module's own sources write W0 to W5 and the LOCAL words at their own rate, within 10 us, which no row shows: their spares take over at
once (DESIGN CHOICE, log entry 74). -/
def State.repairLands (s : State) (r : Repair) : Bool :=
  decide (r.kind = 2 ∨ r.kind = 3) && s.lotD.inputBound r.unit && decide (16 ≤ r.unit ∧ s.lotD.bType r.unit ≠ 1)

/-- Request a repair of a unit: the lowest usable spare, or Safe Halt with cause 6 (R438, R439). -/
def State.requestRepair (s : State) (kind unit : Nat) : State :=
  if s.bist.serves kind unit then s
  else match s.bist.usable kind with
    | [] => s.enterHalt 6
    | k :: _ =>
      let r : Repair := { kind := kind, unit := unit, spare := k }
      let s1 := { s with bist := { s.bist with wanted := s.bist.wanted ++ [r] } }
      if kind ≠ 1 ∧ (s1.repairPart r).isNone ∧ ! s1.repairLands r then s1.takeRepair r else s1

/-- A unit fails a test: a spare becomes unusable, and the unit that it served is repaired again, which an open release does not see
before its next latch strobe (R143); any other unit is repaired. -/
def State.unitFails (s : State) (u : RepairUnit) : State :=
  let (kind, n) := unitOf u
  if n ≥ firstSpare kind then
    let k := n - firstSpare kind
    let served := (s.bist.repairs ++ s.bist.wanted).filter (fun r => decide (r.kind = kind ∧ r.spare = k))
    let s1 := { s with bist := { s.bist with
      unusable := s.bist.unusable ++ [(kind, k)], spareFail := s.bist.spareFail ++ [(kind, k)], wanted := s.bist.wanted.filter (fun r => ! decide (r.kind = kind ∧ r.spare = k)) } }
    served.foldl (fun a r => a.requestRepair r.kind r.unit) s1
  else s.requestRepair kind n

/-- A unit put into a list of units of its kind that ascends by number. -/
def insertUnit (u : RepairUnit) : List RepairUnit → List RepairUnit
  | [] => [u]
  | v :: l => if (unitOf u).2 ≤ (unitOf v).2 then u :: v :: l else v :: insertUnit u l

/-- Units in ascending order: the lower number takes the spare (R446). -/
def sortUnits (l : List RepairUnit) : List RepairUnit := l.foldr insertUnit []

/-- Units that fail together, the lower number first (R446). -/
def State.unitsFail (s : State) (us : List RepairUnit) : State := (sortUnits us).foldl State.unitFails s

/-- Rows queued by R102 become repair requests; a spare row has failed its test (R433, R438). -/
def State.rowRequests (s : State) : State :=
  ({ s with sle := { s.sle with rowQueue := [] } } : State).unitsFail (s.sle.rowQueue.map .row)

/-- The spare of a node word takes over the row of latch plane p (R439). -/
def Repair.strobed (r : Repair) (p : Nat) : Repair :=
  if r.kind = 2 ∨ r.kind = 3 then { r with planes := r.planes ||| BitVec.ofNat 16 (2 ^ p) } else r

/-- The rows of latch plane p are taken over, also where the spare's other rows still wait. -/
def State.planesAtStrobe (s : State) (p : Nat) : State :=
  { s with bist := { s.bist with repairs := s.bist.repairs.map (fun r => r.strobed p), wanted := s.bist.wanted.map (fun r => r.strobed p) } }

/-- A landing of word w: the spares that wait for it take over (R439). -/
def State.repairsAtLanding (s : State) (w : Nat) : State :=
  (s.bist.wanted.filter (fun r => decide (r.unit = w) && s.repairLands r)).foldl State.takeRepair s

/-- The latch strobe of partition p: lanes, its words, its rows and the rows of its latch plane are taken over, and the assignment is
bound to the release that opens (R143, R439). A release that is open in another partition keeps the assignment bound to it. -/
def State.repairsAtStrobe (s : State) (p : Nat) : State :=
  let s0 := s.planesAtStrobe p
  let s1 := (s0.bist.wanted.filter (fun r => decide (r.kind = 1) || decide (s.repairPart r = some p))).foldl State.takeRepair s0
  s1.setPart p { s1.part p with bound := s1.bist.repairs }

end Sys2Proof.Machine
end

