-- ==== Sys2Proof/Machine/Engine.lean ====
section
/-! DEFINITION. One WOP of a running pass (chapters 05 and 06): fetch with its ECC finding, operand read, function stage, merge,
write and signature; suspension points; the eight WOP classes. -/

namespace Sys2Proof.Machine

/-! ### Words and timers as a pass sees them -/

/-- The latch plane's word w of partition p (R95). -/
def State.plane (s : State) (ps : Pass) (p w : Nat) : Cell :=
  match ps with
  | .ground => s.nmt.planeG.get {} (2048 * p + w)
  | .overdye => s.nmt.planeO.get {} (2048 * p + w)

/-- The working copy of word w, where the partition has written it in this release (R96). -/
def Part.work (q : Part) (ps : Pass) (w : Nat) : Option Cell :=
  match ps with
  | .ground => q.workG.get none w
  | .overdye => q.workO.get none w

/-- The committed word of a bank (R97). -/
def State.committed (s : State) (ps : Pass) (w : Nat) : Cell :=
  match ps with
  | .ground => s.comG w
  | .overdye => s.comO w

/-- What an operand of partition p reads (R96). -/
def State.curWord (s : State) (p : Nat) (ps : Pass) (w : Nat) : Cell :=
  match (s.part p).work ps w with
  | some c => c
  | none => if s.lotD.pWrites p w then s.committed ps w else s.plane ps p w

/-- The committed state of lane timer t, in the overdye memory at its slot under the group's stamp (R120, R121, R133). -/
def State.timer (s : State) (ps : Pass) (t : Nat) : TCell :=
  match ps with
  | .ground => s.sle.tmG.get (timerStart (s.lotD.preset t)) t
  | .overdye => s.sle.tmO.get (timerStartO (s.lotD.preset t)) (timerSlot (s.sle.tmKey.get 0 (t / 128)) t)

/-- A word of a bank in plain form (R129). -/
def plainOf (ps : Pass) (c : Cell) : Lanes :=
  match ps with
  | .ground => c.val
  | .overdye => undye c.key c.val

/-- The inputs of the function stage for WOP w of partition p. -/
def State.wopIn (s : State) (p : Nat) (ps : Pass) (w : Wop) : WopIn :=
  let k := (s.part p).key
  let ca := s.curWord p ps w.a.addr
  let cb := s.curWord p ps w.b.addr
  let cc := s.curWord p ps w.c.addr
  let cd := s.curWord p ps w.d.addr
  let cq := s.curWord p ps w.dest
  { pass := ps, key := k,
    a := operandLanes ps k w.a ca, b := operandLanes ps k w.b cb,
    c := operandLanes ps k w.c cc, d := operandLanes ps k w.d cd,
    ta := ca.tag, tb := cb.tag, tc := cc.tag, td := cd.tag,
    q := alignLanes ps k cq, tq := cq.tag,
    h := alignLanes ps k (s.curWord p ps (w.dest + 1)),
    mask := s.lotD.mask w.mask,
    first := (plainOf ps (s.plane ps p 5)).getLsbD 2 }

/-! ### The write and the signature (R88, R108, R134, R135) -/

/-- The 20 bytes of one signature entry; the value is the plain word. -/
def sigEntry (w : Nat) (t : Tag) (plain : Lanes) : List Byte :=
  leBytes 2 w ++ [t, 0] ++ laneBytes plain

/-- The 8-byte preamble. -/
def sigPreamble (n p : Nat) : List Byte := leBytes 4 n ++ [BitVec.ofNat 8 p, 0, 0, 0]

/-- A write of the pass: merge under the lanes, tag by R88 and the force flag, working buffer, signature entry. -/
def Part.write (q : Part) (ps : Pass) (lot : Lot) (old : Cell) (w : Nat) (lanes y : Lanes) (t : Tag) : Part :=
  let aligned := alignLanes ps q.key old
  let v := (y &&& lanes) ||| (aligned &&& ~~~ lanes)
  let tg := lot.force w (match q.work ps w with
    | none => t
    | some c => mergeTag c.tag t)
  match ps with
  | .ground =>
    let e := sigEntry w tg v
    { q with workG := q.workG.set none w (some ⟨v, tg, 0⟩), sgC := crcFeed polyC q.sgC e, sgI := crcFeed polyIeee q.sgI e }
  | .overdye =>
    let e := sigEntry w tg (undye q.key v)
    { q with workO := q.workO.set none w (some ⟨v, tg, q.key⟩), soC := crcFeed polyC q.soC e, soI := crcFeed polyIeee q.soI e }

/-- The finished signature of a pass: CRC-32C in [63:32], CRC-32 in [31:0] (R134). -/
def finishSig (c i : BitVec 32) : Nat := (~~~ c).toNat * 2 ^ 32 + (~~~ i).toNat
def Part.sigG (q : Part) : Nat := finishSig q.sgC q.sgI
def Part.sigO (q : Part) : Nat := finishSig q.soC q.soI

/-- The lanes of a TIMER WOP, ascending: new working timers and the output lanes. -/
def timerLanes (ps : Pass) (lot : Lot) (k : Key) (stamp : Nat) (prev : Option Nat) (g mode : Nat) (mask x : Lanes)
    (cur : Nat → TCell) (work : Tab (Option TCell)) : Tab (Option TCell) × Lanes :=
  (List.range 128).foldl (fun acc l =>
    if mask.getLsbD l then
      let t := 128 * g + l
      let j := match ps with
        | .ground => l
        | .overdye => (l + k.toNat) % 128
      let pre := lot.preset t
      let dl := timerDelta (lot.timerTick t) stamp prev
      let at_ := passSlot ps k t
      let c := (acc.1.get none at_).getD (cur t)
      let r := match ps with
        | .ground => timerGround mode pre dl (x.getLsbD j) c
        | .overdye => timerOverdye mode pre dl (x.getLsbD j) c
      (acc.1.set none at_ (some r.1), if r.2 then acc.2 ||| BitVec.ofNat 128 (2 ^ j) else acc.2)
    else acc) (work, 0)

/-- New states of lane timers go into the overdye memory under key k: the groups they lie in move to that key as a whole, the other
timers of the group with them (R133). -/
def State.putTimersO (s : State) (k : Key) (new : List (Nat × TCell)) : State :=
  let gs := (new.map (fun e => e.1 / 128)).eraseDups
  let mem := gs.foldl (fun (t : Tab TCell) g => (List.range 128).foldl (fun (u : Tab TCell) l =>
    let n := 128 * g + l
    let c := match new.find? (fun e => decide (e.1 = n)) with
      | some e => e.2
      | none => s.timer .overdye n
    u.set (timerStartO (s.lotD.preset n)) (timerSlot k n) c) t) s.sle.tmO
  { s with sle := { s.sle with tmO := mem, tmKey := gs.foldl (fun t g => t.set 0 g k) s.sle.tmKey } }

/-- The overdye timers that an attempt has evaluated, by timer. -/
def Part.timersO (q : Part) : List (Nat × TCell) :=
  q.timO.cells.filterMap (fun e => e.2.map (fun c => (timerSlot (BitVec.ofNat 7 (128 - q.key.toNat)) e.1, c)))

/-- The effect of WOP w of partition p in a pass; `flip` is what a fault of the engine flips in the function-stage output. -/
def State.doWop (s : State) (p : Nat) (ps : Pass) (w : Wop) (flip : Lanes) : State :=
  if w.cls > 5 then s
  else
    let i := s.wopIn p ps w
    let q := s.part p
    let old := s.curWord p ps w.dest
    if w.cls = 3 then
      let x := i.table w
      let r := timerLanes ps s.lotD q.key q.stamp q.prev (field w.aux 5 2) (field w.aux 1 0) i.mask x
        (s.timer ps) (match ps with
          | .ground => q.timG
          | .overdye => q.timO)
      let q1 := match ps with
        | .ground => { q with timG := r.1 }
        | .overdye => { q with timO := r.1 }
      s.setPart p (q1.write ps s.lotD old w.dest (i.lanes w) (r.2 ^^^ flip) (i.tag w))
    else
      let q1 := q.write ps s.lotD old w.dest (i.lanes w) (i.out w ^^^ flip) (i.tag w)
      if w.cls = 2 then
        s.setPart p (q1.write ps s.lotD (s.curWord p ps (w.dest + 1)) (w.dest + 1) (i.lanes w) (i.table w) (i.tag w))
      else s.setPart p q1

/-! ### The order of the two passes, suspension and the debug halt (R125, R148, R158, R159) -/

/-- The pass and the WOP that the running attempt of a partition executes next; none where both passes have ended or a debug
halt holds it (R148). -/
def Part.nextWop (q : Part) (n : Nat) (stopAt : Option Nat) : Option (Pass × Nat) :=
  match stopAt with
  | none => if q.gi < n then some (.ground, q.gi) else if q.oi < n then some (.overdye, q.oi) else none
  | some i => if q.gi ≤ i then some (.ground, q.gi) else if q.oi ≤ i then some (.overdye, q.oi) else none

/-- Rank of an open partition: class, release instant, number; the smaller goes first (R158). -/
def State.rank (s : State) (p : Nat) : Nat × Nat × Nat := (s.lotD.pClass p, (s.part p).relAt, p)

/-- The rank order. -/
def rankLt (a b : Nat × Nat × Nat) : Bool :=
  decide (a.1 < b.1) || (decide (a.1 = b.1) && (decide (a.2.1 < b.2.1) || (decide (a.2.1 = b.2.1) && decide (a.2.2 < b.2.2))))

/-- The open partition that EVS serves first (R158). -/
def State.best (s : State) : Option Nat :=
  (List.range 16).foldl (fun a p =>
    if (s.part p).phase = .idle ∨ (s.part p).phase = .image then a
    else match a with
      | none => some p
      | some b => if rankLt (s.rank p) (s.rank b) then some p else some b) none

/-- Begin an attempt: empty working copies, the signatures started with the preamble (R134, R135, R139). -/
def Part.begin (q : Part) (p : Nat) : Part :=
  let pre := sigPreamble ((q.seq + 1) % 2 ^ 32) p
  let c := crcFeed polyC 0xFFFFFFFF#32 pre
  let i := crcFeed polyIeee 0xFFFFFFFF#32 pre
  { q with phase := .passes, gi := 0, oi := 0, workG := {}, workO := {}, timG := {}, timO := {}, sgC := c, sgI := i, soC := c, soI := i }

/-- Give the free engine to the partition that goes first, if it has not begun; a suspended pass waits for PASS_RESUME. -/
def State.schedule (s : State) : State :=
  match s.best with
  | none => { s with sle := { s.sle with cur := none } }
  | some p =>
    if (s.part p).phase = .ready then
      (s.setPart p ((s.part p).begin p)).setCur (some p)
    else { s with sle := { s.sle with cur := none } }

/-- A partition has its release instant now and has not been released yet: partitions of one instant are served in R158's order, so the
engine waits for all of them (log entry 14). -/
def State.instantOpen (s : State) : Bool :=
  s.released && decide (s.sle.dbg.state < 2) && s.lotD.inUse.any (fun q => s.isInstant q && decide ((s.part q).relK ≤ s.instantK q))

/-- A suspension point of the running partition p: a ready partition of a higher class takes the engine, and p is suspended
and counted (R159). While a release of this very instant is still to come the engine stays free, so that the first in R158's order
gets it (log entry 14). -/
def State.suspendPoint (s : State) (p : Nat) : State :=
  match s.best with
  | some b =>
    if s.lotD.pClass b < s.lotD.pClass p then
      let s1 := s.setPart p { s.part p with suspensions := (s.part p).suspensions + 1 }
      if s1.instantOpen then { s1 with sle := { s1.sle with cur := none } } else s1.schedule
    else s
  | none => s

/-- Advance the index of a pass; the end of the ground pass is a suspension point, the end of both brings the gate. -/
def State.advance (s : State) (p : Nat) (ps : Pass) (cls : Nat) : State :=
  let n := s.lotD.pCount p
  let q := s.part p
  let q1 := match ps with
    | .ground => { q with gi := q.gi + 1 }
    | .overdye => { q with oi := q.oi + 1 }
  let done := decide (q1.gi ≥ n ∧ q1.oi ≥ n)
  let s1 := s.setPart p (if done then { q1 with phase := .gate } else q1)
  let atEnd := decide (ps = .ground ∧ q1.gi ≥ n)
  if (cls = 6 || atEnd) && ! done && s.sle.dbg.stopAt.isNone then s1.suspendPoint p else s1

/-- The ECC finding of a fetched row (R102): a corrected error is logged, a second one within 24 h queues the row for repair;
an uncorrectable row enters Safe Halt with cause 4. -/
def State.fetchEcc (s : State) (row : Nat) (e : Ecc) : State :=
  match e with
  | .clean => s
  | .corrected => (s.rowCorrected row).rowRequests
  | .uncorrectable => s.enterHalt 4

/-- The WOP at which a requested debug halt holds partition p (R148, R151). -/
def State.stopOf (s : State) (p : Nat) : Option Nat := if s.sle.dbg.part = some p then s.sle.dbg.stopAt else none

/-- One WOP row of class `cls`: it executes the next WOP of the running pass where that WOP is of the class. -/
def State.runWop (s : State) (cls : Nat) (f : Fetch) : State :=
  match s.sle.cur with
  | none => s
  | some p =>
    match (s.part p).nextWop (s.lotD.pCount p) (s.stopOf p) with
    | none => s
    | some (ps, i) =>
      let row := s.lotD.pFirst p + i
      let w := s.lotD.wop row
      if (s.part p).phase = .passes ∧ s.sle.dbg.state < 2 ∧ w.cls = cls then
        match f.ecc with
        | .uncorrectable => s.fetchEcc row .uncorrectable
        | e => ((s.fetchEcc row e).doWop p ps w f.flip).advance p ps cls
      else s

/-- LUT (R111). -/
def execLut (f : Fetch) (s : State) : Host.Outcome State Fault Refusal := .next (s.runWop 0 f)
/-- LATCH (R111, R112). -/
def execLatch (f : Fetch) (s : State) : Host.Outcome State Fault Refusal := .next (s.runWop 1 f)
/-- EDGE (R111, R113). -/
def execEdge (f : Fetch) (s : State) : Host.Outcome State Fault Refusal := .next (s.runWop 2 f)
/-- TIMER (R119 to R121, R133). -/
def execTimer (f : Fetch) (s : State) : Host.Outcome State Fault Refusal := .next (s.runWop 3 f)
/-- EQUIV (R111, R114). -/
def execEquiv (f : Fetch) (s : State) : Host.Outcome State Fault Refusal := .next (s.runWop 4 f)
/-- TAGSET (R111, R115). -/
def execTagset (f : Fetch) (s : State) : Host.Outcome State Fault Refusal := .next (s.runWop 5 f)
/-- BARRIER (R116). -/
def execBarrier (f : Fetch) (s : State) : Host.Outcome State Fault Refusal := .next (s.runWop 6 f)
/-- NOP (R116). -/
def execNop (f : Fetch) (s : State) : Host.Outcome State Fault Refusal := .next (s.runWop 7 f)

end Sys2Proof.Machine
end

