-- ==== Sys2Proof/Machine/AcceptEngine.lean ====
section
/-! DEFINITION. Acceptance checks of the container and of what the engine runs (R69 to R75, R92, R93, R104 to R118, R123, R124,
R153 to R155, R161, R162): each check answers the first refusal as code and item, or none. -/

namespace Sys2Proof.Machine

/-- A refusal of acceptance: code and item (R74). -/
abbrev Refuse := Option (Nat × Nat)

/-- A refusal where the condition holds. -/
def refuseIf (c : Bool) (code item : Nat) : Refuse := if c then some (code, item) else none

/-- Byte ranges that must be 0. -/
def rangeZero (l : List Byte) (o n : Nat) : Bool := allZero (slice l o n)

/-! ### Step 2: the container (R69 to R72) -/

/-- A directory entry (R70). -/
structure DirEntry where
  id : Nat
  rsv : Nat
  off : Nat
  len : Nat
  crc : Nat
deriving DecidableEq, Repr

/-- The first n entries of the directory of an image. -/
def dirEntries (img : List Byte) (n : Nat) : List DirEntry :=
  (List.range n).map (fun i =>
    let o := 128 + 16 * i
    ⟨u16 img o, u16 img (o + 2), u32 img (o + 4), u32 img (o + 8), u32 img (o + 12)⟩)

/-- IDs that Table: Lot sections lists, and those it requires. -/
def lotIds : List Nat := [1, 2, 3, 4, 5, 6, 7, 8, 9, 10, 11]
def lotRequired : List Nat := [1, 2, 3, 4, 5, 6, 8, 10, 11]

/-- The number of entries that the directory has: the directory ends where the first section begins, as the image is contiguous; a
first offset that leaves room for fewer than 9 or more than 11 tells nothing, and the header's count is taken (log entry 71). -/
def dirCount (img : List Byte) : Nat :=
  let first := (dirEntries img 9).foldl (fun a e => min a e.off) (u32 img 48)
  if first % 16 = 0 ∧ 272 ≤ first ∧ first ≤ 304 then (first - 128) / 16 else max 9 (min 11 (u16 img 40))

/-- The first entry of a list for which `bad` holds, with the entries before and behind it. -/
def dirFind (bad : List DirEntry → DirEntry → List DirEntry → Bool) (before : List DirEntry) : List DirEntry → Refuse
  | [] => none
  | e :: r => if bad before e r then some (0x0F000111, e.id) else dirFind bad (before ++ [e]) r

/-- A section that is misaligned, overlaps another or the directory, or does not end before the trailer (R70). -/
def misplaced (n total : Nat) (e : DirEntry) (later : List DirEntry) : Bool :=
  decide (e.off % 16 ≠ 0) || decide (e.off < 128 + 16 * n) || decide (e.off + e.len + 160 > total)
    || later.any (fun f => decide (e.off < f.off + f.len ∧ f.off < e.off + e.len))

/-- The directory is well formed, in the order in which R70 lists the checks: unknown, missing and repeated IDs, their order, the
places of the sections, the count. The item is the section ID concerned, 0 for the count. -/
def checkDir (img : List Byte) : Refuse :=
  let n := dirCount img
  let es := dirEntries img n
  dirFind (fun _ e _ => ! lotIds.contains e.id) [] es <|>
  lotRequired.findSome? (fun i => refuseIf (! es.any (fun e => decide (e.id = i))) 0x0F000111 i) <|>
  dirFind (fun before e _ => before.any (fun f => decide (f.id = e.id))) [] es <|>
  dirFind (fun before e _ => before.any (fun f => decide (f.id > e.id))) [] es <|>
  dirFind (fun _ e later => misplaced n (u32 img 48) e later) [] es <|>
  refuseIf (decide (u16 img 40 ≠ n)) 0x0F000111 0

/-- A section has its CRC (R71). -/
def sectionGood (img : List Byte) (e : DirEntry) : Bool := decide ((crc32 (leBytes 2 e.id ++ slice img e.off e.len)).toNat = e.crc)

/-- Section CRCs in ascending ID (R71). -/
def checkCrcs (img : List Byte) : Refuse :=
  (dirEntries img (u16 img 40)).findSome? (fun e => refuseIf (! sectionGood img e) 0x0F000112 e.id)

/-- The register of the CRC of R71 after a section ID and these bytes, before the final XOR. -/
def crcRun (id : Nat) (l : List Byte) : Nat := (crcFeed polyIeee 0xFFFFFFFF#32 (leBytes 2 id ++ l)).toNat

/-- What the loader's unit holds behind the check of an image's sections: the first whose CRC is wrong, or the last (R445). -/
def loaderRun (img : List Byte) : Option Nat :=
  let es := dirEntries img (u16 img 40)
  ((es.find? (fun e => ! sectionGood img e)) <|> es.getLast?).map (fun e => crcRun e.id (slice img e.off e.len))

/-- The lot that an image holds; the trailer digest names it (R72, R73). -/
def Lot.ofImage (img : List Byte) : Lot :=
  let total := u32 img 48
  { hdr := slice img 0 128, digest := slice img (total - 96) 32,
    secs := (dirEntries img (min 11 (u16 img 40))).foldl (fun t e => t.set [] e.id (slice img e.off e.len)) {} }

/-! ### Step 1: the signature (R72) -/

/-- The key digest of a slot that is not usable is none; otherwise digest, signature and curve are checked in the table's
order. -/
def checkSignature (img : List Byte) (slot : Option (List Byte)) : Refuse :=
  let total := u32 img 48
  let o := total - 160
  match slot with
  | none => some (0x0F000101, 0)
  | some dg =>
    refuseIf (decide (sha256 (slice img o 64) ≠ dg)) 0x0F000102 0 <|>
    refuseIf (decide (sha256 (img.take (total - 96)) ≠ slice img (total - 96) 32)) 0x0F000103 0 <|>
    refuseIf (! ecdsaVerify (beNat (slice img o 32)) (beNat (slice img (o + 32) 32)) (slice img (total - 96) 32)
        (beNat (slice img (total - 64) 32)) (beNat (slice img (total - 32) 32))) 0x0F000104 0

/-! ### Step 3: header compatibility (R69) -/

/-- Row 0x0F00_0121: magic, version, target, lot ID, silicon, firmware, a production lot on an engineering sample. -/
def checkCompat (l : Lot) (silicon firmware : Nat) (sample : Bool) : Refuse :=
  refuseIf (decide (u32 l.hdr 0 ≠ 0x544C5846) || decide (u16 l.hdr 4 ≠ 1) || decide (u32 l.hdr 16 ≠ 0x00002144)
    || decide (l.id = 0) || decide (silicon < l.minSilicon) || decide (firmware < l.minFirmware)
    || (l.production && sample)) 0x0F000121 0

/-- Reserved fields and encodings of the header; a header length other than 128 counts as one (log entry 71). -/
def checkHeader (l : Lot) : Refuse :=
  refuseIf (decide (u16 l.hdr 6 ≠ 128) || decide (u32 l.hdr 28 ≠ 0) || decide (l.keySlot > 3)
    || decide (u8 l.hdr 43 ≥ 4) || decide (l.members > 7) || decide (l.member > 7) || decide (l.side > 2)
    || decide (u8 l.hdr 47 ≥ 2) || ! rangeZero l.hdr 52 76) 0x0F000122 0

/-- The reserved halfwords of the directory entries. -/
def checkDirReserved (img : List Byte) : Refuse :=
  (dirEntries img (min 11 (u16 img 40))).findSome? (fun e => refuseIf (decide (e.rsv ≠ 0)) 0x0F000122 e.id)

/-! ### Section 0x0001 (R107, R109, R110, R123) -/

/-- Item of a WOP. -/
def wopItem (i : Nat) : Nat := 0x00120000 + i

/-- The encoding of WOP `w`, raw word `v`, is refused by R107, R109, R110 or R123. -/
def wopBad (l : Lot) (v : Nat) (w : Wop) : Bool :=
  let opBad := (List.range 4).any (fun j => ! w.uses j && decide (w.opnd j ≠ ⟨0, 0, false⟩))
  let auxMask : Nat := match w.cls with
    | 1 => 1
    | 2 => 7
    | 3 => 63
    | 4 => 3
    | 5 => 15
    | _ => 0
  let auxBad := decide (Nat.land w.aux (63 - auxMask) ≠ 0)
    || (decide (w.cls = 2 ∨ w.cls = 3) && decide (field w.aux 1 0 = 3))
  let qm := field w.tag 1 0
  let tagBad := decide (field w.tag 3 2 ≠ 0) || decide (field w.tag 7 6 ≠ 0)
    || (decide (qm = 1 ∨ qm = 2) && decide (w.cls ≠ 5))
    || (bitOf w.tag 5 && decide (w.cls ≠ 0 ∧ w.cls ≠ 5))
    || (bitOf w.tag 4 && ! bitOf w.tag 5)
  if w.cls > 7 then true
  else if w.cls > 5 then decide (v ≠ w.cls * 2 ^ 124)
  else opBad || auxBad || tagBad || decide (l.mask w.mask = 0)

/-- The WOPs of section 0x0001 with their raw words. -/
def Lot.rawWops (l : Lot) : List Nat := (blocks 16 (l.sec 1)).map leNat

/-- The number of WOPs. -/
def Lot.wopCount (l : Lot) : Nat := (l.sec 1).length / 16

/-- First index of a list with a property. -/
def findIdx {α : Type} (f : α → Bool) : Nat → List α → Option Nat
  | _, [] => none
  | i, x :: r => if f x then some i else findIdx f (i + 1) r

/-- A Mask Table of the wrong length (R70). -/
def checkMasks (l : Lot) : Refuse := refuseIf (decide ((l.sec 2).length ≠ 2048)) 0x0F000122 2

/-- Section 0x0001: its length, then its WOPs in order. -/
def checkWops (l : Lot) : Refuse :=
  let n := (l.sec 1).length
  refuseIf (decide (n % 16 ≠ 0 ∨ n < 16 ∨ n > 1048576)) 0x0F000122 1 <|>
  ((findIdx (fun v => wopBad l v (Wop.ofNat v)) 0 l.rawWops).map (fun i => (0x0F000122, wopItem i)))

/-! ### Section 0x0003 (R92) -/

/-- LOCAL selectors that exist (Table: LOCAL selectors). -/
def selectorOk (p : Nat) : Bool := decide (p ≤ 3 ∨ (0x10 ≤ p ∧ p ≤ 0x2F) ∨ p = 0x30)

/-- The entry of word w is refused by R92: a reserved type, also of W0 to W15 (one that is merely not theirs is a rebound word). -/
def bindingBad (l : Lot) (w : Nat) : Bool :=
  let b := slice (l.sec 3) (32 * w) 32
  let t := u8 b 0
  let pm := u8 b 1
  if w < 16 then decide (10 ≤ t ∧ t ≠ 15) || ! rangeZero b 1 31
  else
    let typeBad := decide (10 ≤ t)
    let parmBad := match t with
      | 1 => ! selectorOk pm
      | 2 => false
      | 5 => decide (pm > 63)
      | 6 => decide (pm > 63)
      | _ => decide (pm ≠ 0)
    let partBad := if t = 9 then decide (u16 b 2 > 2047) else decide (u16 b 2 ≠ 0)
    typeBad || parmBad || partBad || decide (u8 b 4 > 1) || ! rangeZero b 5 3
      || (decide (t ≠ 8) && ! rangeZero b 8 16) || ! rangeZero b 24 8

def checkBindings (l : Lot) : Refuse :=
  refuseIf (decide ((l.sec 3).length ≠ 65536)) 0x0F000122 3 <|>
  (List.range 2048).findSome? (fun w => refuseIf (bindingBad l w) 0x0F000122 w)

/-! ### Sections 0x0002, 0x0004, 0x0006, 0x000B (R70, R108, R117, R154, R155, R75) -/

/-- Entry p of the Partition Table is refused at step 3 (R154, R155), overlaps apart. -/
def partBad (l : Lot) (p : Nat) : Bool :=
  let b := slice (l.sec 4) (16 * p) 16
  if ! l.pInUse p then ! allZero b
  else decide (u8 b 0 > 3) || decide (u8 b 1 > 2) || ! rangeZero b 12 4 || decide (l.pCount p = 0 ∨ l.pCount p > 65536)
    || decide (l.pFirst p + l.pCount p > l.wopCount)

/-- Partition p's range overlaps that of a lower partition. -/
def partOverlaps (l : Lot) (p : Nat) : Bool :=
  l.pInUse p && (l.inUse.filter (fun q => decide (q < p))).any (fun q =>
    decide (l.pFirst p < l.pFirst q + l.pCount q ∧ l.pFirst q < l.pFirst p + l.pCount p))

/-- WOP i belongs to some range. -/
def wopOwned (l : Lot) (i : Nat) : Bool := l.inUse.any (fun p => decide (l.pFirst p ≤ i ∧ i < l.pFirst p + l.pCount p))

def checkPartitions (l : Lot) : Refuse :=
  refuseIf (decide ((l.sec 4).length ≠ 256)) 0x0F000122 4 <|>
  (List.range 16).findSome? (fun p => refuseIf (partBad l p || partOverlaps l p) 0x0F000122 p) <|>
  (List.range l.wopCount).findSome? (fun i => refuseIf (! wopOwned l i) 0x0F000122 (wopItem i))

def checkPresets (l : Lot) : Refuse :=
  refuseIf (decide ((l.sec 6).length ≠ 8192)) 0x0F000122 6 <|>
  ((findIdx (fun b => decide (leNat b ≥ 2 ^ 25)) 0 (blocks 4 (l.sec 6))).map (fun t => (0x0F000122, 0x00010000 + t)))

def checkReference (l : Lot) : Refuse :=
  refuseIf (decide ((l.sec 11).length ≠ 128)) 0x0F000122 11 <|>
  refuseIf ((List.range 16).any (fun p => ! l.pInUse p && decide (u64 (l.sec 11) (8 * p) ≠ 0))) 0x0F000122 11

/-! ### Row 0x0F00_0124: sources of words and lane timers (R93, R113, R118) -/

/-- The partition whose range holds WOP i. -/
def wopPart (l : Lot) (i : Nat) : Option Nat := l.inUse.find? (fun p => decide (l.pFirst p ≤ i ∧ i < l.pFirst p + l.pCount p))

/-- The words written so far with their partition and whether by an EDGE history, and the timers reached so far. -/
structure WriteScan where
  words : Tab (Option (Nat × Bool × Bool)) := {}
  timers : Tab Bool := {}
  out : Refuse := none
deriving DecidableEq, Repr

/-- One word that a WOP of partition p writes: `hist` where it is the history word of an EDGE, `edge` where the WOP is EDGE. -/
def WriteScan.word (c : WriteScan) (l : Lot) (p w : Nat) (hist edge : Bool) : WriteScan :=
  if c.out.isSome then c
  else if ! l.mayWrite w || decide (w > 2047) then { c with out := some (0x0F000124, w) }
  else if hist && decide (w < 16 ∨ l.bType w ≠ 7) then { c with out := some (0x0F000124, w) }
  else match c.words.get none w with
    | none => { c with words := c.words.set none w (some (p, hist, ! edge)) }
    | some (q, h, ne) =>
      if q ≠ p then { c with out := some (0x0F000124, w) }
      else if (hist && ne) || (h && ! edge) then { c with out := some (0x0F000124, w) }
      else { c with words := c.words.set none w (some (p, h || hist, ne || ! edge)) }

/-- One WOP of the scan. -/
def WriteScan.wop (c : WriteScan) (l : Lot) (i : Nat) (w : Wop) : WriteScan :=
  if w.cls > 5 then c
  else
    let p := (wopPart l i).getD 16
    let edge := decide (w.cls = 2)
    let c1 := c.word l p w.dest false edge
    let c2 := if edge then c1.word l p (w.dest + 1) true true else c1
    (wopTimers l w).foldl (fun a t =>
      if a.out.isSome then a
      else if a.timers.get false t then { a with out := some (0x0F000124, 0x00010000 + t) }
      else { a with timers := a.timers.set false t true }) c2

/-- The scan over the program. -/
def scanWrites (l : Lot) : WriteScan :=
  ((l.rawWops.foldl (fun (a : WriteScan × Nat) v => (a.1.wop l a.2 (Wop.ofNat v), a.2 + 1)) ({}, 0))).1

/-- Program first, then the Binding Table: fixed types, and output words that no WOP writes. -/
def checkSources (l : Lot) : Refuse :=
  let sc := scanWrites l
  sc.out <|>
  (List.range 2048).findSome? (fun w =>
    if w < 16 then refuseIf (decide (l.bType w ≠ 15)) 0x0F000124 w
    else
      let t := l.bType w
      refuseIf ((decide (t = 4 ∨ t = 6) || (decide (t = 2) && bitOf (l.bParam w) 3)) && (sc.words.get none w).isNone) 0x0F000124 w)

/-! ### Row 0x0F00_0125: NONSAFE paths (R93, R124) -/

/-- A word whose content comes from a NONSAFE source of itself; `nsTrunk` tells the TRUNK-IN words that carry a station of
class NONSAFE. -/
def nsSource (l : Lot) (nsTrunk : Nat → Bool) (w : Nat) : Bool :=
  decide (w ≥ 16) && (decide (l.bType w = 5) || l.bForce w || (decide (l.bType w = 3) && nsTrunk w))

/-- One round of propagation through every WOP that is not both PERM and CLRNS. -/
def nsRound (ws : List Wop) (t : BitVec 2048) : BitVec 2048 :=
  ws.foldl (fun a w =>
    if bitOf w.tag 5 && bitOf w.tag 4 then a
    else if w.reads.any (fun r => a.getLsbD r) then w.writes.foldl (fun b x => b ||| BitVec.ofNat 2048 (2 ^ x)) a
    else a) t

/-- Rounds until nothing changes. -/
def nsClosure (ws : List Wop) : Nat → BitVec 2048 → BitVec 2048
  | 0, t => t
  | n + 1, t => let u := nsRound ws t; if u = t then t else nsClosure ws n u

/-- W8, TRUNK-OUT and CASCADE out: the output words that must not hold NONSAFE (R89, R93). -/
def safeOutput (l : Lot) (w : Nat) : Bool :=
  if w < 16 then decide (w = 8) else decide (l.bType w = 4) || (decide (l.bType w = 2) && bitOf (l.bParam w) 3)

def checkNonsafe (l : Lot) (nsTrunk : Nat → Bool) : Refuse :=
  let src := (List.range 2048).foldl (fun (a : BitVec 2048) w =>
    if nsSource l nsTrunk w then a ||| BitVec.ofNat 2048 (2 ^ w) else a) 0
  let t := nsClosure (l.rawWops.map Wop.ofNat) 2048 src
  (List.range 2048).findSome? (fun w => refuseIf (safeOutput l w && t.getLsbD w) 0x0F000125 w)

/-! ### Step 4: admission (R155, R161, R116) -/

/-- The period range of a class in units of 5 us (R153). -/
def classRange (c : Nat) : Nat × Nat :=
  match c with
  | 0 => (25, 100)
  | 1 => (200, 2000)
  | _ => (800, 20000)

def checkPeriods (l : Lot) : Refuse :=
  l.inUse.findSome? (fun p =>
    let u := l.pPeriod p / 250
    let r := classRange (l.pClass p)
    refuseIf (decide (u < r.1 ∨ u > r.2) || decide (l.pOffset p ≥ l.pPeriod p)) 0x0F000131 p) <|>
  refuseIf l.inUse.isEmpty 0x0F000131 255

/-- Add 2 N / T WOP per tick to a load kept as numerator and denominator. -/
def addLoad (l : Lot) (f : Nat × Nat) (p : Nat) : Nat × Nat :=
  let t := max 1 (l.pPeriod p)
  (f.1 * t + 2 * l.pCount p * f.2, f.2 * t)

/-- The admitted load in whole k WOP/s (0x2000:18): WOP per tick times 50,000, rounded down (DESIGN CHOICE, log entry 74: R169 gives no
rounding). -/
def Lot.load (l : Lot) : Nat :=
  let f := l.inUse.foldl (addLoad l) (0, 1)
  f.1 * 50000 / f.2

/-- The running sum first exceeds 193.8 M WOP/s, 3.876 WOP per tick (R161). -/
def checkLoad (l : Lot) : Refuse :=
  ((l.inUse.foldl (fun (a : (Nat × Nat) × Refuse) p =>
      let f := addLoad l a.1 p
      (f, a.2 <|> refuseIf (decide (f.1 * 1000 > 3876 * f.2)) 0x0F000132 p)) ((0, 1), none))).2

/-- The longest run of WOPs without a BARRIER (R116). -/
def longestRun (ws : List Wop) : Nat :=
  (ws.foldl (fun (a : Nat × Nat) w => if w.cls = 6 then (0, a.2) else (a.1 + 1, max a.2 (a.1 + 1))) (0, 0)).2

def checkBarriers (l : Lot) : Refuse :=
  l.inUse.findSome? (fun p => refuseIf (decide (longestRun (l.wops p) > 4096)) 0x0F000132 p)

/-! ### Step 6: the dry run and the estimate (R75, R162) -/

/-- The tag of an input-bound word in the dry run: its initial tag with quality GOOD. -/
def dryCell (s : State) (w : Nat) : Cell :=
  if w = 5 then ⟨5, 0x04#8, 0⟩
  else if s.lotD.inputBound w then ⟨0, setQ (s.lotD.initTag w) 0, 0⟩ else s.initG w

/-- A machine that holds nothing but the lot, with partition p's plane latched as R75 lays down and its passes begun under
key 0x55 with sequence number 0. -/
def dryStart (l : Lot) (p : Nat) : State :=
  let s : State := { lot := { active := some l } }
  let k : Key := 0x55#7
  let s1 := (5 :: (l.latched p).filter (fun w => w ≠ 5)).foldl (fun (a : State) w =>
    let c := dryCell s w
    { a with nmt := { a.nmt with planeG := a.nmt.planeG.set {} (2048 * p + w) c,
                                 planeO := a.nmt.planeO.set {} (2048 * p + w) ⟨dye k c.val, c.tag, k⟩ } }) s
  s1.setPart p (({ key := k, seq := 2 ^ 32 - 1 } : Part).begin p)

/-- What the hardware does to WOP i of a pass of the dry run. -/
def dryFlip (faults : List EngineFault) (p : Nat) (overdye : Bool) (i : Nat) : Lanes :=
  match faults.find? (fun e => decide (e.part = p ∧ e.wop = i ∧ e.overdye = overdye)) with
  | some e => e.fetch.flip
  | none => 0

/-- One pass of the dry run of partition p over its WOPs. -/
def dryPass (faults : List EngineFault) (p : Nat) (ps : Pass) (ws : List Wop) (s : State) : State :=
  (ws.foldl (fun (a : State × Nat) w => (a.1.doWop p ps w (dryFlip faults p (decide (ps = .overdye)) a.2), a.2 + 1)) (s, 0)).1

/-- The two signatures of the dry run of partition p. -/
def drySigs (l : Lot) (faults : List EngineFault) (p : Nat) : Nat × Nat :=
  let ws := l.wops p
  let s := dryPass faults p .overdye ws (dryPass faults p .ground ws (dryStart l p))
  ((s.part p).sigG, (s.part p).sigO)

/-- C_q in twelfths of a tick (R162). -/
def estCost (l : Lot) (q : Nat) : Nat := 5 * l.pCount q + 1500

/-- One iteration of R162 in twelfths of a tick. -/
def estNext (l : Lot) (p r : Nat) : Nat :=
  let others := l.inUse.filter (fun q => q ≠ p)
  12000 + estCost l p
    + ((others.filter (fun q => l.pClass q = l.pClass p)).map (estCost l)).foldl (· + ·) 0
    + ((others.filter (fun q => l.pClass q < l.pClass p)).map (fun q =>
        let t := 12 * max 1 (l.pPeriod q)
        (r + t - 1) / t * estCost l q)).foldl (· + ·) 0

/-- The iteration until it is stable or above the period. -/
def estLoop (l : Lot) (p : Nat) : Nat → Nat → Nat
  | 0, r => r
  | n + 1, r => let r1 := estNext l p r; if r1 = r then r else if r1 > 12 * l.pPeriod p then r1 else estLoop l p n r1

/-- The floor-rate response estimate in twelfths of a tick. -/
def Lot.estimate (l : Lot) (p : Nat) : Nat := estLoop l p 65536 (estNext l p 0)

/-- The estimate in ns (0x2020+p:0B). -/
def Lot.estimateNs (l : Lot) (p : Nat) : Nat := l.estimate p * 5 / 3

end Sys2Proof.Machine
end

