-- ==== Sys2Proof/Machine/LotInputs.lean ====
section
/-! DEFINITION. The input block of section 0x0005 (R172), the allocation of pulse slots (R176) and the block's acceptance checks
(R194). -/

namespace Sys2Proof.Machine

/-- Section 0x0005. -/
def Lot.s5 (l : Lot) : List Byte := l.sec 5

/-- Channel entry n. -/
def Lot.chMode (l : Lot) (n : Nat) : Nat := u8 l.s5 (16 * n)
def Lot.chCurrent (l : Lot) (n : Nat) : Nat := u8 l.s5 (16 * n + 1)
/-- Filter time in units of 100 us. -/
def Lot.chFilter (l : Lot) (n : Nat) : Nat := u16 l.s5 (16 * n + 2)
def Lot.chSrcRel (l : Lot) (n : Nat) : Nat := u8 l.s5 (16 * n + 4)
/-- Return time in units of 10 us. -/
def Lot.chRet (l : Lot) (n : Nat) : Nat := u8 l.s5 (16 * n + 5)
/-- Chatter window in ms. -/
def Lot.chChatter (l : Lot) (n : Nat) : Nat := u16 l.s5 (16 * n + 6)
def Lot.chProof (l : Lot) (n : Nat) : Nat := u16 l.s5 (16 * n + 8)
def Lot.chReset (l : Lot) (n : Nat) : Nat := u8 l.s5 (16 * n + 10)
def Lot.chFlags (l : Lot) (n : Nat) : Nat := u8 l.s5 (16 * n + 11)
def Lot.chUsed (l : Lot) (n : Nat) : Bool := decide (l.chMode n ≠ 0)
def Lot.chWake (l : Lot) (n : Nat) : Bool := l.chUsed n && bitOf (l.chFlags n) 0
def Lot.chIsReset (l : Lot) (n : Nat) : Bool := l.chUsed n && bitOf (l.chFlags n) 1
/-- The test source of a PULSED channel, by absolute number. -/
def Lot.chSource (l : Lot) (n : Nat) : Option Nat :=
  if l.chMode n = 2 then some ((if n < 24 then 0 else 4) + l.chSrcRel n) else none

/-- Pair entry p. -/
def Lot.prUsed (l : Lot) (p : Nat) : Bool := bitOf (u8 l.s5 (0x300 + 8 * p)) 0
def Lot.prReset (l : Lot) (p : Nat) : Nat := u8 l.s5 (0x300 + 8 * p + 1)
/-- T_disc in ms. -/
def Lot.prDisc (l : Lot) (p : Nat) : Nat := u16 l.s5 (0x300 + 8 * p + 2)

/-- Source entry k. -/
def Lot.srMode (l : Lot) (k : Nat) : Nat := u8 l.s5 (0x3C0 + 8 * k)
/-- Pulse width in units of 10 us, pulse period in units of 10 ms. -/
def Lot.srWidth (l : Lot) (k : Nat) : Nat := u16 l.s5 (0x3C0 + 8 * k + 2)
def Lot.srPeriod (l : Lot) (k : Nat) : Nat := u16 l.s5 (0x3C0 + 8 * k + 4)

/-- The halt-release source: type, channel or lane, word (R172). -/
def Lot.hrType (l : Lot) : Nat := u8 l.s5 0x400
def Lot.hrChan (l : Lot) : Nat := u8 l.s5 0x401
def Lot.hrWord (l : Lot) : Nat := u16 l.s5 0x402

/-- The reset source `code` of an entry is channel n: the channel itself, or 0xFF where n is the halt-release source. -/
def Lot.sourceIs (l : Lot) (code n : Nat) : Bool :=
  decide (code = n) || (decide (code = 0xFF) && decide (l.hrType = 0) && decide (l.hrChan = n))

/-- The channels that source k feeds. -/
def Lot.fed (l : Lot) (k : Nat) : List Nat := (List.range 48).filter (fun n => decide (l.chSource n = some k))

/-- The largest t_ret among the channels that source k feeds, in units of 10 us (R176). -/
def Lot.maxRet (l : Lot) (k : Nat) : Nat := (l.fed k).foldl (fun a n => max a (l.chRet n)) 0

/-- Slot length in us (R176). -/
def Lot.slotLen (l : Lot) (k : Nat) : Nat := 10 * l.srWidth k + 10 * l.maxRet k + 50

/-- Slot offset of source k in us: after the slots of the lower PULSED sources (R176). -/
def Lot.slotOff (l : Lot) (k : Nat) : Nat :=
  ((List.range k).filter (fun j => decide (l.srMode j = 2))).foldl (fun a j => a + l.slotLen j) 100

/-- The window of source k as channel n sees it, in ticks (R179, R181). -/
def Lot.window (l : Lot) (n k : Nat) : Nat :=
  if l.chSource n = some k then (l.srWidth k + l.chRet n) * 500 else (l.srWidth k + l.maxRet k) * 500

/-- The start of the pulse that the frame of tick t gives source k: none in a frame in which it does not pulse (R175). -/
def Lot.pulseOf (l : Lot) (k t : Nat) : Option Nat :=
  let frame := t / 500000
  if l.srMode k = 2 ∧ frame % max 1 (l.srPeriod k) = 0 then some (frame * 500000 + 50 * l.slotOff k) else none

/-- Table: Input block refusals, step 3, channel n. -/
def chanBad (l : Lot) (n : Nat) : Bool :=
  let b := slice l.s5 (16 * n) 16
  let m := l.chMode n
  let isReset := bitOf (l.chFlags n) 1
  if m = 0 then ! allZero b
  else decide (m > 3) || decide (l.chCurrent n > 1) || decide (l.chFilter n < 1 ∨ l.chFilter n > 1000)
    || (if m = 2 then decide (l.chSrcRel n > 3 ∨ l.chRet n < 5 ∨ l.chRet n > 50) else decide (l.chSrcRel n ≠ 0 ∨ l.chRet n ≠ 0))
    || decide (l.chChatter n < 10 ∨ l.chChatter n > 1000)
    || (if m = 3 then decide (l.chProof n > 60) else decide (l.chProof n ≠ 0))
    || decide (l.chFlags n > 3) || ! rangeZero b 12 4
    || (match l.chSource n with
        | some k => decide (l.srMode k ≠ 2)
        | none => false)
    || (if isReset then decide (l.chReset n ≠ 0xFE)
        else ! (decide (l.chReset n = 0xFF) || (decide (l.chReset n < 48) && l.chIsReset (l.chReset n))))

/-- The fifth wake input. -/
def fifthWake (l : Lot) : Option Nat := ((List.range 48).filter l.chWake)[4]?

/-- Table: Input block refusals, step 3, pair p. -/
def pairBad (l : Lot) (p : Nat) : Bool :=
  let b := slice l.s5 (0x300 + 8 * p) 8
  let q := p + 24
  if ! l.prUsed p then ! allZero b
  else decide (u8 b 0 > 1) || ! rangeZero b 4 4 || ! l.chUsed p || ! l.chUsed q || l.chIsReset p || l.chIsReset q
    || decide (l.chMode p ≠ l.chMode q) || decide (l.chFilter p ≠ l.chFilter q)
    || decide (l.prDisc p < 10 ∨ l.prDisc p > 3000)
    || ! (decide (l.prReset p = 0xFF) || (decide (l.prReset p < 48) && l.chIsReset (l.prReset p)))
    || decide (l.chReset p ≠ l.prReset p ∨ l.chReset q ≠ l.prReset p)

/-- Table: Input block refusals, step 3, source k. -/
def sourceBad (l : Lot) (k : Nat) : Bool :=
  let b := slice l.s5 (0x3C0 + 8 * k) 8
  match l.srMode k with
  | 0 => ! allZero b
  | 1 => ! rangeZero b 1 7
  | 2 => ! rangeZero b 1 1 || ! rangeZero b 6 2 || decide (l.srWidth k < 10 ∨ l.srWidth k > 80 ∨ l.srPeriod k < 1 ∨ l.srPeriod k > 20)
  | _ => true

/-- The global entry. -/
def globalBad (l : Lot) : Bool :=
  (match l.hrType with
    | 0 => ! (decide (l.hrChan < 48) && l.chIsReset l.hrChan) || decide (l.hrWord ≠ 0)
    | 1 => decide (l.hrChan > 127) || decide (l.hrWord < 16 ∨ l.hrWord > 2047) || decide (l.bType l.hrWord ≠ 3)
    | _ => true) || ! rangeZero l.s5 0x404 12

/-- The input block at step 3. -/
def checkInputs (l : Lot) : Refuse :=
  (List.range 48).findSome? (fun n => refuseIf (chanBad l n || decide (fifthWake l = some n)) 0x0F000122 n) <|>
  (List.range 24).findSome? (fun p => refuseIf (pairBad l p) 0x0F000122 (0x00020000 + p)) <|>
  (List.range 8).findSome? (fun k => refuseIf (sourceBad l k) 0x0F000122 (0x00030000 + k)) <|>
  refuseIf (globalBad l) 0x0F000122 0x00040000

/-- The pulse slots at step 5 (R176). -/
def checkSlots (l : Lot) : Refuse :=
  (List.range 8).findSome? (fun k =>
    refuseIf (decide (l.srMode k = 2) && decide (l.slotOff k + l.slotLen k > 10000)) 0x0F000141 (0x00030000 + k))

end Sys2Proof.Machine
end

