-- ==== Sys2Proof/Machine/InputOps.lean ====
section
/-! DEFINITION. SIN: channels, pair evaluators and sources as the events of chapter 08 change them; W0, W1 and the LOCAL words
0x02 and 0x03. The acceptance of a reset edge by the other blocks stands in Resets.lean. -/

namespace Sys2Proof.Machine

/-- The delivered state, W0.n (R174). -/
def State.delivered (s : State) (n : Nat) : Bool :=
  s.lotD.chUsed n && (s.chan n).f && decide ((s.chan n).fault = 0) && ! (s.chan n).chatter

/-- The channel fault code that 0x2100+n:13 reads: the lowest latched code. -/
def Chan.code (c : Chan) : Nat := ((List.range 6).find? (fun i => c.fault.getLsbD i)).getD 0

/-- The channel's edges are judged as reset edges: a reset channel, or the local halt-release source (R234). -/
def Lot.judged (l : Lot) (n : Nat) : Bool := l.chIsReset n || (decide (l.hrType = 0) && decide (l.hrChan = n) && l.chUsed n)

/-- The clearing condition of a channel's fault code (Table: Input fault decisions). -/
def State.codeCleared (s : State) (n code : Nat) : Bool :=
  let c := s.chan n
  match code with
  | 1 => decide (c.seen ≥ 2)
  | 2 => (List.range 8).all (fun k => decide (s.lotD.srMode k ≠ 2) || decide (s.lotD.chSource n = some k) || decide (c.taint.get 0 k = 0))
  | 3 => match s.lotD.chSource n with
    | some k => decide ((s.src k).code = 0)
    | none => true
  | 4 => c.sensorSeen
  | 5 => decide (c.loop = 0)
  | _ => true

/-- The chatter condition is cleared once f has not changed for 1 s (R186). -/
def State.chatterCleared (s : State) (n : Nat) : Bool := decide (s.clk.now - (s.chan n).stamp ≥ sTicks)

/-- The latched faults of a channel whose clearing condition does not hold. -/
def State.uncleared (s : State) (n : Nat) : BitVec 6 :=
  (List.range 6).foldl (fun (a : BitVec 6) i =>
    if (s.chan n).fault.getLsbD i && ! s.codeCleared n i then a ||| BitVec.ofNat 6 (2 ^ i) else a) 0

/-- Every latched condition of a channel is cleared. -/
def State.chanCleared (s : State) (n : Nat) : Bool :=
  decide (s.uncleared n = 0) && (! (s.chan n).chatter || s.chatterCleared n)

/-- A channel condition stands: fault or chatter. -/
def State.chanCond (s : State) (n : Nat) : Bool := decide ((s.chan n).fault ≠ 0) || (s.chan n).chatter

/-! ### The pair evaluator (R185) -/

/-- Both at 0, then both at 1, since the pair entered FAULT (R188). -/
def PairEv.progress (q : PairEv) (fa fb : Bool) : PairEv :=
  if q.state = .fault then
    let b1 := q.both0 && fa && fb
    { q with both0 := q.both0 || (! fa && ! fb), both1 := q.both1 || b1 }
  else q

/-- The pair enters FAULT with a code. -/
def PairEv.toFault (q : PairEv) (code : Nat) (fa fb : Bool) : PairEv :=
  PairEv.progress { q with state := .fault, code := code, both0 := false, both1 := false, faults := q.faults + 1,
                           demands := if q.state = .active then q.demands + 1 else q.demands } fa fb

/-- The first matching row of Table: Pair evaluator; `cond` is a channel condition on either channel. -/
def PairEv.eval (q : PairEv) (now disc : Nat) (fa fb cond : Bool) : PairEv :=
  let el := now - q.t0
  match q.state with
  | .fault => q.progress fa fb
  | .closing =>
    if cond then q.toFault 3 fa fb
    else if el ≥ disc then { (q.toFault 2 fa fb) with elapsed := el }
    else if fa && fb then { q with state := .active, elapsed := el, largest := max q.largest el }
    else if ! fa && ! fb then { q with state := .idle }
    else q
  | .opening =>
    if cond then q.toFault 3 fa fb
    else if el ≥ disc then { (q.toFault 1 fa fb) with elapsed := el }
    else if ! fa && ! fb then { q with state := .idle, elapsed := el, largest := max q.largest el }
    else q
  | .idle =>
    if cond then q.toFault 3 fa fb
    else if fa && fb then { q with state := .active }
    else if fa != fb then { q with state := .closing, t0 := now }
    else q
  | .active =>
    if cond then q.toFault 3 fa fb
    else if ! fa && ! fb then { q with state := .idle, demands := q.demands + 1 }
    else if fa != fb then { q with state := .opening, t0 := now, demands := q.demands + 1 }
    else q

/-- What pair p held before the sample at tick t. -/
def InPair.before (q : InPair) (t : Nat) : PairEv := if q.baseAt = some t then q.base else q.toPairEv

/-- Evaluate pair p at the sample at tick t, once more where a channel changes again at the same sample; an entry to FAULT is
logged. -/
def State.pairEval (s : State) (p t : Nat) : State :=
  if p < 24 ∧ s.lotD.prUsed p then
    let q := s.inPair p
    let b := q.before t
    let r := b.eval t (s.lotD.prDisc p * msTicks) (s.chan p).f (s.chan (p + 24)).f (s.chanCond p || s.chanCond (p + 24))
    let s1 := s.setInPair p { toPairEv := r, base := b, baseAt := some t }
    if r.state = .fault ∧ b.state ≠ .fault then s1.mlog (0x2140 + p) 0x11 2 0 r.code else s1
  else s

/-! ### Sources that run (R197, R405) -/

/-- A module that follows a reference it is not locked to keeps its PULSED sources OFF, unless it is Active or Solo (R405). -/
def State.pulsesOff (s : State) : Bool :=
  decide (s.clk.disc ≠ .locked) && ! decide (s.cplRole = .active ∨ s.cplRole = .solo)

/-- The state of a source that 0x2160+k:10 shows: a PULSED source that R405 keeps off is OFF, one in current limit LIMIT (R197). -/
def State.srcState (s : State) (k : Nat) : SrcState :=
  let q := s.src k
  if s.lotD.srMode k = 2 ∧ s.pulsesOff ∧ q.state ≠ .retryWait then .off
  else if (q.state = .on ∨ q.state = .fault) ∧ q.limitSince.isSome then .limit
  else q.state

/-- The source runs: ON, in current limit, or ON again after a retry with its fault still latched. -/
def State.srcRuns (s : State) (k : Nat) : Bool := decide (s.srcState k ≠ .off ∧ s.srcState k ≠ .retryWait)

/-! ### Samples and the filter (R170, R173, R179) -/

/-- The thresholds of input n in mV: the rising one from 8.5 to 10.5 V, the falling one from 6.0 to 8.0 V and at least 1.0 V below it
(R171). -/
def inputRise (n : Nat) : Nat := 8500 + (Config.inputRise n).toNat % 2001
def inputFall (n : Nat) : Nat := 6000 + (Config.inputFall n).toNat % (min 8000 (inputRise n - 1000) - 6000 + 1)

/-- The raw state of a pin at `mv` that read `was` (R170, R171): a 1 falls below the falling threshold, a 0 rises at the rising one. The
limits of both decide by themselves. -/
def inputLevel (n : Nat) (was : Bool) (mv : Nat) : Bool :=
  if was then decide (mv ≥ 8000) || (decide (mv ≥ 6000) && decide (mv ≥ inputFall n))
  else decide (mv ≥ 10500) || (decide (mv ≥ 8500) && decide (mv ≥ inputRise n))

/-- Source k has given the pulse that starts at tick a: it was switched on before and has not been off since. -/
def State.gavePulse (s : State) (k a : Nat) : Bool := decide ((s.src k).onAt ≤ a) && (s.srcRuns k || decide (a < (s.src k).offAt))

/-- The sample at tick t lies in a blanking window of channel n (R179). -/
def State.blanked (s : State) (n t : Nat) : Bool :=
  match s.lotD.chSource n with
  | none => false
  | some k => match s.lotD.pulseOf k t with
    | some a => decide (a ≤ t ∧ t < a + s.lotD.window n k) && s.gavePulse k a
    | none => false

/-- The filter over at most m samples that differ from f, the first at tick t, from count c: the count behind them, or the tick of the
sample at which it reaches N (R173). -/
def filterRun (blank : Nat → Bool) (n : Nat) : Nat → Nat → Nat → Nat × Option Nat
  | 0, _, c => (c, none)
  | m + 1, t, c =>
    if blank t then filterRun blank n m (t + 250) c
    else if c + 1 ≥ n then (0, some t)
    else filterRun blank n m (t + 250) (c + 1)

/-! ### Channel changes -/

/-- Put a channel back that changes at tick t: a rising delivered edge starts a judgement, a falling one ends it (R234, R235); then
the pair evaluator runs. -/
def State.chanChange (s : State) (n t : Nat) (c : Chan) : State :=
  let s1 := s.setChan n c
  let was := s.delivered n
  let is := s1.delivered n
  let s2 :=
    if s.lotD.judged n then
      if is && ! was then s1.setChan n { c with rise := some t, jam := false }
      else if was && ! is then s1.setChan n { c with rise := none, jam := false }
      else s1
    else s1
  s2.pairEval (n % 24) t

/-- Release the cleared conditions of channel n (R188). -/
def State.chanRelease (s : State) (n : Nat) : State :=
  let c := s.chan n
  s.chanChange n s.clk.now { c with fault := s.uncleared n, chatter := c.chatter && ! s.chatterCleared n }

/-- A reset channel's own conditions are released as soon as they are cleared (R189). -/
def State.autoRelease (s : State) (n : Nat) : State := if s.lotD.chIsReset n then s.chanRelease n else s

/-- Latch a channel fault (R187). -/
def State.chanFault (s : State) (n code : Nat) : State :=
  if s.lotD.chUsed n then
    let c := s.chan n
    let fresh := ! c.fault.getLsbD code
    let c1 := { c with fault := c.fault ||| BitVec.ofNat 6 (2 ^ code), faults := if fresh then c.faults + 1 else c.faults,
                       seen := if code = 1 then 0 else c.seen, sensorSeen := if code = 4 then false else c.sensorSeen }
    let s1 := s.chanChange n s.clk.now c1
    if fresh then s1.mlog (0x2100 + n) 0x13 2 0 code else s1
  else s

/-- A filtered edge of channel n at the sample at tick t (R173, R186): stamp, transition, chatter, proof timer. -/
def State.chanEdge (s : State) (n t : Nat) (level : Bool) : State :=
  let c := s.chan n
  let chat := match c.stamps with
    | u :: _ => decide (c.stamps.length = 8) && decide (t - u < s.lotD.chChatter n * msTicks)
    | [] => false
  let all := c.stamps ++ [t]
  let c1 := { c with raw := level, f := level, count := 0, stamp := t, stamps := all.drop (all.length - 8),
                     transitions := (c.transitions + 1) % 2 ^ 32, chatter := c.chatter || chat,
                     proofFrom := if level then t else c.proofFrom }
  let s1 := s.chanChange n t c1
  if chat && ! c.chatter then s1.mlog (0x2100 + n) 0x14 2 0 1 else s1

/-- A falling filtered edge of channel n at this sample is an accepted reset edge (R234): the delivered state falls by the
raw level, not by a condition, after 50 ms to 3 s, and the source is not jammed. -/
def State.edgeAccepted (s : State) (n t : Nat) (level : Bool) : Bool :=
  let after := s.chanEdge n t level
  s.lotD.judged n && s.delivered n && ! level && ! after.chanCond n && ! (s.chan n).jam &&
  (match (s.chan n).rise with
    | some u => decide (2500000 ≤ t - u ∧ t - u ≤ 150000000)
    | none => false)

/-- The release of pair p by an accepted edge (R188). -/
def State.pairRelease (s : State) (p : Nat) : State :=
  let q := s.inPair p
  if s.lotD.prUsed p ∧ q.state = .fault ∧ s.chanCleared p ∧ s.chanCleared (p + 24) ∧ q.both0 ∧ q.both1
      ∧ (s.chan p).f ∧ (s.chan (p + 24)).f then
    s.setInPair p { q with state := .active, code := 0, both0 := false, both1 := false, baseAt := none }
  else s

/-- Every channel and pair whose fault reset source is channel n is released as R188 lays down (a trunk halt-release source
passes 48, and only 0xFF names it). An edge that cannot release a pair in FAULT still releases a condition of one of its channels that has
cleared: R188 has it release nothing of the pair and says no more (DESIGN CHOICE, log entry 74). -/
def State.releaseInputs (s : State) (serves : Nat → Bool) : State :=
  let s1 := ((List.range 48).filter (fun m => s.lotD.chUsed m && serves (s.lotD.chReset m))).foldl State.chanRelease s
  ((List.range 24).filter (fun p => s.lotD.prUsed p && serves (s.lotD.prReset p))).foldl State.pairRelease s1

/-! ### Sources (R178) -/

/-- Clear a source fault: the lane falls, and the channels' code 3 is cleared, released at once on a reset channel. -/
def State.srcClear (s : State) (k : Nat) : State :=
  let q := s.src k
  let s1 := s.setSrc k { q with state := .on, code := 0, good := 0 }
  (s1.lotD.fed k).foldl State.autoRelease (s1.mlog (0x2160 + k) 0x11 0 0 0)

/-! ### Start (R191) -/

/-- Every channel, pair and source under the lot's block, as at an exit from Validating or a wake (R191). -/
def State.sinStart (s : State) (wake : Bool) : State := s.sinFresh (fun k => decide (s.lotD.srMode k ≠ 0)) wake

/-- Every source off (PFS, Parked, a domain that is off; R35, R46). -/
def State.srcsOff (s : State) (ks : List Nat) : State :=
  ks.foldl (fun a k => a.setSrc k { a.src k with state := .off, offAt := a.clk.now, limitSince := none, lowSince := none, low := false }) s

/-! ### W0, W1 and the LOCAL words of SIN (R91, R483) -/

/-- Both input banks are ON. -/
def State.inputsOn (s : State) : Bool := s.domOn 6 && s.domOn 7

/-- A LOCAL-class word that is FAULT with all lanes 0 while its domain is not ON (R91, R483). -/
def localWord (on : Bool) (v : Lanes) : Cell := if on then ⟨v, 0x04#8, 0⟩ else ⟨0, 0x07#8, 0⟩

def State.w0 (s : State) : Cell := localWord s.inputsOn (lanesOf 48 s.delivered)
def State.w1 (s : State) : Cell :=
  localWord s.inputsOn (lanesOf 112 (fun l =>
    if l < 24 then decide ((s.inPair l).state = .active)
    else if 32 ≤ l ∧ l < 56 then decide ((s.inPair (l - 32)).state = .fault)
    else if 64 ≤ l then (s.chan (l - 64)).chatter
    else false))
def State.chanFaultLanes (s : State) : Lanes := lanesOf 48 (fun n => decide ((s.chan n).fault ≠ 0))

end Sys2Proof.Machine
end

