-- ==== Sys2Proof/Machine/LotOutputs.lean ====
section
/-! DEFINITION. The output block of section 0x0005 (R206), the allocation of dark-test slots (R213) and the block's acceptance
checks (R226, R228). -/

namespace Sys2Proof.Machine

/-- Output entry n. -/
def Lot.oMode (l : Lot) (n : Nat) : Nat := u8 l.s5 (0x410 + 16 * n)
def Lot.oClass (l : Lot) (n : Nat) : Nat := u8 l.s5 (0x410 + 16 * n + 1)
/-- Dark pulse width, recovery and off-settle in units of 10 us; dark test period in units of 100 ms. -/
def Lot.oWidth (l : Lot) (n : Nat) : Nat := u16 l.s5 (0x410 + 16 * n + 2)
def Lot.oPeriod (l : Lot) (n : Nat) : Nat := u16 l.s5 (0x410 + 16 * n + 4)
def Lot.oRec (l : Lot) (n : Nat) : Nat := u16 l.s5 (0x410 + 16 * n + 6)
def Lot.oSettle (l : Lot) (n : Nat) : Nat := u16 l.s5 (0x410 + 16 * n + 8)
def Lot.oPar (l : Lot) (n : Nat) : Nat := u8 l.s5 (0x410 + 16 * n + 10)
def Lot.oFlags (l : Lot) (n : Nat) : Nat := u8 l.s5 (0x410 + 16 * n + 11)
def Lot.oFilter (l : Lot) (n : Nat) : Nat := u16 l.s5 (0x410 + 16 * n + 12)
def Lot.oSafety (l : Lot) (n : Nat) : Bool := decide (l.oMode n = 1)
def Lot.oPairPar (l : Lot) (n : Nat) : Bool := bitOf (l.oFlags n) 0
def Lot.oOpenLoad (l : Lot) (n : Nat) : Bool := bitOf (l.oFlags n) 1

/-- Group entry g. -/
def Lot.gReset (l : Lot) (g : Nat) : Nat := u8 l.s5 (0x510 + 16 * g)
def Lot.gWidth (l : Lot) (g : Nat) : Nat := u16 l.s5 (0x510 + 16 * g + 2)
def Lot.gPeriod (l : Lot) (g : Nat) : Nat := u16 l.s5 (0x510 + 16 * g + 4)
/-- A group whose entry is all 0 is UNUSED (R208). -/
def Lot.gUnused (l : Lot) (g : Nat) : Bool := rangeZero l.s5 (0x510 + 16 * g) 16

/-- The outputs of a group; the group of an output. -/
def grpOuts (g : Nat) : List Nat := (List.range 8).map (fun i => 8 * g + i)
def outGrp (n : Nat) : Nat := n / 8

/-- Members of parallel group j (1 to 4). -/
def Lot.parMembers (l : Lot) (j : Nat) : List Nat := (List.range 16).filter (fun n => decide (l.oPar n = j))

/-- Largest t_rec among a group's SAFETY outputs (R213). -/
def Lot.gMaxRec (l : Lot) (g : Nat) : Nat := ((grpOuts g).filter l.oSafety).foldl (fun a n => max a (l.oRec n)) 0

/-- The test sources in the order of the allocator, each with its slot length in us and its item (R213, R228). -/
def Lot.testSources (l : Lot) : List (TestOf × Nat × Nat) :=
  ((List.range 2).filter (fun g => ! l.gUnused g)).map (fun g =>
    (TestOf.group g, 10 * l.gWidth g + 10 * l.gMaxRec g + 50, 0x00060000 + g)) ++
  ((List.finRange 4).filter (fun j => ! (l.parMembers (j.val + 1)).isEmpty)).map (fun j =>
    let n := (l.parMembers (j.val + 1)).headD 0
    (TestOf.dark (.parallel j), 10 * l.oWidth n + 10 * l.oRec n + 50, 0x00070000 + j.val + 1)) ++
  ((List.finRange 16).filter (fun n => l.oSafety n.val && decide (l.oPar n.val = 0))).map (fun n =>
    (TestOf.dark (.single n), 10 * l.oWidth n.val + 10 * l.oRec n.val + 50, 0x00050000 + n.val))

/-- Offset and length in us of a test source's slot; none where it has no slot. -/
def slotOf (t : TestOf) : Nat → List (TestOf × Nat × Nat) → Option (Nat × Nat)
  | _, [] => none
  | o, x :: r => if x.1 = t then some (o, x.2.1) else slotOf t (o + x.2.1) r

/-- The slot of a test source: the first starts at 200 us (R213). -/
def Lot.testSlot (l : Lot) (t : TestOf) : Option (Nat × Nat) := slotOf t 200 l.testSources

/-- The test source that output n belongs to. -/
def Lot.outSource (l : Lot) (n : Nat) : Option TestOf :=
  if ! l.oSafety n then none
  else if l.oPar n = 0 then (if h : n < 16 then some (.dark (.single ⟨n, h⟩)) else none)
  else if h : l.oPar n - 1 < 4 then some (.dark (.parallel ⟨l.oPar n - 1, h⟩)) else none

/-- The outputs of a dark source. -/
def Lot.darkOuts (l : Lot) (d : DarkSource) : List Nat :=
  match d with
  | .single n => [n.val]
  | .parallel j => l.parMembers (j.val + 1)

/-- Pulse width of a test source in us and its period in 100 ms. -/
def Lot.testWidth (l : Lot) (t : TestOf) : Nat :=
  match t with
  | .group g => 10 * l.gWidth g
  | .dark d => 10 * l.oWidth ((l.darkOuts d).headD 0)
def Lot.testPeriod (l : Lot) (t : TestOf) : Nat :=
  match t with
  | .group g => l.gPeriod g
  | .dark d => l.oPeriod ((l.darkOuts d).headD 0)

/-- Rows 1 and 2 of Table: Output block refusals for output n. -/
def outputBad (l : Lot) (n : Nat) : Bool :=
  let b := slice l.s5 (0x410 + 16 * n) 16
  match l.oMode n with
  | 0 => ! rangeZero b 1 15
  | 1 =>
    decide (l.oClass n > 2) || decide (l.oWidth n < 10 ∨ l.oWidth n > 80) || decide (l.oPeriod n < 1 ∨ l.oPeriod n > 100)
    || decide (l.oRec n < 5 ∨ l.oRec n > 2000) || decide (l.oSettle n < 5 ∨ l.oSettle n > 2000) || decide (l.oPar n > 4)
    || decide (l.oFlags n > 3) || decide (l.oFilter n ≠ 0) || ! rangeZero b 14 2
    || (l.oPairPar n && (decide (l.oPar n ≠ 0) || decide (l.oWidth n > 60)))
  | 2 => ! rangeZero b 1 11 || decide (l.oFilter n < 1 ∨ l.oFilter n > 1000) || ! rangeZero b 14 2
  | _ => true

/-- Row 3: parallel group j. -/
def parallelBad (l : Lot) (j : Nat) : Bool :=
  match l.parMembers j with
  | [] => false
  | n :: r => r.isEmpty || decide (r.length > 3) || r.any (fun m =>
      decide (outGrp m ≠ outGrp n ∨ l.oClass m ≠ l.oClass n ∨ l.oWidth m ≠ l.oWidth n ∨ l.oPeriod m ≠ l.oPeriod n
        ∨ l.oRec m ≠ l.oRec n ∨ l.oSettle m ≠ l.oSettle n))

/-- Row 4: group entry g. -/
def groupBad (l : Lot) (g : Nat) : Bool :=
  let b := slice l.s5 (0x510 + 16 * g) 16
  if (grpOuts g).all (fun n => decide (l.oMode n = 0)) then ! allZero b
  else ! (decide (l.gReset g = 0xFF) || (decide (l.gReset g < 48) && l.chIsReset (l.gReset g)))
    || ! rangeZero b 1 1 || decide (l.gWidth g < 10 ∨ l.gWidth g > 80) || decide (l.gPeriod g < 1 ∨ l.gPeriod g > 100)
    || ! rangeZero b 6 10

/-- The output block at step 3, code 0x0F00_0122. -/
def checkOutputs (l : Lot) : Refuse :=
  (List.range 16).findSome? (fun n => refuseIf (outputBad l n) 0x0F000122 (0x00050000 + n)) <|>
  (List.range 5).findSome? (fun j => refuseIf (decide (j > 0) && parallelBad l j) 0x0F000122 (0x00070000 + j)) <|>
  (List.range 2).findSome? (fun g => refuseIf (groupBad l g) 0x0F000122 (0x00060000 + g))

/-- The pair-parallel flag in a lot without topology bit 0 (R228). -/
def checkPairParallel (l : Lot) : Refuse :=
  (List.range 16).findSome? (fun n => refuseIf (l.oPairPar n && ! l.pair) 0x0F000123 (0x00050000 + n))

/-- The slots at step 5 (R213). -/
def checkDarkSlots (l : Lot) : Refuse :=
  ((l.testSources.foldl (fun (a : Nat × Refuse) x =>
      (a.1 + x.2.1, a.2 <|> refuseIf (decide (a.1 + x.2.1 > 100000)) 0x0F000142 x.2.2)) (200, none))).2

end Sys2Proof.Machine
end

