-- ==== Sys2Proof/Machine/LotTiming.lean ====
section
/-! DEFINITION. The speed and motion blocks of section 0x0005 (R244, R285) and section 0x0008 (R263), with their acceptance checks
(R250, R265, R286). -/

namespace Sys2Proof.Machine

/-- Speed channel entry n. -/
def Lot.spUsed (l : Lot) (n : Nat) : Bool := decide (u8 l.s5 (0x530 + 16 * n) = 1)
def Lot.spEdge (l : Lot) (n : Nat) : Nat := u8 l.s5 (0x530 + 16 * n + 1)
/-- Minimum pulse width in units of 0.5 us, averaging window in units of 100 us. -/
def Lot.spWidth (l : Lot) (n : Nat) : Nat := u16 l.s5 (0x530 + 16 * n + 2)
def Lot.spAvg (l : Lot) (n : Nat) : Nat := u16 l.s5 (0x530 + 16 * n + 4)
def Lot.spReset (l : Lot) (n : Nat) : Nat := u8 l.s5 (0x530 + 16 * n + 6)

/-- Speed pair entry p. -/
def Lot.spPair (l : Lot) (p : Nat) : Bool := bitOf (u8 l.s5 (0x5B0 + 16 * p)) 0
def Lot.spPairReset (l : Lot) (p : Nat) : Nat := u8 l.s5 (0x5B0 + 16 * p + 1)
def Lot.spRatio (l : Lot) (p : Nat) : Nat := u16 l.s5 (0x5B0 + 16 * p + 2)
def Lot.spTolRel (l : Lot) (p : Nat) : Nat := u16 l.s5 (0x5B0 + 16 * p + 4)
def Lot.spPlaus (l : Lot) (p : Nat) : Nat := u16 l.s5 (0x5B0 + 16 * p + 6)
def Lot.spTolAbs (l : Lot) (p : Nat) : Nat := u32 l.s5 (0x5B0 + 16 * p + 8)

/-- Motion function entry m (R244). -/
def Lot.moOff (m : Nat) : Nat := 0x5F0 + 48 * m
def Lot.moType (l : Lot) (m : Nat) : Nat := u8 l.s5 (Lot.moOff m)
def Lot.moPair (l : Lot) (m : Nat) : Nat := u8 l.s5 (Lot.moOff m + 1)
def Lot.moRef (l : Lot) (m : Nat) : Nat := u8 l.s5 (Lot.moOff m + 2)
def Lot.moEnable (l : Lot) (m : Nat) : Nat := u8 l.s5 (Lot.moOff m + 3)
def Lot.moReset (l : Lot) (m : Nat) : Nat := u8 l.s5 (Lot.moOff m + 4)
def Lot.moVmax (l : Lot) (m : Nat) : Nat := u32 l.s5 (Lot.moOff m + 8)
def Lot.moVlow (l : Lot) (m : Nat) : Nat := u32 l.s5 (Lot.moOff m + 12)
def Lot.moK (l : Lot) (m : Nat) : Nat := u16 l.s5 (Lot.moOff m + 16)
def Lot.moStart (l : Lot) (m : Nat) : Nat := u16 l.s5 (Lot.moOff m + 18)
def Lot.moVss (l : Lot) (m : Nat) : Nat := u32 l.s5 (Lot.moOff m + 20)
def Lot.moVtol (l : Lot) (m : Nat) : Nat := u32 l.s5 (Lot.moOff m + 24)
def Lot.moA (l : Lot) (m : Nat) : Nat := u32 l.s5 (Lot.moOff m + 28)
def Lot.moTd (l : Lot) (m : Nat) : Nat := u16 l.s5 (Lot.moOff m + 32)
def Lot.moTmax (l : Lot) (m : Nat) : Nat := u16 l.s5 (Lot.moOff m + 34)
def Lot.moTss (l : Lot) (m : Nat) : Nat := u16 l.s5 (Lot.moOff m + 36)
def Lot.moTlim (l : Lot) (m : Nat) : Nat := u16 l.s5 (Lot.moOff m + 38)

/-- The speed pair of a motion function that is in use. -/
def Lot.moPair? (l : Lot) (m : Nat) : Option Nat :=
  if l.moType m ≠ 0 ∧ l.moPair m < 4 then some (l.moPair m) else none

/-- A compare channel entry (R263). -/
structure ChEntry where
  chan : Nat
  owner : Nat
  mode : Nat
  link : Nat
  master : Nat
  armWord : Nat
  armLane : Nat
  edge : Nat
  source : Nat
  period : Nat
deriving DecidableEq, Repr

def ChEntry.ofBytes (b : List Byte) : ChEntry :=
  ⟨u8 b 0, u8 b 1, u8 b 2, u8 b 3, u16 b 4, u16 b 6, u8 b 8, u8 b 9, u16 b 10, u32 b 12⟩

/-- The entries of section 0x0008. -/
def Lot.chEntries (l : Lot) : List ChEntry := (blocks 16 (l.sec 8)).map ChEntry.ofBytes
def Lot.chEntry (l : Lot) (c : Nat) : Option ChEntry := l.chEntries.find? (fun e => decide (e.chan = c))

/-- Owner of a channel: 0 none, 1 SAFE, 2 SYSTEM, 3 HOST (0x2400+c:01). -/
def Lot.chOwner (l : Lot) (c : Nat) : Nat :=
  if c ≥ 248 then 2 else match l.chEntry c with
    | some e => e.owner
    | none => 0

/-- A fault reset source is a reset channel or 0xFF. -/
def Lot.resetOk (l : Lot) (r : Nat) : Bool := decide (r = 0xFF) || (decide (r < 48) && l.chIsReset r)

/-- R286: speed channel n. -/
def speedBad (l : Lot) (n : Nat) : Bool :=
  let b := slice l.s5 (0x530 + 16 * n) 16
  match u8 b 0 with
  | 0 => ! allZero b
  | 1 => decide (l.spEdge n > 1) || decide (l.spWidth n < 2 ∨ l.spWidth n > 2000) || decide (l.spAvg n < 1 ∨ l.spAvg n > 1000)
    || ! l.resetOk (l.spReset n) || ! rangeZero b 7 9
  | _ => true

/-- R286: speed pair p. -/
def speedPairBad (l : Lot) (p : Nat) : Bool :=
  let b := slice l.s5 (0x5B0 + 16 * p) 16
  if ! l.spPair p then ! allZero b
  else decide (u8 b 0 > 1) || ! l.resetOk (l.spPairReset p) || decide (l.spRatio p < 100 ∨ l.spRatio p > 10000)
    || decide (l.spTolRel p < 10 ∨ l.spTolRel p > 500) || decide (l.spPlaus p < 10 ∨ l.spPlaus p > 10000)
    || decide (l.spTolAbs p > 10000000) || ! rangeZero b 12 4 || ! l.spUsed p || ! l.spUsed (p + 4)

/-- R250 and R286: motion function m. -/
def motionBad (l : Lot) (m : Nat) : Bool :=
  let b := slice l.s5 (Lot.moOff m) 48
  let ty := l.moType m
  let pairUsed (p : Nat) : Bool := decide (p < 4) && l.spPair p
  if ty = 0 then ! allZero b
  else
    decide (ty > 4) || ! (pairUsed (l.moPair m) || (decide (ty = 2) && decide (l.moPair m = 0xFF)))
    || (if ty = 3 then ! (decide (l.moRef m = 0xFF) || pairUsed (l.moRef m)) || decide (l.moEnable m > 15)
        else decide (l.moRef m ≠ 0xFF ∨ l.moEnable m ≠ 0xFF))
    || ! l.resetOk (l.moReset m) || ! rangeZero b 5 3 || ! rangeZero b 40 8
    || (decide (ty = 1 ∨ ty = 4) && decide (l.moVmax m = 0)) || (decide (ty = 2) && decide (l.moVmax m ≠ 0))
    || (if ty = 3 ∧ l.moRef m = 0xFF then false else decide (l.moVlow m ≠ 0))
    || (if ty = 3 ∧ l.moRef m ≠ 0xFF then decide (l.moK m < 1 ∨ l.moK m > 10000) else decide (l.moK m ≠ 0))
    || (if ty = 3 then decide (l.moStart m < 1 ∨ l.moStart m > 6000) else decide (l.moStart m ≠ 0))
    || (decide (ty = 1) && decide (l.moVss m = 0))
    || (if ty = 1 then decide (l.moA m < 1 ∨ l.moA m > 1000000000) || decide (l.moTd m > 10000)
        else decide (l.moVtol m ≠ 0 ∨ l.moA m ≠ 0 ∨ l.moTd m ≠ 0))
    || (if ty = 1 ∨ ty = 2 then decide (l.moTmax m < 1 ∨ l.moTmax m > 60000) else decide (l.moTmax m ≠ 0))
    || (if l.moVss m = 0 then decide (l.moTss m ≠ 0) else decide (l.moTss m < 10 ∨ l.moTss m > 10000))
    || (if ty = 2 then decide (l.moTlim m ≠ 0) else decide (l.moTlim m < 1 ∨ l.moTlim m > 10000))
    || (List.range m).any (fun k => decide (l.moPair? k = l.moPair? m) && (l.moPair? m).isSome)
    || (decide (ty = 1) && decide ((10 * (l.moTmax m : Int) - l.moTd m - l.moTss m) * l.moA m
          < 1000 * ((l.moVmax m : Int) + l.moVtol m - l.moVss m)))

/-- The speed and motion blocks at step 3, in the order of the section. -/
def checkSpeed (l : Lot) : Refuse :=
  (List.range 8).findSome? (fun n => refuseIf (speedBad l n) 0x0F000122 (0x00090000 + n)) <|>
  (List.range 4).findSome? (fun p => refuseIf (speedPairBad l p) 0x0F000122 (0x000A0000 + p)) <|>
  (List.range 4).findSome? (fun m => refuseIf (motionBad l m) 0x0F000122 (0x00080000 + m))

/-- R265, code 0x0F00_0122, of an entry: `lower` are the entries of lower channels. -/
def chEntryBad (l : Lot) (e : ChEntry) : Bool :=
  let safe (j : Nat) : Bool := decide (j < e.chan) && l.chEntries.any (fun f => decide (f.chan = j ∧ f.owner = 1))
  if e.owner = 3 then decide (e.mode ≠ 0 ∨ e.link ≠ 0 ∨ e.master ≠ 0xFFFF ∨ e.armWord ≠ 0 ∨ e.armLane ≠ 0 ∨ e.edge ≠ 0 ∨ e.source ≠ 0 ∨ e.period ≠ 0)
  else
    let st := e.source / 256
    let sn := e.source % 256
    decide (e.mode ≠ 2 ∧ e.mode ≠ 3) || decide (e.link > 3)
    || (decide (e.mode = 3) && decide (e.link ≠ 0))
    || (if e.link ≠ 0 ∨ (e.mode = 3 ∧ st = 3) then ! safe e.master else decide (e.master ≠ 0xFFFF))
    || decide (e.armWord < 16 ∨ e.armWord > 2047) || decide (l.bType e.armWord ≠ 7) || decide (e.armLane > 127)
    || (if e.mode = 3 then
          (match st with
            | 1 => decide (sn > 47) || decide (e.edge > 2)
            | 2 => decide (sn > 7) || decide (e.edge > 2)
            | 3 => decide (sn ≠ e.master) || decide (e.edge ≠ 0)
            | _ => true) || decide (e.period ≠ 0)
        else decide (e.source ≠ 0 ∨ e.edge ≠ 0) || decide (e.period = 0))

/-- Section 0x0008, code 0x0F00_0122 (R265). -/
def checkChannels (l : Lot) : Refuse :=
  refuseIf (decide ((l.sec 8).length % 16 ≠ 0 ∨ (l.sec 8).length > 3968)) 0x0F000122 0x000B0100 <|>
  l.chEntries.findSome? (fun e => refuseIf (decide (e.owner = 1 ∨ e.owner = 3) && chEntryBad l e) 0x0F000122 (0x000B0000 + e.chan))

/-- Section 0x0008, code 0x0F00_0126 (R265). -/
def checkOwners (l : Lot) : Refuse :=
  (List.range l.chEntries.length).findSome? (fun i =>
    match l.chEntries[i]? with
    | some e => refuseIf (decide (e.chan ≥ 248) || (l.chEntries.take i).any (fun f => decide (f.chan = e.chan))
        || ! decide (e.owner = 1 ∨ e.owner = 3)) 0x0F000126 e.chan
    | none => none)

end Sys2Proof.Machine
end

