-- ==== Sys2Proof/Machine/LotAnalog.lean ====
section
/-! DEFINITION. The analog block of section 0x0005 (R303) and its acceptance checks (R304). -/

namespace Sys2Proof.Machine

/-- A signed 32-bit number from its bits. -/
def toInt32 (v : Nat) : Int := (BitVec.ofNat 32 v).toInt

/-- Channel entry n. -/
def Lot.aiMode (l : Lot) (n : Nat) : Nat := u8 l.s5 (0x6B0 + 16 * n)
/-- t_a in units of 100 us. -/
def Lot.aiTa (l : Lot) (n : Nat) : Nat := u16 l.s5 (0x6B0 + 16 * n + 2)
def Lot.aiHigh (l : Lot) (n : Nat) : Int := toInt32 (u32 l.s5 (0x6B0 + 16 * n + 4))
def Lot.aiLow (l : Lot) (n : Nat) : Int := toInt32 (u32 l.s5 (0x6B0 + 16 * n + 8))
def Lot.aiHyst (l : Lot) (n : Nat) : Nat := u16 l.s5 (0x6B0 + 16 * n + 12)
/-- Lead resistance in milliohm. -/
def Lot.aiLead (l : Lot) (n : Nat) : Nat := u16 l.s5 (0x6B0 + 16 * n + 14)

/-- Pair entry p. -/
def Lot.apUsed (l : Lot) (p : Nat) : Bool := bitOf (u8 l.s5 (0x730 + 16 * p)) 0
def Lot.apReset (l : Lot) (p : Nat) : Nat := u8 l.s5 (0x730 + 16 * p + 1)
/-- t_tol in units of 10 ms. -/
def Lot.apTime (l : Lot) (p : Nat) : Nat := u16 l.s5 (0x730 + 16 * p + 2)
def Lot.apTol (l : Lot) (p : Nat) : Nat := u32 l.s5 (0x730 + 16 * p + 4)

/-- The valid band of a mode in its unit (Table: Analog modes). -/
def bandOf (mode : Nat) : Int × Int :=
  match mode with
  | 1 => (-3000, 105000)
  | 2 => (36000, 210000)
  | 3 => (-6000, 42000)
  | _ => (0, 0)

/-- R304: channel n. -/
def analogBad (l : Lot) (n : Nat) : Bool :=
  let b := slice l.s5 (0x6B0 + 16 * n) 16
  let m := l.aiMode n
  let band := bandOf m
  if m = 0 then ! allZero b
  else decide (m > 3) || ! rangeZero b 1 1 || decide (l.aiTa n < 2 ∨ l.aiTa n > 1000)
    || decide (l.aiHigh n < band.1 ∨ band.2 < l.aiHigh n ∨ l.aiLow n < band.1 ∨ band.2 < l.aiLow n)
    || decide (l.aiHyst n < 1) || (if m = 3 then decide (l.aiLead n > 20000) else decide (l.aiLead n ≠ 0))
    || ! decide (l.aiLow n + l.aiHyst n < l.aiHigh n - l.aiHyst n)

/-- R304: pair p. -/
def analogPairBad (l : Lot) (p : Nat) : Bool :=
  let b := slice l.s5 (0x730 + 16 * p) 16
  if ! l.apUsed p then ! allZero b
  else decide (u8 b 0 > 1) || ! l.resetOk (l.apReset p) || decide (l.apTime p < 1 ∨ l.apTime p > 6000)
    || decide (l.apTol p < 1 ∨ l.apTol p > 1000000) || ! rangeZero b 8 8
    || decide (l.aiMode p = 0 ∨ l.aiMode (p + 4) = 0 ∨ l.aiMode p ≠ l.aiMode (p + 4) ∨ l.aiTa p ≠ l.aiTa (p + 4))

/-- The analog block at step 3. -/
def checkAnalog (l : Lot) : Refuse :=
  (List.range 8).findSome? (fun n => refuseIf (analogBad l n) 0x0F000122 (0x000C0000 + n)) <|>
  (List.range 4).findSome? (fun p => refuseIf (analogPairBad l p) 0x0F000122 (0x000D0000 + p))

end Sys2Proof.Machine
end

