-- ==== Sys2Proof/Machine/AaqOps.lean ====
section
/-! DEFINITION. AAQ: rounds and slots (R291 to R294), analog inputs and pairs (R295 to R299), W3 (R91). -/

namespace Sys2Proof.Machine

/-- The interval of an entry in rounds of 100 us; 0 where the entry is never converted (R291, R293). -/
def Lot.interval (l : Lot) (e : Nat) : Nat :=
  if e < 8 then (if l.aiMode e = 0 then 0 else l.aiTa e - 1)
  else if e < 24 then 10 else if e < 26 then 1 else if e < 35 then 10
  else if e < 37 then 1000 else if e < 39 then 100 else if e < 50 then 10 else if e = 50 then 1 else 0

/-- Entry e is due in the round of tick t (R292). -/
def Lot.dueAt (l : Lot) (e t : Nat) : Bool := decide (l.interval e ≠ 0) && decide (t / 5000 % max 1 (l.interval e) = 0)

/-- An urgent request has come in the round of tick t, before t: the slots behind it shift by up to 2 us (R294). -/
def State.shifted (s : State) : Bool :=
  match s.aaq.urgentAt with
  | some u => decide (u / 5000 = s.clk.now / 5000 ∧ u ≤ s.clk.now)
  | none => false

/-- Entry e may be converted now: ANA on, the entry due in this round, its 1 us from its slot's start, shifted by at most 2 us behind an
urgent request, and not converted in this round yet (R292, R294). -/
def State.convertible (s : State) (e : Nat) : Bool :=
  s.domOn 9 && s.clk.running && s.lotD.dueAt e s.clk.now && decide (50 * e ≤ s.clk.now % 5000)
  && decide (s.clk.now % 5000 ≤ 50 * e + (if s.shifted then 150 else 50))
  && decide (s.aaq.rounds.get 0 e ≠ s.clk.now / 5000 + 1)

/-- An urgent request of SOUT at tick u (R294): it is counted; a table conversion that runs, begun and without its result, is aborted and
converted again behind it; one that comes during a restarted conversion waits, with a log entry. -/
def State.aaqUrgent (s : State) (u : Nat) : State :=
  let r := u % 5000
  let running := decide (r % 50 ≠ 0) && s.lotD.dueAt (r / 50) u && decide (s.aaq.rounds.get 0 (r / 50) ≠ u / 5000 + 1)
  let waits := decide (u < s.aaq.restartEnd ∧ s.aaq.urgentAt ≠ some u)
  let s1 : State := { s with aaq := { s.aaq with
    urgent := s.aaq.urgent + 1, urgentAt := some u, aborted := if running then s.aaq.aborted + 1 else s.aaq.aborted,
    restartEnd := if running then u + 100 else s.aaq.restartEnd } }
  if waits then s1.mlog 0x2348 0x08 1 0 0 else s1

/-! ### Pt1000 (R295) -/

/-- The resistance of a Pt1000 at n hundredths of a degree, in milliohm times 10^17, by IEC 60751 (log entry 10). -/
def pt1000 (n : Int) : Int :=
  100000000000000000000000 + 3908300000000000000 * n - 5775000000000 * n * n
    - (if n < 0 then 4183 * (n - 10000) * n * n * n else 0)

/-- The greatest n from -20000 on, found bit by bit from bit k down, whose resistance is not above r. -/
def ptSearch (r : Int) : Nat → Int → Int
  | 0, n => n
  | k + 1, n => if pt1000 (n + (2 : Int) ^ k) ≤ r * 100000000000000000 then ptSearch r k (n + (2 : Int) ^ k) else ptSearch r k n

/-- The temperature in 0.01 degC of a measured resistance in milliohm, to the nearest unit. -/
def ptTemp (r : Int) : Int :=
  let n := ptSearch r 17 (-20000)
  if 2 * (r * 100000000000000000) ≥ pt1000 n + pt1000 (n + 1) then n + 1 else n

/-! ### Channels and pairs (R295 to R299) -/

/-- A channel becomes invalid, or stays so, with a cause (R296). -/
def AChan.invalidate (c : AChan) (cause : Nat) : AChan :=
  { c with below := false, above := false, valid := false, run := 0, cause := cause, invalids := if c.valid then c.invalids + 1 else c.invalids }

/-- One conversion (R295 to R297); `mode`, `hi`, `lo`, `h` are the lot's. -/
def AChan.convert (c : AChan) (mode : Nat) (hi lo : Int) (h : Nat) (v : Int) : AChan :=
  let band := bandOf mode
  let c1 := { c with value := v }
  if v < band.1 then c1.invalidate 1
  else if band.2 < v then c1.invalidate 2
  else
    let run := min 3 (c.run + 1)
    let below := if ! c.valid then decide (v < hi - h) else if c.below then decide (v < hi) else decide (v < hi - h)
    let above := if ! c.valid then decide (v > lo + h) else if c.above then decide (v > lo) else decide (v > lo + h)
    if run ≥ 3 then { c1 with run := run, valid := true, cause := 0, below := below, above := above }
    else { c1 with run := run, cause := 0 }

/-- The comparison of analog pair p (R298). -/
def State.apCompare (s : State) (p : Nat) : State :=
  let a := s.ach p
  let b := s.ach (p + 4)
  if s.lotD.apUsed p ∧ s.aaq.rounds.get 0 p = s.clk.now / 5000 + 1 then
    let q := s.apair p
    if a.valid && b.valid then
      let d := (a.value - b.value).natAbs
      let q1 := { q with diff := d, largest := max q.largest d }
      if d > s.lotD.apTol p then
        let t := q.since.getD s.clk.now
        if ! q.fault ∧ s.clk.now - t ≥ s.lotD.apTime p * (10 * msTicks) then
          (s.setApair p { q1 with since := some t, fault := true }).mlog (0x2340 + p) 0x25 2 0 1
        else s.setApair p { q1 with since := some t }
      else s.setApair p { q1 with since := none }
    else s.setApair p { q with since := none }
  else s

/-- A conversion of analog input n with its raw code; the value is in the mode's unit, for PT1000 the measured resistance in
milliohm (R295). -/
def State.aiConvert (s : State) (n raw : Nat) (v : Int) : State :=
  let l := s.lotD
  let x := if l.aiMode n = 3 then ptTemp (v - l.aiLead n) else v
  let c := { s.ach n with raw := raw, at_ := s.clk.now }
  let c1 :=
    if s.aaq.gnd then ({ c with value := x } : AChan).invalidate 3
    else if s.refBad n then ({ c with value := x } : AChan).invalidate 4
    else c.convert (l.aiMode n) (l.aiHigh n) (l.aiLow n) (l.aiHyst n) x
  let s1 := s.setAch n c1
  if n ≥ 4 then s1.apCompare (n - 4) else s1

/-- Every input as the ground fault and the references now stand: those concerned are invalid at once, an UNUSED one valid in nothing
sheds a cause that has ended (R301, R302). -/
def State.aiRefresh (s : State) : State :=
  (List.range 8).foldl (fun a n =>
    let k := a.aiCause n
    let c := a.ach n
    if k ≠ 0 then (if c.cause = k then a else a.setAch n (c.invalidate k))
    else if a.lotD.aiMode n = 0 then a.setAch n { c with cause := 0 } else a) s

/-- An accepted reset edge for the analog pairs that it serves: d is that of the last comparison (R298, R299). -/
def State.releaseAnalog (s : State) (serves : Nat → Bool) : State :=
  ((List.range 4).filter (fun p => s.lotD.apUsed p && serves (s.lotD.apReset p))).foldl (fun a p =>
    let q := a.apair p
    if q.fault ∧ (a.ach p).valid ∧ (a.ach (p + 4)).valid ∧ q.diff ≤ a.lotD.apTol p then
      a.setApair p { q with fault := false, since := none }
    else a) s

/-- W3 (R91). -/
def State.w3 (s : State) : Cell :=
  localWord (s.domOn 9) (lanesOf 76 (fun l =>
    if l < 64 then
      let c := s.ach (l / 8)
      match l % 8 with
      | 0 => c.valid && c.below
      | 1 => c.valid && c.above
      | 2 => c.valid
      | _ => false
    else if l < 68 then
      let p := l - 64
      let a := s.ach p
      let b := s.ach (p + 4)
      s.lotD.apUsed p && a.valid && b.valid && a.below && b.below && ! (s.apair p).fault
    else if 72 ≤ l then (s.apair (l - 72)).fault
    else false))

end Sys2Proof.Machine
end

