-- ==== Sys2Proof/Machine/BistOps.lean ====
section
/-! DEFINITION. The repairs of Boot (R415), fuse repair (R440, R441), check-value units (R443, R444). -/

namespace Sys2Proof.Machine

/-! ### Check-value units -/

def State.cvu (s : State) (n : Nat) : Cvu := s.cvus.get {} n
def State.setCvu (s : State) (n : Nat) (c : Cvu) : State := { s with cvus := s.cvus.set {} n c }

/-- The running value of a unit of the hardware is set to what its stream has brought it to (R445). -/
def State.cvuRuns (s : State) (n run : Nat) : State := s.setCvu n { s.cvu n with run := run, armed := true }

/-! ### The repairs of Boot -/

/-- One repair entry of OTP is applied, or skipped and logged (R415); unit 8 forms the CHECK of a field entry (R445). -/
def State.applyEntry (a0 : State) (w : Nat) : State :=
  let o := a0.otpWord w
  let v := o.data
  let a := if o.written ∧ o.usable ∧ 193 ≤ w then a0.cvuRuns 8 (crc8Feed 0 (slice (leBytes 8 v) 1 7)) else a0
  let kind := field v 63 60
  let spare := field v 43 36
  if ! o.written then a
  else if ! o.usable || decide (field v 7 0 ≠ crc8Feed 0 (slice (leBytes 8 v) 1 7)) || decide (spare ≥ spareCount kind)
      || a.bist.assigned kind spare then a.mlog 0x2900 0x04 1 w 3
  else { a with bist := { a.bist with repairs := a.bist.repairs ++ [({ kind := kind, unit := field v 59 44, spare := spare, fused := true } : Repair)] } }

/-- The factory map at Boot's step 3, when every soft repair is gone (R66, R415, R439). -/
def State.bootRepairs (s : State) : State :=
  ((List.range 18).map (fun i => 13 + i)).foldl State.applyEntry
    { s with bist := { s.bist with repairs := [], wanted := [], unusable := [], spareFail := [] } }

/-- The field entries once region 6 is read, where it is valid (R415, R422). -/
def State.fieldRepairs (s : State) : State :=
  if s.otpValid 6 then ((List.range 30).map (fun i => 193 + i)).foldl State.applyEntry s else s

/-! ### Fuse repair (R440, R441) -/

/-- The soft repairs in effect and not yet fused. -/
def Bist.unfused (b : Bist) : List Repair := b.repairs.filter (fun r => ! r.fused)

/-- The data of a repair entry (Table: Repair entry). -/
def repairEntry (r : Repair) : Nat :=
  let v := r.kind * 2 ^ 60 + r.unit * 2 ^ 44 + r.spare * 2 ^ 36
  v + crc8Feed 0 (slice (leBytes 8 v) 1 7)

/-- A fuse repair is running. -/
def State.fusing (s : State) : Bool := decide (s.bist.fuseState = 1)

/-- A write of 1 to 0x2800:08: refused, or begun. -/
def State.fuseRepair (s : State) (byRecord : Bool) : State :=
  let b := s.bist
  let stop (c : Nat) : State := ({ s with bist := { b with fuseState := 3 } } : State).refuse c
  if s.sup.mode ≠ .commissioning then stop 0x0F000408
  else if s.otpConds ≠ 7 then stop 0x0F000604
  else if ! s.otpValid 6 then stop 0x0F000801
  else if b.unfused.isEmpty then stop 0x0F000802
  else if s.freePositions.length < b.unfused.length then stop 0x0F000803
  else { s with bist := { b with fuseVal := 1, fuseState := 1, fuseLeft := b.unfused, fuseFailed := false, fuseByRecord := byRecord, fuseAt := none },
                hpo := { s.hpo with reply := none } }

/-- An entry has failed its read-back: the second failure in a row ends the repair (R440). -/
def Bist.entryFailed (b : Bist) : Bist :=
  if b.fuseFailed then { b with fuseState := 3, fuseLeft := [] } else { b with fuseFailed := true }

/-- The entry of a repair is fused; with the last one the repair is done (R440). -/
def Bist.entryFused (b : Bist) (r : Repair) (rest : List Repair) : Bist :=
  { b with
    fuseLeft := rest, fuseFailed := false, fuseState := if rest.isEmpty then 2 else 1,
    repairs := b.repairs.map (fun x => if x.same r then { x with fused := true } else x) }

/-- The controller's state replaced. -/
def State.setBist (s : State) (b : Bist) : State := { s with bist := b }

/-- The first entry of the running repair is blown at position p and read back. -/
def State.fuseAt (s : State) (r : Repair) (p : Nat) (rd : WordRead) : State :=
  let s1 := (s.cvuRuns 8 (repairEntry r % 256)).burnWord (192 + p) (repairEntry r) rd
  let b := { s1.bist with fuseAt := some s.clk.real }
  s1.setBist (if (s1.otpWord (192 + p)).state = .unreliable then b.entryFailed else b.entryFused r (b.fuseLeft.drop 1))

/-- One entry is blown and read back (R440). -/
def State.fuseEntry (s : State) (rd : WordRead) : State :=
  match s.bist.fuseLeft.head? with
  | none => s
  | some r => match s.freePositions.head? with
    | some p => s.fuseAt r p rd
    | none => { s with bist := { s.bist with fuseState := 3, fuseLeft := [] } }

/-- A fuse entry is being blown: not at the instant at which the last one was read back (R427, R446). -/
def State.blowing (s : State) : Bool := s.otp.job.isSome || (s.fusing && decide (s.bist.fuseAt ≠ some s.clk.real))

/-! ### The loop-back test (R430) -/

/-- A loop-back test of a channel of I00 to I47 (group 0) or S0 to S7 (group 1); `atEnd` says that it is the last of its group. The
sweep of test 4 is complete when both groups have come round. -/
def State.loopPart (s : State) (ok : Bool) (group : Nat) (atEnd : Bool) : State :=
  let ends := if atEnd then s.bist.loopEnds ||| BitVec.ofNat 2 (2 ^ group) else s.bist.loopEnds
  let last := decide (ends = 3)
  ({ s with bist := { s.bist with loopEnds := if last then 0 else ends } } : State).bistPart 4 ok last

/-! ### Check-value units (R443, R444) -/

/-- The fixed use of a unit (R445). -/
def cvuUse (n : Nat) : Nat := match n with
  | 0 => 1
  | 1 => 1
  | 2 => 2
  | 3 => 2
  | 4 => 3
  | 5 => 4
  | 6 => 5
  | 7 => 6
  | 8 => 7
  | _ => 0
def cvuPoly (n : Nat) : Nat := match n with
  | 0 => 1
  | 2 => 1
  | 8 => 3
  | _ => 0

/-- Initial value and final XOR of a polynomial code. -/
def polyInit (p : Nat) : Nat := match p with
  | 0 => 0xFFFFFFFF
  | 1 => 0xFFFFFFFF
  | 2 => 0xFFFF
  | _ => 0
def polyXor (p : Nat) : Nat := if p ≤ 1 then 0xFFFFFFFF else 0

/-- Bytes through the unit's register. -/
def polyFeed (p run : Nat) (l : List Byte) : Nat := match p with
  | 0 => (crcFeed polyIeee (BitVec.ofNat 32 run) l).toNat
  | 1 => (crcFeed polyC (BitVec.ofNat 32 run) l).toNat
  | 2 => crc16Feed (run % 65536) l
  | _ => crc8Feed (run % 256) l

def Cvu.init (c : Cvu) : Cvu := { c with run := polyInit c.poly, armed := true, ended := false }
def Cvu.finalise (c : Cvu) : Cvu := { c with run := Nat.xor c.run (polyXor c.poly), armed := false, ended := true }
def Cvu.dataIn (c : Cvu) (v : Nat) : Cvu :=
  { c with run := polyFeed c.poly c.run ((if c.armed then leBytes 8 c.fold else []) ++ leBytes 4 v), armed := false }

/-- Writes of a unit's record (R342, R444). -/
def State.cvuWrite (s : State) (n sub v : Nat) : State :=
  let c := s.cvu n
  if cvuUse n ≠ 0 then s.refuse 0x0F000501
  else match sub with
    | 1 => (s.setCvu n { c with poly := v }).done
    | 2 => (s.setCvu n { c with fold := v }).done
    | 3 => (s.setCvu n { c with run := v, armed := false, ended := false }).done
    | 4 => if c.ended then s.refuse 0x0F000502 else (s.setCvu n (c.dataIn v)).done
    | _ => match v with
      | 1 => (s.setCvu n c.init).done
      | 2 => (s.setCvu n c.finalise).done
      | _ => s.refuse 0x06090030

/-- 0x2B00+n:03: the live running value. Units 0 to 3 hold the signatures of the partition that the engine has served last, units 4, 5 and 8
what their stream has brought them to. A unit that has had no stream yet, and units 6 and 7, whose streams no rule gives byte by byte,
show a free value (R445, log entry 64). -/
def State.cvuValue (s : State) (n : Nat) : Nat :=
  let free := (Config.cvuLive n s.clk.real).toNat
  match n, s.sle.lastRun with
  | 0, some (p, _) => (s.part p).sgC.toNat
  | 1, some (p, _) => (s.part p).sgI.toNat
  | 2, some (p, _) => (s.part p).soC.toNat
  | 3, some (p, _) => (s.part p).soI.toNat
  | _, _ => if cvuUse n = 0 ∨ (s.cvu n).armed then (s.cvu n).run else free

/-- 0x2B00+n:02: the fold register; that of units 0 to 3 is the preamble of the release whose signature they form (R135, R445). -/
def State.cvuFold (s : State) (n : Nat) : Nat :=
  match decide (n < 4), s.sle.lastRun with
  | true, some (p, n) => leNat (sigPreamble n p)
  | _, _ => (s.cvu n).fold

end Sys2Proof.Machine
end

