-- ==== Sys2Proof/Machine/OutputOps.lean ====
section
/-! DEFINITION. SOUT: output switches, groups, faults and their release (R200, R207 to R224), and W4 (R91). -/

namespace Sys2Proof.Machine

/-- The group switches may close: Commissioning or Run, OUT on, SUP has not removed drive (R147, R224). -/
def State.mayClose (s : State) : Bool :=
  decide (s.sup.mode = .commissioning ∨ s.sup.mode = .run) && ! s.sup.driveRemoved && s.domOn 8

/-- The module drives its outputs: the switches may close, Solo or Active, and no resume waits for both groups (R150, R200). -/
def State.mayDrive (s : State) (role : Role) : Bool := s.mayClose && decide (role = .solo ∨ role = .active) && ! s.sout.holdBoth

/-- Lane n of the last W8 taken (0x2200+n:10). -/
def State.commanded (s : State) (n : Nat) : Bool := s.sout.w8.getLsbD n

/-- The lane, or all lanes of the output's parallel group (R200, R215). -/
def Lot.laneOn (l : Lot) (w8 : Lanes) (n : Nat) : Bool :=
  if l.oPar n = 0 then w8.getLsbD n else (l.parMembers (l.oPar n)).all (fun m => w8.getLsbD m)
def State.laneOn (s : State) (n : Nat) : Bool := s.lotD.laneOn s.sout.w8 n

/-- A dark pulse of the output's own slot is running. -/
def State.inPulse (s : State) (n : Nat) : Bool :=
  match s.sout.test with
  | some t => match t.of with
    | .dark d => (s.lotD.darkOuts d).contains n
    | .group _ => false
  | none => false

/-- The output switch of Qn is on (R200). -/
def State.switchOn (s : State) (role : Role) (n : Nat) : Bool :=
  s.lotD.oSafety n && s.laneOn n && decide (s.sout.w8q ≠ 3) && decide ((s.grp (outGrp n)).state = .closed)
  && decide ((s.out n).code = 0) && ! s.inPulse n && s.mayDrive role && ! (s.out n).held

/-- The running test is the group's own (R210). -/
def State.inGroupTest (s : State) (g : Nat) : Bool :=
  match s.sout.test with
  | some t => decide (t.of = .group g)
  | none => false

/-- The start of the open retry of a group with fault 1 that is due in the frame of now: its own slot of the first frame that starts at
least 1 s after the failure or the previous retry (R221). -/
def State.openRetryAt (s : State) (g : Nat) : Option (Nat × Nat) :=
  let f := s.clk.now / 5000000 * 5000000
  match s.lotD.testSlot (.group g) with
  | some (o, len) =>
    if (s.grp g).state = .fault ∧ (s.grp g).code = 1 ∧ f ≥ (s.grp g).triedAt + sTicks then some (f + o * usTicks, len * usTicks) else none
  | none => none

/-- The start of the retry closing check of a group with fault 2: every 1 s from the failure, while LF is Good and no cut-off is
latched (R221). -/
def State.closeRetryAt (s : State) (g : Nat) : Option Nat :=
  let v := s.grp g
  let a := v.faultAt + (s.clk.now - v.faultAt) / sTicks * sTicks
  if v.state = .fault ∧ v.code = 2 ∧ v.lf.good ∧ ! v.latch ∧ a > v.faultAt ∧ v.triedAt < a then some a else none

/-- The group switch is closed: CLOSING CHECK, CLOSED outside the group's own test, or FAULT during a retry (R200, R210, R221). -/
def State.groupClosed (s : State) (g : Nat) : Bool :=
  match (s.grp g).state with
  | .closing => s.mayClose
  | .closed => s.mayClose && ! s.inGroupTest g
  | .fault =>
    s.mayClose && ((match s.openRetryAt g with
      | some (a, _) => decide (a ≤ s.clk.now ∧ s.clk.now < a + s.lotD.testWidth (.group g) * usTicks)
      | none => false) ||
    (match s.closeRetryAt g with
      | some a => decide (s.clk.now < a + 10 * msTicks)
      | none => false))
  | _ => false

/-- Any of Q00 to Q15 is commanded on (R52, R62): a lane of the last W8 taken, in SAFETY mode. -/
def State.anyOn (s : State) : Bool :=
  (List.range 16).any (fun n => s.lotD.oSafety n && s.commanded n && decide (s.sout.w8q ≠ 3))

/-- The sink of a pin: off while its switch is on; disabled on a READBACK INPUT and on a pair-parallel output of a module that is not
Active or Solo; the discharge sink in its own dark pulse, its group's test and its off-settle; else the holding sink (R199, R201,
R211, R225, R227). -/
inductive Sink where
  | off | disabled | discharge | holding
deriving DecidableEq, Repr

def State.sink (s : State) (role : Role) (n : Nat) : Sink :=
  if s.lotD.oMode n = 2 ∨ (s.lotD.oPairPar n ∧ role ≠ .solo ∧ role ≠ .active) then .disabled
  else if s.inPulse n ∨ s.inGroupTest (outGrp n) then .discharge
  else if s.switchOn role n then .off
  else if s.clk.now ≤ (s.out n).offAt + (if s.lotD.oMode n = 0 then 100 * usTicks else s.lotD.oSettle n * 500) then .discharge
  else .holding

/-- SOUT looks at the switch of an output, on or off, outside or inside its own dark pulse: switch-offs and switch-ons count for the settle
times of R216 and R217, the time on for R219. -/
def Out.looked (o : Out) (now : Nat) (on pulse : Bool) : Out :=
  if on then (if o.sw then o else { o with sw := true, onAt := now, onSince := some (o.onSince.getD now) })
  else
    let since := if pulse then o.onSince else none
    if o.sw then { o with sw := false, offAt := now, onSince := since } else { o with onSince := since }

/-- SOUT looks at every switch. -/
def State.outRefresh (s : State) (role : Role) : State :=
  (List.range 16).foldl (fun a n =>
    let o := (a.out n).looked a.clk.now (a.switchOn role n) (a.inPulse n)
    if o = a.out n then a else a.setOut n o) s

/-! ### Group and output faults (R221) -/

/-- The codes whose effect is on the group. -/
def groupCode (c : Nat) : Bool := decide (c = 1 ∨ c = 2 ∨ c = 4 ∨ c = 5 ∨ c = 7)

/-- Outputs of the group without a code of their own latch code 9. 0x2200+n:1A counts the faults of the output's own, so code 9, which
another fault of the group brings, is not counted there (DESIGN CHOICE, log entry 74: R229 does not say). -/
def State.codeNine (s : State) (g : Nat) : State :=
  (grpOuts g).foldl (fun a n =>
    if a.lotD.oMode n ≠ 2 ∧ (a.out n).code = 0 then a.setOut n { a.out n with code := 9 } else a) s

/-- A group fault: the switch opens, the group goes to FAULT, the other outputs latch code 9. A group fault of the group's own
code stays, with its retries; a group that is UNUSED stays UNUSED (R208). -/
def State.groupFault (s : State) (g code : Nat) : State :=
  let v := s.grp g
  let keep := decide (code = 4 ∧ v.code ≠ 0)
  let v1 := { v with
    state := .fault, openAt := if v.state = .closed ∨ v.state = .closing then s.clk.now else v.openAt, relDue := false }
  let v2 := if keep then v1 else { v1 with
    code := code, cleared := false, faultAt := s.clk.now, triedAt := s.clk.now, faults := v.faults + 1 }
  if v.state = .unused then s
  else
    let s1 := (s.setGrp g v2).codeNine g
    if keep then s1 else s1.mlog (0x2220 + g) 0x12 2 0 code

/-- Latch an output fault code; codes 1, 2, 4, 5 and 7 open the group (R221). The first code of an output stays until it is
released; code 9 gives way to a code of the output's own. -/
def State.outFault (s : State) (n code : Nat) : State :=
  if s.lotD.oMode n = 2 then s
  else
    let o := s.out n
    let take := decide (o.code = 0 ∨ o.code = 9)
    let s1 := if take then (s.setOut n { o with code := code, faults := o.faults + 1, agree := 0 }).mlog (0x2200 + n) 0x14 2 0 code else s
    if groupCode code then s1.groupFault (outGrp n) 4 else s1

/-- The pin of output m has read low without interruption for 100 ms. -/
def State.pinLowLong (s : State) (m : Nat) : Bool :=
  match (s.out m).lowSince with
  | some t => decide (s.clk.now - t ≥ 100 * msTicks)
  | none => false

/-- The members of the output's parallel group have read alike for 100 ms. -/
def State.alikeLong (s : State) (n : Nat) : Bool :=
  match s.sout.alike.get none (s.lotD.oPar n) with
  | some t => decide (s.clk.now - t ≥ 100 * msTicks)
  | none => false

/-- The members of the output's parallel group differ, at 20 consecutive samples, and none of them in the group's slot (R215). -/
def State.unlikeLong (s : State) (j : Nat) : Bool :=
  match s.sout.unlike.get none j with
  | some t => decide (s.clk.now ≥ t + 19 * 250)
  | none => false

/-- The condition of a code of the output's own, 1 to 8, has cleared (R221). An output whose switch is off carries no current and is in
no current limit. -/
def State.ownCleared (s : State) (n : Nat) : Bool :=
  let o := s.out n
  match o.code with
  | 1 => s.pinLowLong n
  | 2 => s.pinLowLong n
  | 3 => ! o.sw && ! s.commanded n
  | 4 => s.pinLowLong n && (List.range 16).all (fun m => ! o.peers.getLsbD m || s.pinLowLong m)
  | 5 => ! o.sw && s.alikeLong n
  | 6 => ! s.commanded n
  | 7 => decide (o.agree ≥ 3)
  | 8 => decide ((Config.driverTemperature n s.clk.real).toInt < 1300)
  | _ => true

/-- The latched group fault has cleared (R221). -/
def State.grpCleared (s : State) (g : Nat) : Bool :=
  let v := s.grp g
  match v.code with
  | 0 => true
  | 3 => decide (s.clk.now - v.faultAt ≥ sTicks)
  | 4 => (grpOuts g).all (fun m => ! groupCode (s.out m).code || s.ownCleared m)
  | _ => v.cleared

/-- The condition of a latched output code has cleared; code 9 with the group fault (R221). -/
def State.outCleared (s : State) (n : Nat) : Bool :=
  if (s.out n).code = 9 then s.grpCleared (outGrp n) else s.ownCleared n

/-- All faults of the group have cleared (0x2220+g:15 bit 1). -/
def State.allCleared (s : State) (g : Nat) : Bool := s.grpCleared g && (grpOuts g).all s.outCleared

/-- Nothing but the boundary stands before the closing check: no group fault, no code of 1, 2, 4, 5, 7. -/
def State.noFault (s : State) (g : Nat) : Bool :=
  decide ((s.grp g).code = 0) && (grpOuts g).all (fun n => ! groupCode (s.out n).code)

/-- An accepted reset edge on the reset source of group g (R222). It releases a cut-off, and makes the group close at the boundary,
only where the switches may close: the hold of R224 lasts until the next entry to Commissioning or Run. -/
def State.groupEdge (s : State) (g : Nat) : State :=
  let ok := (grpOuts g).filter (fun n => decide ((s.out n).code ≠ 0) && s.outCleared n && ! s.commanded n)
  let grpOk := s.grpCleared g
  let s1 := ok.foldl (fun a n => a.setOut n { a.out n with code := 0, peers := 0 }) s
  let v := s1.grp g
  let v1 : Grp := if grpOk then { v with code := 0, cleared := false } else v
  let cut := v1.latch && v1.good && s.mayClose
  let s2 := s1.setGrp g { v1 with relCut := v1.relCut || cut }
  let free := s2.noFault g && (! v1.latch || cut) && s.mayClose
  let v2 := s2.grp g
  if v2.state = .unused then s
  else s2.setGrp g { v2 with
    relDue := v2.relDue || (free && decide (v2.state ≠ .closing ∧ v2.state ≠ .closed)),
    state := if v2.state = .fault ∧ s2.noFault g ∧ v2.latch then .cutOff else v2.state }

/-- At the boundary of the partition that writes W8, a due release takes effect: the cut-off bit clears and the group goes to
CLOSING CHECK (R222, R233). -/
def State.groupBoundary (s : State) (g : Nat) : State :=
  let v := s.grp g
  let v1 : Grp := if v.relCut then { v with latch := false, cause := 0, relCut := false } else v
  if v.state = .unused ∨ ! s.mayClose then s
  else if v.relDue ∧ s.noFault g ∧ ! v1.latch then
    s.setGrp g { v1 with state := .closing, relDue := false, closeAt := s.clk.now }
  else s.setGrp g v1

/-- No group in use is still cut off: the outputs that a resume holds off follow W8 again (R150). -/
def State.bothReleased (s : State) : State :=
  if (List.range 2).all (fun g => decide ((s.grp g).state = .unused) || ! (s.grp g).latch) then
    { s with sout := { s.sout with holdBoth := false } }
  else s

/-- A boundary of partition p: a due group release where p writes W8, and the outputs that a resume held off (R150, R222). -/
def State.releaseBoundary (s : State) (p : Nat) : State :=
  if s.lotD.pWrites p 8 then (((s.groupBoundary 0).groupBoundary 1).bothReleased).outRefresh s.cplRole else s

/-- The partition that writes W8 has been released at this very instant: a release of a group that falls due now takes effect at this
boundary (R157). -/
def State.edgeBoundary (s : State) : State :=
  match s.lotD.inUse.find? (fun p => s.lotD.pWrites p 8) with
  | some p => if s.released ∧ s.isInstant p ∧ s.instantK p < (s.part p).relK then s.releaseBoundary p else s
  | none => s

/-! ### Cut-offs and the states that hold the switches open (R49, R51, R207, R224) -/

/-- The order of the causes that qualify at one sample: collapse, overvoltage, sag, disagreement (R49). -/
def causeRank (c : Nat) : Nat :=
  match c with
  | 3 => 0
  | 4 => 1
  | 2 => 2
  | _ => 3

/-- No test of the group or of one of its outputs runs on (R223). -/
def State.endTests (s : State) (g : Nat) : State :=
  { s with sout := { s.sout with test := s.sout.test.filter (fun t => match t.of with
      | .group h => decide (h ≠ g)
      | .dark d => (s.lotD.darkOuts d).all (fun n => decide (outGrp n ≠ g))) } }

/-- Latch a cut-off with a cause. A cut-off that is latched keeps its cause, but for one of a lower rank that qualified at this very
sample, and a release that waits for its boundary is void; the condition is logged (R49, R50). Causes 2 to 5 trigger the recorder
where the policy says so (R456). 0x2220+g:18 counts these cut-offs, of causes 2 to 5; the cut-offs that a change of state brings, causes
1 and 6, are not counted there (DESIGN CHOICE, log entry 74: R230 does not say). -/
def State.cutOff (s : State) (g cause : Nat) : State :=
  let v := s.grp g
  let s0 := s.mlog (0x2220 + g) 0x11 1 0 cause
  if v.latch then
    s0.setGrp g { v with
      relCut := false, relDue := false,
      cause := if v.cutAt = s.clk.now ∧ v.cause ≥ 2 ∧ v.cause ≤ 5 ∧ causeRank cause < causeRank v.cause then cause else v.cause }
  else
    let s1 := if s.lotD.recFlag 2 ∧ 2 ≤ cause ∧ cause ≤ 5 then s0.frcFreeze 7 255 else s0
    (s1.endTests g).setGrp g { v with
      latch := true, cause := cause, cutAt := s.clk.now, relCut := false, relDue := false, cutOffs := v.cutOffs + 1,
      openAt := if v.state = .closed ∨ v.state = .closing then s.clk.now else v.openAt,
      state := if v.state = .closed ∨ v.state = .closing then .cutOff else v.state }

/-! ### The LF monitors (R48, R50) -/

/-- A sample of a run: `now` is its tick, `n` the samples that qualify. Samples without a command repeat the one before (log entry
20), so a run that ends now is counted to the sample before. The run behind the sample, and whether it qualifies for the first
time. -/
def LfRun.sample (r : LfRun) (now n : Nat) (on : Bool) : LfRun × Bool :=
  let last := if on then now else now - 250
  let first := r.since.getD now
  let full := decide (r.since.isSome ∨ on) && decide (first + (n - 1) * 250 ≤ last)
  (if on then ⟨some first, r.done || full⟩ else {}, full && ! r.done)

/-- A voltage below a threshold, `always` and `never` in mV; between them the comparator decides, anew at each sample. -/
def lfBelow (k at_ mv always never : Nat) : Bool := decide (mv ≤ always) || (decide (mv < never) && Config.outputComparator k at_)

/-- The decisions of the LF comparators of group g for a sample (Table: Field supply thresholds). -/
def lfWarns (g at_ mv : Nat) : Bool := lfBelow (40 + 5 * g) at_ mv 19050 19200
def lfSags (g at_ mv : Nat) : Bool := lfBelow (41 + 5 * g) at_ mv 16650 16800
def lfCollapses (g at_ mv : Nat) : Bool := lfBelow (42 + 5 * g) at_ mv 11850 12000
def lfOvers (g at_ mv : Nat) : Bool := decide (mv ≥ 30150) || (decide (mv > 30000) && Config.outputComparator (43 + 5 * g) at_)
def lfGoods (g at_ mv : Nat) : Bool :=
  decide (19350 ≤ mv ∧ mv ≤ 29850) || (decide (19200 ≤ mv ∧ mv ≤ 30000) && Config.outputComparator (44 + 5 * g) at_)

/-- The sample of the LF monitor of group g: the warning at once, Good and its 100 ms, the runs (R48, R50). The 100 ms of the warning count
from the start of Good, those of a release from an entry to Commissioning or Run at the earliest (R51). A loss of Good voids a
release that waits. -/
def Grp.lfSampled (v : Grp) (g at_ now mv : Nat) : Grp :=
  let good := lfGoods g at_ mv
  let since := if good && ! v.lf.good then now else v.goodSince
  let held := good && decide (now ≥ since + 100 * msTicks)
  let clear := if good && ! v.lf.good then now else v.clearSince
  let lost := v.lf.good && ! good
  { v with
    lf := ⟨true, lfWarns g at_ mv, good, (v.lf.sag.sample now 400 (lfSags g at_ mv)).1,
           (v.lf.collapse.sample now 2 (lfCollapses g at_ mv)).1, (v.lf.ovolt.sample now 20 (lfOvers g at_ mv)).1⟩,
    goodSince := since, clearSince := clear, good := held,
    warn := lfWarns g at_ mv || (v.warn && ! (good && decide (now ≥ clear + 100 * msTicks))),
    relCut := v.relCut && ! lost, relDue := v.relDue && ! (lost && v.latch) }

/-- The cut-off conditions that qualify at a sample, in the order of R49. -/
def Grp.lfCauses (v : Grp) (g at_ now mv : Nat) : List Nat :=
  (if (v.lf.collapse.sample now 2 (lfCollapses g at_ mv)).2 then [3] else []) ++
  (if (v.lf.ovolt.sample now 20 (lfOvers g at_ mv)).2 then [4] else []) ++
  (if (v.lf.sag.sample now 400 (lfSags g at_ mv)).2 then [2] else [])

/-- SOUT samples LF of group g at a multiple of 250 counts: warning, Good, cut-offs; changes of the warning are logged (R48, R49). -/
def State.lfSample (s : State) (g mv : Nat) (role : Role) : State :=
  if s.domOn 8 ∧ s.clk.running ∧ s.clk.now % 250 = 0 then
    let v := s.grp g
    let v1 := v.lfSampled g s.clk.real s.clk.now mv
    let s1 := s.setGrp g v1
    let s2 := if v1.warn = v.warn then s1 else s1.mlog (0x2220 + g) 0x17 v1.warn.toNat 0 v1.warn.toNat
    ((v.lfCauses g s.clk.real s.clk.now mv).foldl (fun a c => a.cutOff g c) s2).outRefresh role
  else s

/-- R51: every entry to Commissioning or Run starts each group in use cut off, with cause 1; Good counts from now. A switch that was
closed opens, its outputs are off and no test pulse runs on (R216, R221, R223). -/
def State.entryCutOff (s : State) : State :=
  let one (a : State) (g : Nat) : State :=
    let v := a.grp g
    if v.state = .unused then a
    else a.setGrp g { v with
      latch := true, cause := 1, cutAt := a.clk.now, relCut := false, relDue := false, good := false, goodSince := a.clk.now,
      openAt := if v.state = .closed ∨ v.state = .closing then a.clk.now else v.openAt,
      state := if v.code = 0 ∧ v.state = .fault ∧ a.noFault g then .cutOff
               else if v.state = .closed ∨ v.state = .closing then .cutOff else v.state }
  let s1 := one (one s 0) 1
  ({ s1 with sout := { s1.sout with test := none } } : State).outsOff

/-- R207: an exit from Validating starts every output and group afresh under the block just applied. -/
def State.soutStart (s : State) : State := s.soutFresh s.lotD.gUnused

/-! ### Taking W8 (R140, R200, R214) -/

/-- A tick lies in a due slot of the test source: frame of 100 ms, slot offset and length (R212). -/
def Lot.slotAt (l : Lot) (t : TestOf) (now : Nat) : Bool :=
  match l.testSlot t with
  | none => false
  | some (o, len) =>
    let f := now / 5000000
    let r := now % 5000000
    decide (f % max 1 (l.testPeriod t) = 0 ∧ o * usTicks ≤ r ∧ r < (o + len) * usTicks)
def State.inSlot (s : State) (t : TestOf) : Bool := s.lotD.slotAt t s.clk.now

/-- Now is the start of a due slot of the test source. -/
def State.slotStart (s : State) (t : TestOf) : Bool :=
  match s.lotD.testSlot t with
  | none => false
  | some (o, _) =>
    decide (s.clk.now / 5000000 % max 1 (s.lotD.testPeriod t) = 0 ∧ s.clk.now % 5000000 = o * usTicks)

/-- SOUT takes a committed W8: lanes and delivered quality. An on command in the output's own slot is held; outputs whose
command changes in a running slot, a parallel one by the AND of its members' lanes, leave its bleed check (R214, R215). -/
def State.takeW8 (s : State) (v : Lanes) (q : Nat) (role : Role) : State :=
  let eff := if q = 3 then (v &&& ~~~ 0xFFFFF#128) ||| 0xF0000#128 else v
  let moved := (List.range 16).foldl (fun (a : BitVec 16) n =>
    if s.lotD.laneOn eff n != s.laneOn n then a ||| BitVec.ofNat 16 (2 ^ n) else a) 0
  let s1 := (List.range 16).foldl (fun a n =>
    if s.lotD.laneOn eff n && ! s.laneOn n && (match s.lotD.outSource n with
        | some t => s.inSlot t
        | none => false) then a.setOut n { a.out n with held := true }
    else if ! s.lotD.laneOn eff n && (a.out n).held then a.setOut n { a.out n with held := false }
    else a) s
  let s2 := { s1 with sout := { s1.sout with
    w8 := eff, w8q := q,
    test := s1.sout.test.map (fun (t : TestPulse) => { t with moved := t.moved ||| moved }) } }
  s2.outRefresh role

/-! ### W4 (R91) -/

/-- The filtered high decision of a READBACK INPUT at a tick: samples without a command repeat the one before (R173, R225; log
entry 20). -/
def Out.filtered (o : Out) (n now : Nat) : Bool :=
  if o.pinHigh != o.filt && decide (o.count + (now - o.sampledAt) / 250 ≥ n) then o.pinHigh else o.filt

/-- The filter takes the high decision `h` of the sample at `now`; n is t_f in samples. -/
def Out.filterStep (o : Out) (n now : Nat) (h : Bool) : Out :=
  let f := o.filtered n (now - 250)
  let c := if o.pinHigh = f then 0 else o.count + (now - 250 - o.sampledAt) / 250
  if h = f then { o with filt := f, count := 0, sampledAt := now }
  else if c + 1 ≥ n then { o with filt := h, count := 0, sampledAt := now }
  else { o with filt := f, count := c + 1, sampledAt := now }

/-- W4.n: the high decision; of a READBACK INPUT the filtered one, and 0 while its group's LF warning is set (R202, R225). -/
def State.pinLane (s : State) (n : Nat) : Bool :=
  if s.lotD.oMode n = 2 then (s.out n).filtered (20 * s.lotD.oFilter n) s.clk.now && ! (s.grp (outGrp n)).warn else (s.out n).pinHigh

def State.w4 (s : State) : Cell :=
  localWord (s.domOn 8) (lanesOf 38 (fun l =>
    if l < 16 then s.pinLane l
    else if l < 32 then decide ((s.out (l - 16)).code ≠ 0)
    else if l < 34 then (s.grp (l - 32)).warn
    else if l < 36 then (s.grp (l - 34)).latch
    else (s.grp (l - 36)).railClosed))

end Sys2Proof.Machine
end

