-- ==== Sys2Proof/Machine/TimingOps.lean ====
section
/-! DEFINITION. TMU: compare and capture channels (R262 to R274), speed channels and pairs (R280 to R287), motion functions
(R245 to R249) and W2 (R91). -/

namespace Sys2Proof.Machine

def State.tc (s : State) (c : Nat) : TChan := s.tmu.chans.get {} c

/-- What a read of the value returns: a held capture first (R272). -/
def TChan.readValue (t : TChan) : Nat := if t.held then t.hold else t.value

/-- Put a channel back; an event or capture of a SAFE channel goes to the recorder, codes 5 and 6: the capture's value is the held one
where it went to the hold register (R272, R450). -/
def State.setTc (s : State) (c : Nat) (t : TChan) : State :=
  let old := s.tc c
  let s1 := { s with tmu := { s.tmu with chans := s.tmu.chans.set {} c t } }
  if t.events = old.events ∨ s.lotD.chOwner c ≠ 1 then s1
  else if t.mode = 3 then s1.frcEvent 6 (t.readValue % 2 ^ 56 + c * 2 ^ 56)
  else s1.frcEvent 5 (c + (if t.late then 256 else 0) + t.value % 2 ^ 40 * 65536)

/-! ### One channel (R266 to R272) -/

/-- The channel fires with an event stamp (R266). -/
def TChan.fire (t : TChan) (stamp : Nat) (late : Bool) : TChan :=
  { t with armed := false, fired := true, late := late, gated := false, value := stamp, events := t.events + 1, everFired := true }

/-- The channel reaches its target: a GATE slave whose master has not fired since the arming waits (R269). -/
def TChan.reach (t : TChan) (stamp : Nat) (late : Bool) : TChan × Option Nat :=
  if t.link = 1 ∧ ! t.masterFired then ({ t with gated := true }, none) else (t.fire stamp late, some stamp)

/-- The channel as an arming with a base leaves it, before its target is judged (R266). -/
def TChan.ready (t : TChan) (base : Nat) : TChan :=
  { t with armed := true, fired := false, late := false, gated := false, clocks := 0, masterFired := false,
           ovr := if t.mode = 3 then false else t.ovr, target := if t.mode = 2 ∧ t.link ≠ 3 then base + t.period else t.target }

/-- Arm at tick `now` with a base (R266, R267, R269, R271); it answers the event stamp where the target has passed. -/
def TChan.arm (t : TChan) (now base : Nat) : TChan × Option Nat :=
  let a := t.ready base
  if t.mode = 3 ∨ t.link = 3 then (a, none) else if a.target ≤ now then a.reach now true else (a, none)

/-- The base of an arming that no rule gives another base: the last event stamp since the mode was set, else the arming
instant (R266). -/
def TChan.base (t : TChan) (now : Nat) : Nat := if t.everFired then t.value else now

/-- A capture (R271, R272). -/
def TChan.capture (t : TChan) (v : Nat) : TChan :=
  let c := { t with new := true, fired := true, events := t.events + 1, everFired := true, ovr := t.ovr || t.new }
  if t.held then { c with hold := v } else { c with value := v }

/-- A capture that completes on the same handshake as a read (R272): the read takes the old value, the new one is held. -/
def TChan.captureAtRead (t : TChan) (v : Nat) : TChan :=
  { t with value := if t.held then t.hold else t.value, hold := v, held := true, new := true, fired := true, events := t.events + 1, everFired := true }

/-- The channel after a read (R272). -/
def TChan.afterRead (t : TChan) : TChan := { t with value := t.readValue, hold := 0, held := false, new := false }

/-- Disarm. -/
def TChan.disarm (t : TChan) : TChan := { t with armed := false, gated := false }

/-- CLEAR FLAGS. -/
def TChan.clear (t : TChan) : TChan := { t with fired := false, late := false, new := false, ovr := false }

/-! ### The events of one tick (R269, R270) -/

/-- The effect of an event of channel k's master or source with stamp `tau`. -/
def TChan.onMaster (t : TChan) (now tau : Nat) : TChan × Option Nat :=
  match t.link with
  | 1 =>
    if t.armed then
      let a := { t with masterFired := true }
      if t.gated then (a.fire tau true, some tau) else (a, none)
    else (t, none)
  | 2 => if t.mode = 2 then t.arm now tau else (t, none)
  | 3 =>
    if t.armed then
      let a := { t with clocks := t.clocks + 1 }
      if a.clocks ≥ t.period then (a.fire tau false, some tau) else (a, none)
    else (t, none)
  | _ => (t, none)

/-- A pending target of channel k has come. -/
def TChan.due (t : TChan) (now : Nat) : Bool :=
  t.armed && decide (t.mode = 1 ∨ t.mode = 2) && decide (t.link ≠ 3) && ! t.gated && decide (t.target ≤ now)

/-- The events of channel k in this tick: its master's first, then a capture, then its own target, which at a wake fires at this
tick with LATE (R262). -/
def TChan.inTick (t : TChan) (now : Nat) (wake : Bool) (master : Option Nat) (cap : TChan → Option Nat) (source : Option Nat) :
    TChan × Option Nat :=
  let a := match master with
    | some tau => t.onMaster now tau
    | none => (t, none)
  match a.2 with
  | some x => (a.1, some x)
  | none =>
    if a.1.armed ∧ a.1.mode = 3 then
      match (cap a.1 <|> (if a.1.source / 256 = 3 then source else none)) with
      | some v => (a.1.capture v, some v)
      | none => a
    else if a.1.due now then a.1.reach (if wake then now else a.1.target) wake
    else a

/-- The stamp with which channel j fired in this tick. -/
def firedAt (l : List (Nat × Nat)) (j : Nat) : Option Nat := Tab.look j l

/-- The channel's events come from the recording: a SAFE channel in Replay (R274, R460). -/
def State.recordedChan (s : State) (c : Nat) : Bool := decide (s.sup.mode = .replay) && decide (s.lotD.chOwner c = 1)

/-- One pass over the channels in ascending number (R270); `init` has fired in it already. `old` are the events of the passes
before it: they reach the channels whose capture source lies above their own number, and a channel of them takes part no more. -/
def State.tmuPass (s : State) (wake : Bool) (old init : List (Nat × Nat)) (cap : TChan → Option Nat) : State × List (Nat × Nat) :=
  (s.tmu.chans.cells.map (fun e => e.1)).foldl (fun (a : State × List (Nat × Nat)) k =>
    if (firedAt old k).isSome || s.recordedChan k then a
    else
      let t := a.1.tc k
      let j := t.source % 256
      let m := if t.link = 0 then none else firedAt a.2 t.master
      let r := t.inTick s.clk.now wake m cap (firedAt a.2 j <|> (if j > k then firedAt old j else none))
      let s1 := if r.1 = t then a.1 else a.1.setTc k r.1
      match r.2 with
      | some x => (s1, a.2 ++ [(k, x)])
      | none => (s1, a.2)) (s, init)

/-- One more pass for the events `old` of this tick, and the events with those that it brings; none where nothing more comes. -/
def State.tmuAgain (s : State) (old : List (Nat × Nat)) : State × List (Nat × Nat) :=
  if old.isEmpty then (s, [])
  else
    let r := s.tmuPass false old [] (fun _ => none)
    (r.1, if r.2.isEmpty then [] else old ++ r.2)

/-- The events that come of the events `old` of this tick at lower channel numbers, through captures of type 3 (R263, R271). -/
def State.tmuMore (s : State) (old : List (Nat × Nat)) : State :=
  (s.tmu.chans.cells.foldl (fun (a : State × List (Nat × Nat)) _ => a.1.tmuAgain a.2) (s, old)).1

/-- All events of this tick; `init` has fired already. -/
def State.tmuEvents (s : State) (wake : Bool) (init : List (Nat × Nat)) (cap : TChan → Option Nat) : State :=
  let r := s.tmuPass wake [] init cap
  r.1.tmuMore r.2

def State.tmuTick (s : State) (init : List (Nat × Nat)) (cap : TChan → Option Nat) : State := s.tmuEvents false init cap

/-- The events of this tick that no capture source causes. -/
def State.tmuDue (s : State) : State := s.tmuTick [] (fun _ => none)

/-- Put channel c back and pass its event on to its slaves. -/
def State.tmuPut (s : State) (c : Nat) (r : TChan × Option Nat) : State :=
  let s1 := s.setTc c r.1
  match r.2 with
  | some x => s1.tmuTick [(c, x)] (fun _ => none)
  | none => s1

/-- A command or a write changes channel c by `f` and arms it, after this tick's events (R270). -/
def State.tmuArm (s : State) (c : Nat) (f : TChan → TChan) : State :=
  let s1 := s.tmuDue
  let t := f (s1.tc c)
  s1.tmuPut c (t.arm s1.clk.now (t.base s1.clk.now))

/-- A source of types 1, 2, 4 and 5 gives a capture value (R263, R271). -/
def State.tmuCapture (s : State) (sel : TChan → Bool) (v : Nat) : State :=
  s.tmuTick [] (fun t => if sel t then some v else none)

/-- The channel selects an edge with this level (0 rising, 1 falling, 2 both). -/
def TChan.takes (t : TChan) (type n : Nat) (level : Bool) : Bool :=
  decide (t.source = 256 * type + n) && (decide (t.edge = 2) || decide (t.edge = if level then 0 else 1))

/-- A filtered edge of input n (capture source type 1), while the time base runs (R262). -/
def State.captureInput (s : State) (n : Nat) (level : Bool) : State :=
  if s.clk.running then s.tmuCapture (fun t => t.takes 1 n level) (s.chan n).stamp else s

/-- A channel entry put into a list that ascends by channel. -/
def insertChan (e : ChEntry) : List ChEntry → List ChEntry
  | [] => [e]
  | f :: l => if e.chan ≤ f.chan then e :: f :: l else f :: insertChan e l

/-- The SAFE channels whose arm word partition p writes, in ascending number: masters before their slaves (R270). -/
def Lot.armedBy (l : Lot) (p : Nat) : List ChEntry :=
  (l.chEntries.filter (fun e => decide (e.owner = 1) && l.pWrites p e.armWord)).foldr insertChan []

/-- The arm lane of one channel at a commit of partition p (R268). In Replay the arming fires nothing: the event is the recorded one. -/
def State.armLane (s : State) (p : Nat) (e : ChEntry) : State :=
  let t := s.tc e.chan
  let now := (s.comG e.armWord).val.getLsbD e.armLane
  if now && ! t.lane then
    let t1 : TChan := { t with lane := true }
    let base := (s.part p).stamp
    if s.recordedChan e.chan then s.setTc e.chan (t1.ready base) else s.tmuPut e.chan (t1.arm s.clk.now base)
  else if ! now && t.lane then s.setTc e.chan { t.disarm with lane := false, fired := false, late := false }
  else s

/-- The arm lanes of the SAFE channels at a commit of partition p, after this tick's events (R268, R270). -/
def State.armLanes (s : State) (p : Nat) : State :=
  let es := s.lotD.armedBy p
  if es.isEmpty then s else es.foldl (fun a e => a.armLane p e) s.tmuDue

/-- Every channel as at an exit from Validating: SAFE channels configured and disarmed, the others OFF (R264, R268, R274). -/
def State.chansStart (s : State) : State :=
  let t := (s.lotD.chEntries.filter (fun e => decide (e.owner = 1))).foldl (fun (t : Tab TChan) e =>
    t.set {} e.chan { ({} : TChan) with
      mode := e.mode, link := e.link, master := e.master, period := e.period, source := e.source, edge := e.edge }) {}
  { s with tmu := { s.tmu with chans := t } }

/-- The restart of the time base at a wake: every armed channel whose target is T_w or less fires at T_w with LATE (R262). -/
def State.chansWake (s : State) : State := s.tmuEvents true [] (fun _ => none)

/-- LOCAL selectors 0x00 and 0x01 (R273). -/
def State.eventLanes (s : State) (hi : Bool) : Lanes :=
  lanesOf 128 (fun l =>
    let c := if hi then 128 + l else l
    decide (s.lotD.chOwner c = 1) && (s.tc c).fired)

/-! ### Speed channels and pairs (R280 to R284) -/

/-- The bank of a speed channel is ON. -/
def State.speedOn (s : State) (n : Nat) : Bool := s.domOn (if n < 4 then 6 else 7)

/-- W2.(32+n). -/
def State.speedValid (s : State) (n : Nat) : Bool := s.lotD.spUsed n && s.speedOn n && decide ((s.speed n).fault = 0)

/-- The number of whole periods m and their span for a measured edge: `stamps` newest first, with the new edge at its head
(R281). -/
def periodOf (avg : Nat) (stamps : List Nat) : Nat × Nat :=
  match stamps with
  | [] => (0, 0)
  | t :: r =>
    match r with
    | [] => (0, 0)
    | a :: _ =>
      ((List.range r.length).foldl (fun (acc : Nat × Nat) i =>
        match r[i]? with
        | some x => if i < 64 ∧ t - x ≤ avg then (i + 1, t - x) else acc
        | none => acc) (1, t - a))

/-- A quotient in mHz of `m` periods in `span` ticks, rounded to the nearest unit. -/
def mHz (m span : Nat) : Nat := if span = 0 then 0 else (2 * 50000000000 * m + span) / (2 * span)

/-- The speed of the complete period alone, in mHz; 0 without one (R245). -/
def SpeedCh.complete (c : SpeedCh) : Nat := if c.m = 0 then 0 else mHz c.m c.span

/-- The last edge's stamp, or the start (R281). -/
def SpeedCh.last (c : SpeedCh) : Nat := c.stamps.headD c.startAt

/-- The estimate v at tick `now` (R281); `free` is the free value of a quotient by 0. -/
def SpeedCh.estimate (c : SpeedCh) (now free : Nat) : Nat :=
  let dt := now - c.last
  if dt > 500000000 then 0
  else if c.m ≠ 0 ∧ dt * c.m ≤ c.span then mHz c.m c.span
  else if dt = 0 then free
  else mHz 1 dt

/-- The two speeds of pair p in units of 0.001 mHz, Sp and r times S(p+4), of the estimates and of the complete periods. -/
def State.pairSpeeds (s : State) (p : Nat) : Nat × Nat := (1000 * (s.speed p).est, s.lotD.spRatio p * (s.speed (p + 4)).est)
def State.pairComplete (s : State) (p : Nat) : Nat × Nat :=
  (1000 * (s.speed p).complete, s.lotD.spRatio p * (s.speed (p + 4)).complete)

/-- The disagreement d of pair p in 0.001 mHz. -/
def State.pairGap (s : State) (p : Nat) : Nat :=
  let v := s.pairSpeeds p
  max v.1 v.2 - min v.1 v.2

/-- d is above the limit L (R283). -/
def State.pairApart (s : State) (p : Nat) : Bool :=
  let v := s.pairSpeeds p
  decide (1000 * s.pairGap p > max (s.lotD.spTolRel p * max v.1 v.2) (1000000 * s.lotD.spTolAbs p))

/-- The speed of pair p is valid (R245). -/
def State.pairValid (s : State) (p : Nat) : Bool :=
  s.lotD.spPair p && s.speedValid p && s.speedValid (p + 4) && ! (s.spair p).fault

/-- A condition of code 1 holds: an estimate above 210 kHz, or more than 8 rejected pulses within 1 ms (R282). -/
def SpeedCh.overRange (c : SpeedCh) (now : Nat) : Bool :=
  decide (c.est > 210000000) || decide ((c.rejTimes.filter (fun t => decide (now - t ≤ msTicks))).length > 8)

/-- Latch a speed channel fault (R282). -/
def State.speedFault (s : State) (n code : Nat) : State :=
  let c := s.speed n
  let fresh := ! c.fault.getLsbD code
  let s1 := s.setSpeed n { c with fault := c.fault ||| BitVec.ofNat 4 (2 ^ code), faults := if fresh then c.faults + 1 else c.faults,
                                  overAt := if code = 1 then s.clk.now else c.overAt,
                                  validSince := if code = 2 then none else c.validSince }
  if fresh then s1.mlog (0x2300 + n) 0x15 2 0 code else s1

/-- One 10 us update of channel n: its estimate, which goes on falling where its bank is off, and code 1 (R281, R282). -/
def State.speedUpdate (s : State) (n : Nat) : State :=
  if s.lotD.spUsed n then
    let c := s.speed n
    let c1 := { c with est := c.estimate s.clk.now (Config.speedAtZero n s.clk.now).toNat }
    let s1 := s.setSpeed n c1
    if c1.overRange s.clk.now then s1.speedFault n 1 else s1
  else s

/-- One 10 us update of pair p (R283). -/
def State.pairUpdate (s : State) (p : Nat) : State :=
  if s.lotD.spPair p ∧ s.speedValid p ∧ s.speedValid (p + 4) then
    let q := s.spair p
    let q1 := { q with largest := max q.largest ((s.pairGap p + 500) / 1000) }
    if s.pairApart p then
      let t := q.since.getD s.clk.now
      if ! q.fault ∧ s.clk.now - t ≥ s.lotD.spPlaus p * msTicks then
        (s.setSpair p { q1 with since := some t, fault := true }).mlog (0x2300 + p) 0x26 2 0 1
      else s.setSpair p { q1 with since := some t }
    else s.setSpair p { q1 with since := none }
  else s.setSpair p { s.spair p with since := none }

/-- The clearing condition of a speed channel's code holds (R282). -/
def State.speedCleared (s : State) (n code : Nat) : Bool :=
  let c := s.speed n
  match code with
  | 1 => decide (s.clk.now - c.overAt ≥ sTicks)
  | 2 => match c.validSince with
    | some t => decide (s.clk.now - t ≥ sTicks)
    | none => false
  | 3 => decide (c.loop = 0)
  | _ => true

/-- An accepted reset edge for the speed channels and pairs that it serves (R284). -/
def State.releaseSpeeds (s : State) (serves : Nat → Bool) : State :=
  let s1 := ((List.range 8).filter (fun n => s.lotD.spUsed n && serves (s.lotD.spReset n))).foldl (fun a n =>
    let c := a.speed n
    let f := (List.range 4).foldl (fun (b : BitVec 4) i =>
      if c.fault.getLsbD i && ! a.speedCleared n i then b ||| BitVec.ofNat 4 (2 ^ i) else b) 0
    a.setSpeed n { c with fault := f }) s
  ((List.range 4).filter (fun p => s.lotD.spPair p && serves (s.lotD.spPairReset p))).foldl (fun a p =>
    if (a.spair p).fault ∧ a.speedValid p ∧ a.speedValid (p + 4) ∧ ! a.pairApart p then
      a.setSpair p { a.spair p with fault := false, since := none }
    else a) s1

/-! ### Motion functions (R245 to R249) -/

/-- The highest and the lowest estimate of a function's pair and the highest complete-period speed, in 0.001 mHz. -/
def State.moHigh (s : State) (m : Nat) : Nat := match s.lotD.moPair? m with
  | some p => max (s.pairSpeeds p).1 (s.pairSpeeds p).2
  | none => 0
def State.moLow (s : State) (m : Nat) : Nat := match s.lotD.moPair? m with
  | some p => min (s.pairSpeeds p).1 (s.pairSpeeds p).2
  | none => 0
def State.moOver (s : State) (m : Nat) : Nat := match s.lotD.moPair? m with
  | some p => max (s.pairComplete p).1 (s.pairComplete p).2
  | none => 0

/-- The function's speed is valid; a function without a pair has none that could be invalid. -/
def State.moValid (s : State) (m : Nat) : Bool := match s.lotD.moPair? m with
  | some p => s.pairValid p
  | none => true

/-- v is at or below v_ss. -/
def State.moStill (s : State) (m : Nat) : Bool :=
  decide (s.lotD.moVss m ≠ 0) && (s.lotD.moPair? m).isSome && decide (s.moLow m ≤ 1000 * s.lotD.moVss m)

/-- Standstill has held for t_ss. -/
def State.moStand (s : State) (m : Nat) (q : Motion) : Bool :=
  s.moStill m && (match q.standSince with
    | some t => decide (s.clk.now - t ≥ s.lotD.moTss m * msTicks)
    | none => false)

/-- The envelope at tick t, in units of 0.001 mHz times 50,000 (R246). -/
def Lot.envelope50k (l : Lot) (m tr vr t : Nat) : Nat :=
  let top := 50000 * (vr + 1000 * l.moVtol m)
  let td := tr + l.moTd m * msTicks
  if t < td then top else max (50000000 * l.moVss m) (top - l.moA m * (t - td))

/-- Latch a violation (R249). -/
def Motion.violate (q : Motion) (cause : Nat) : Motion :=
  if q.violated then q else { q with violated := true, cause := cause, violations := q.violations + 1 }

/-- A condition that must hold for a time: its start. -/
def holdFrom (c : Bool) (since : Option Nat) (now : Nat) : Option Nat := if c then some (since.getD now) else none

/-- It has held for `d` ticks. -/
def heldFor (since : Option Nat) (now d : Nat) : Bool := match since with
  | some t => decide (now - t ≥ d)
  | none => false

/-- Function m starts its SS1 ramp at this W8 (R246, R247). -/
def State.motionRequest (s : State) (m : Nat) (lane : Bool) : State :=
  let q := s.motion m
  let ty := s.lotD.moType m
  let q1 := { q with request := lane }
  if lane && ! q.request && ! q.ramp && ! q.stopped && decide (ty = 1 ∨ ty = 2) then
    let q2 := { q1 with ramp := true, tr := s.clk.now, vr := s.moHigh m, fallback := decide (ty = 1) && ! s.moValid m, envSince := none }
    s.setMotion m (if ty = 1 ∧ s.moStand m q then { q2 with ramp := false, stopped := true } else q2)
  else s.setMotion m q1

/-- A W8 taken by TMU: lanes 16 to 19 (R140). -/
def State.motionTake (s : State) (w8 : Lanes) : State :=
  (List.range 4).foldl (fun a m => a.motionRequest m (w8.getLsbD (16 + m))) s

/-- A running ramp at an update: the violation of the envelope, then the stop (R246, R247). -/
def State.rampStep (s : State) (m : Nat) (q : Motion) : Motion :=
  let now := s.clk.now
  let timeUp := decide (now ≥ q.tr + s.lotD.moTmax m * (10 * msTicks))
  if s.lotD.moType m = 2 then (if timeUp then { q with ramp := false, stopped := true } else q)
  else
    let fb := q.fallback || ! s.moValid m
    let above := ! fb && decide (50000 * s.moHigh m > s.lotD.envelope50k m q.tr q.vr now)
    let es := holdFrom above q.envSince now
    let q1 := { q with fallback := fb, envSince := es }
    if heldFor es now msTicks then ({ q1 with ramp := false, stopped := true, envSince := none } : Motion).violate 1
    else if timeUp || (! fb && q.stand) then { q1 with ramp := false, stopped := true, envSince := none }
    else q1

/-- The speed is below the limit of a type 3 function (R248). -/
def State.moUnder (s : State) (m : Nat) : Bool :=
  if s.lotD.moRef m < 4 then
    decide (1000 * s.moLow m < s.lotD.moK m * min (s.pairSpeeds (s.lotD.moRef m)).1 (s.pairSpeeds (s.lotD.moRef m)).2)
  else decide (s.moLow m < 1000 * s.lotD.moVlow m)

/-- One 10 us update of function m (R245). -/
def State.motionStep (s : State) (m : Nat) : State :=
  let ty := s.lotD.moType m
  if ty = 0 then s
  else
    let now := s.clk.now
    let l := s.lotD
    let q0 := s.motion m
    let valid := s.moValid m
    let q1 := { q0 with standSince := holdFrom (s.moStill m) q0.standSince now }
    let q2 := { q1 with stand := s.moStand m q1 }
    let q3 := if q2.ramp then s.rampStep m q2
      else if q2.stopped && ! q2.request then { q2 with stopped := false }
      else q2
    let fast := decide (ty ≠ 2) && decide (l.moVmax m ≠ 0) && valid && decide (s.moOver m > 1000 * l.moVmax m)
    let q4 := { q3 with overSince := holdFrom (fast && ! q3.ramp) q3.overSince now }
    let q5 := if heldFor q4.overSince now (l.moTlim m * msTicks) then q4.violate 2 else q4
    let en := decide (ty = 3) && s.w4.val.getLsbD (l.moEnable m)
    let q6 := { q5 with enableSince := holdFrom en q5.enableSince now }
    let mon := decide (ty = 4) || (decide (ty = 3) && heldFor q6.enableSince now (l.moStart m * (10 * msTicks)))
    let refOk := decide (l.moRef m ≥ 4) || s.pairValid (l.moRef m)
    let under := decide (ty = 3) && mon && valid && refOk && s.moUnder m
    let q7 := { q6 with underSince := holdFrom under q6.underSince now }
    let q8 := if heldFor q7.underSince now (l.moTlim m * msTicks) then q7.violate 3 else q7
    let q9 := if mon && ! (valid && (decide (ty = 4) || refOk)) then q8.violate 4 else q8
    s.setMotion m { q9 with within := ! fast && ! under && q9.envSince.isNone && valid && ! q9.violated }

/-- An accepted reset edge on a function's reset source (R249). -/
def State.releaseMotions (s : State) (serves : Nat → Bool) : State :=
  ((List.range 4).filter (fun m => decide (s.lotD.moType m ≠ 0) && serves (s.lotD.moReset m))).foldl (fun a m =>
    let q := a.motion m
    if q.violated ∧ ! q.request ∧ (a.moValid m ∨ q.stand) then a.setMotion m { q with violated := false, cause := 0 } else a) s

/-- The lanes of LOCAL selector 0x03 (R92): test-source faults and speed channel faults. -/
def State.sourceFaultLanes (s : State) : Lanes :=
  lanesOf 16 (fun l => if l < 8 then decide ((s.src l).code ≠ 0) else decide ((s.speed (l - 8)).fault ≠ 0))

/-- W2 (R91). -/
def State.w2 (s : State) : Cell :=
  localWord s.inputsOn (lanesOf 44 (fun l =>
    if l < 32 then
      let q := s.motion (l / 8)
      match l % 8 with
      | 0 => q.within
      | 1 => q.stand
      | 2 => q.ramp
      | 3 => q.stopped
      | 4 => q.violated
      | _ => false
    else if l < 40 then s.speedValid (l - 32)
    else (s.spair (l - 40)).fault))

end Sys2Proof.Machine
end

