-- ==== Sys2Proof/Machine/Resets.lean ====
section
/-! DEFINITION. What an accepted reset edge releases (R50, R81, R82, R188, R222, R234, R249, R284, R299). -/

namespace Sys2Proof.Machine

/-- Where an accepted reset edge comes from: a channel, or the trunk bit of the halt-release source (R234, R236). -/
inductive ResetSource where
  | channel (n : Nat)
  | trunk
deriving DecidableEq, Repr

/-- The source is the one that a reset-source code names; 0xFF names the halt-release source. -/
def State.serves (s : State) (src : ResetSource) (code : Nat) : Bool :=
  match src with
  | .channel n => s.lotD.sourceIs code n
  | .trunk => decide (code = 0xFF)

/-- The source is the halt-release source (R81). -/
def State.isHaltSource (s : State) (src : ResetSource) : Bool :=
  match src with
  | .channel n => decide (s.lotD.hrType = 0 ∧ s.lotD.hrChan = n)
  | .trunk => true

/-- Halt release (R82): the causes are cleared and Boot step 6 runs again; from Run, Commissioning, Replay or Parked the module
goes on to its resume state, otherwise to Unconfigured. -/
def State.releaseHalt (s : State) : State :=
  let back : Bool := match s.sup.haltFrom with
    | some .run => true
    | some .commissioning => true
    | some .replay => true
    | some .parked => true
    | _ => false
  let s1 := { s with sup := { s.sup with
    firstCause := none, causes := 0, pend := .none, haltFrom := none, bistRunning := true,
    resumeTo := if back then none else some .unconfigured } }
  (s1.mlog 0x2000 0x05 1 0 0).setMode .boot

/-- The release is armed and has not run out (R81). -/
def State.armedNow (s : State) : Bool :=
  match s.sup.pend with
  | .armed u => decide (s.sup.mode = .safeHalt) && decide (s.clk.real ≤ u)
  | _ => false

/-- W5.3 at the next release of every partition (R91, R234). -/
def State.markEdge (s : State) : State :=
  { s with sle := { s.sle with
      parts := (List.range 16).foldl (fun (t : Tab Part) p => t.upd {} p (fun q => { q with edge := true })) s.sle.parts } }

/-- An accepted reset edge: inputs, speeds, analog pairs, motions and groups whose source it serves; the halt release consumes
it, otherwise it is W5.3 (R82, R141). -/
def State.resetEdge (s : State) (src : ResetSource) : State :=
  let halt := s.isHaltSource src
  let release := halt && s.armedNow
  let s1 := (((s.releaseInputs (s.serves src)).releaseSpeeds (s.serves src)).releaseAnalog (s.serves src)).releaseMotions (s.serves src)
  if release then s1.releaseHalt
  else
    let s2 := ((List.range 2).foldl (fun a g => if a.serves src (a.lotD.gReset g) then a.groupEdge g else a) s1).edgeBoundary
    if halt ∧ s2.released then s2.markEdge else s2

end Sys2Proof.Machine
end

