-- ==== Sys2Proof/Machine/Inputs.lean ====
section
/-! DEFINITION. The commands of SIN: filtered edges, pulses, sources, proof and discrepancy timers, loop-back tests and reset jams
(chapters 08 and 10). -/

namespace Sys2Proof.Machine

/-- SIN evaluates a channel: its bank's domain is ON and the channel is in use under the active lot. -/
def State.bankOn (s : State) (n : Nat) : Bool := s.domOn (if n < 24 then 6 else 7)
def State.chanLive (s : State) (n : Nat) : Bool := s.lotD.chUsed n && s.bankOn n

/-- The source's bank is ON (INA for T0 to T3, INB for T4 to T7). -/
def State.srcLive (s : State) (k : Nat) : Bool := decide (s.lotD.srMode k ≠ 0) && s.domOn (if k < 4 then 6 else 7)

/-- Now is a sample of the inputs and of the sources, on the running time base (R170). -/
def State.atSample (s : State) : Bool := s.clk.running && decide (s.clk.now % 250 = 0)

/-- The filtered state of channel n takes a new level at the sample at tick t; the edge may be captured (R271) and, on a reset source,
be accepted as a reset edge (R234). -/
def State.filtered (s : State) (n t : Nat) (level : Bool) : State :=
  let acc := s.edgeAccepted n t level
  let s1 := (s.chanEdge n t level).captureInput n level
  if acc then s1.resetEdge (.channel n) else s1

/-- m samples of one raw state behind the latest one of channel n (R173): the filter counts those that differ from f, outside the
blanking windows. -/
def State.samples (s : State) (n : Nat) (raw : Bool) (m : Nat) : State :=
  if m = 0 then s
  else
    let c := s.chan n
    let t := c.sampledAt / 250 * 250
    let c1 := { c with raw := raw, sampledAt := t + 250 * m }
    if ! s.lotD.chUsed n then s.setChan n c1
    else if raw = c.f then
      s.setChan n { c1 with count := if (List.range (min m 600)).all (fun i => s.blanked n (t + 250 * (i + 1))) then c.count else 0 }
    else match filterRun (s.blanked n) (20 * s.lotD.chFilter n) m (t + 250) c.count with
      | (k, none) => s.setChan n { c1 with count := k }
      | (_, some u) => (s.setChan n c1).filtered n u raw

/-- A run of samples at one pin voltage. -/
def State.sampleRun (n : Nat) (s : State) (r : Nat × Nat) : State :=
  s.samples n (inputLevel n (s.chan n).raw r.1) r.2

/-- FILTERED_EDGE (R170, R173): the pin of channel n at its latest samples, the last of them now, as runs of equal samples in mV with
their lengths; at earlier samples that it does not name the level has held. Where the filter count reaches N, the filtered state
changes (log entry 20). -/
def execFilteredEdge (n : Fin 48) (run : List (Nat × Nat)) (s : State) : Host.Outcome State Fault Refusal :=
  .next (
    let total := s.clk.now / 250 - (s.chan n).sampledAt / 250
    let given := run.foldl (fun a r => a + r.2) 0
    if s.bankOn n ∧ s.sup.mode ≠ .parked ∧ s.atSample ∧ given ≤ total then
      run.foldl (State.sampleRun n) (s.samples n (s.chan n).raw (total - given))
    else s)

/-- TEST_PULSE (R175): at its slot of a due frame a PULSED source that is on switches off for t_w. A module whose discipline is
not LOCKED and whose role is not Active or Solo keeps its pulsed sources off (R30, R405). -/
def execTestPulse (k : Fin 8) (s : State) : Host.Outcome State Fault Refusal :=
  .next (
    let q := s.src k
    if s.srcLive k ∧ s.srcRuns k ∧ s.clk.running ∧ s.lotD.pulseOf k s.clk.now = some s.clk.now then
      s.setSrc k { q with pulseAt := some s.clk.now, good := if q.code = 0 then q.good else q.good + 1 }
    else s)

/-- A decided pulse of the channel's own source (R180). -/
def State.ownPulse (s : State) (n : Nat) (rawBefore : Bool) (low : Nat) : State :=
  let c := s.chan n
  if c.f && rawBefore then
    if low ≥ 2 then (s.setChan n { c with missed := 0, seen := c.seen + 1 }).autoRelease n
    else
      let s1 := s.setChan n { c with missed := min 2 (c.missed + 1), seen := 0 }
      if c.missed + 1 ≥ 2 then s1.chanFault n 1 else s1
  else s

/-- A decided window of a source that does not feed the channel (R181). -/
def State.foreignPulse (s : State) (n k : Nat) (low : Nat) (inside : Bool) : State :=
  let c := s.chan n
  let hit := c.f && decide (low ≥ 1) && inside
  let bit := BitVec.ofNat 8 (2 ^ k)
  let c1 : Chan := { c with
    foreign := if hit then c.foreign ||| bit else c.foreign &&& ~~~ bit,
    taint := if ! c.f then c.taint else c.taint.set 0 k (if hit then 2 else c.taint.get 0 k - 1) }
  let s1 := s.setChan n c1
  if hit && c.foreign.getLsbD k then s1.chanFault n 2 else s1.autoRelease n

/-- PULSE_DECISION (R180, R181): once for each pulse of source k and channel n, at or after the end of the window. -/
def execPulseDecision (n : Fin 48) (k : Fin 8) (rawBefore : Bool) (lowSamples : Nat) (inside : Bool) (s : State) :
    Host.Outcome State Fault Refusal :=
  .next (
    match (s.src k).pulseAt with
    | none => s
    | some a =>
      let c := s.chan n
      if s.chanLive n ∧ s.atSample ∧ s.lotD.srMode k = 2 ∧ c.judged.get 0 k ≠ a + 1 ∧ s.clk.now ≥ a + s.lotD.window n k then
        let s1 := s.setChan n { c with judged := c.judged.set 0 k (a + 1) }
        if s.lotD.chSource n = some k.val then s1.ownPulse n rawBefore lowSamples
        else if s.lotD.chMode n = 1 ∨ s.lotD.chMode n = 2 then s1.foreignPulse n k lowSamples inside
        else s1
      else s)

/-- A source fault: the source goes off for 1 s, its fault is latched, and the channels it feeds latch code 3 (R178). -/
def State.sourceFails (s : State) (k code : Nat) : State :=
  let q := s.src k
  let s1 := s.setSrc k { q with
    state := .retryWait, code := code, faultAt := s.clk.now, offAt := s.clk.now, good := 0, limitSince := none, lowSince := none, low := false,
    faults := q.faults + 1 }
  (s.lotD.fed k).foldl (fun a n => a.chanFault n 3) (s1.mlog (0x2160 + k) 0x11 2 0 code)

/-- A condition that holds at this sample, or does not: since when it has held. -/
def heldSince (holds : Bool) (since : Option Nat) (now : Nat) : Option Nat := if holds then some (since.getD now) else none

/-- A condition has held for 1 ms (R178). -/
def heldMs (since : Option Nat) (now : Nat) : Bool := match since with
  | some t => decide (now - t ≥ msTicks)
  | none => false

/-- Now lies in source k's own pulse or the blanking windows of its channels; in the last 20 us of the pulse. -/
def State.inOwnWindow (s : State) (k : Nat) : Bool := match (s.src k).pulseAt with
  | some a => decide (s.clk.now < a + (s.lotD.srWidth k + s.lotD.maxRet k) * 500)
  | none => false
def State.pulseTail (s : State) (k : Nat) : Bool := match (s.src k).pulseAt with
  | some a => decide (a + s.lotD.srWidth k * 500 ≤ s.clk.now + 20 * usTicks ∧ s.clk.now < a + s.lotD.srWidth k * 500)
  | none => false

/-- The current at which source k is in current limit, in mA: 110 to 150 (R178). -/
def sourceLimit (k : Nat) : Nat := 110 + (Config.sourceLimit k).toNat % 41

/-- Source k after a sample of its own pin, `ma` and `mv` (R178): in current limit, high from 18 V. Low outside its windows counts from
their end. -/
def State.srcSample (s : State) (k ma mv : Nat) : Src :=
  let q := s.src k
  let lim := decide (ma ≥ 150) || (decide (ma ≥ 110) && decide (ma ≥ sourceLimit k))
  let from_ := match q.pulseAt with
    | some a => a + (s.lotD.srWidth k + s.lotD.maxRet k) * 500
    | none => 0
  { q with
    limitSince := heldSince lim q.limitSince s.clk.now,
    lowSince := if s.inOwnWindow k then q.lowSince
      else (heldSince (! lim && decide (mv < 18000)) q.lowSince s.clk.now).map (max from_),
    low := decide (mv < 18000) }

/-- The fault that a sample of source k decides: 1 overcurrent, 2 stuck high, 3 stuck low (R178). -/
def State.srcVerdict (s : State) (k mv : Nat) (q : Src) : Nat :=
  if heldMs q.limitSince s.clk.now then 1
  else if s.pulseTail k && decide (mv > 5000) then 2
  else if ! s.inOwnWindow k && heldMs q.lowSince s.clk.now then 3
  else 0

/-- SOURCE_FAULT (R178): a sample of the source's own pin; where it decides a fault, that is latched, the source off, its channels at
code 3; retried after 1 s. -/
def execSourceFault (k : Fin 8) (ma mv : Nat) (s : State) : Host.Outcome State Fault Refusal :=
  .next (
    if s.srcLive k ∧ s.srcRuns k ∧ s.atSample then
      let q := s.srcSample k ma mv
      let code := s.srcVerdict k mv q
      if code = 0 then s.setSrc k q else (s.setSrc k q).sourceFails k code
    else s)

/-- SOURCE_RETRY (R178): 1 s after the fault the source is switched on again, its fault still latched. -/
def execSourceRetry (k : Fin 8) (s : State) : Host.Outcome State Fault Refusal :=
  .next (
    let q := s.src k
    if s.srcLive k ∧ q.state = .retryWait ∧ s.clk.now - q.faultAt ≥ sTicks then
      s.setSrc k { q with state := .fault, onAt := s.clk.now, good := 0 }
    else s)

/-- A source that runs again has shown that it is sound (R178): STEADY for 100 ms, PULSED with the end of its fourth pulse. -/
def State.srcProven (s : State) (k : Nat) : Bool :=
  let q := s.src k
  if s.lotD.srMode k = 1 then decide (s.clk.now - q.onAt ≥ 100 * msTicks)
  else decide (q.good > 4) || (decide (q.good = 4) && (match q.pulseAt with
    | some a => decide (s.clk.now ≥ a + s.lotD.srWidth k * 500)
    | none => false))

/-- SOURCE_FAULT_CLEAR (R178): the source has run without a fault since its retry. -/
def execSourceFaultClear (k : Fin 8) (s : State) : Host.Outcome State Fault Refusal :=
  .next (if s.srcLive k ∧ (s.src k).state = .fault ∧ s.srcProven k then s.srcClear k else s)

/-- PROOF_TIMEOUT (R183): an OSSD channel whose f stayed 1 until the proof timer reached its interval. -/
def execProofTimeout (n : Fin 48) (s : State) : Host.Outcome State Fault Refusal :=
  .next (
    let c := s.chan n
    if s.chanLive n ∧ s.atSample ∧ s.lotD.chMode n = 3 ∧ s.lotD.chProof n ≠ 0 ∧ c.f ∧ s.clk.now - c.proofFrom ≥ s.lotD.chProof n * sTicks then
      s.chanFault n 4
    else s)

/-- SENSOR_PULSE (R183): a low run of at least two samples that ends before f falls restarts the proof timer. -/
def execSensorPulse (n : Fin 48) (lowSamples : Nat) (s : State) : Host.Outcome State Fault Refusal :=
  .next (
    let c := s.chan n
    if s.chanLive n ∧ s.clk.running ∧ s.lotD.chMode n = 3 ∧ c.f ∧ 2 ≤ lowSamples ∧ lowSamples < 20 * s.lotD.chFilter n then
      (s.setChan n { c with proofFrom := s.clk.now, sensorSeen := true }).autoRelease n
    else s)

/-- DISCREPANCY_TIMEOUT (R185): the elapsed time in CLOSING or OPENING has reached T_disc. -/
def execDiscrepancyTimeout (p : Fin 24) (s : State) : Host.Outcome State Fault Refusal :=
  .next (
    let q := s.inPair p
    if s.inputsOn ∧ s.atSample ∧ (q.state = .closing ∨ q.state = .opening) ∧ s.clk.now - q.t0 ≥ s.lotD.prDisc p * msTicks then
      s.pairEval p s.clk.now
    else s)

/-- CHATTER_CLEAR (R186, R189): f has not changed for 1 s; a reset channel is released at once, every other channel at its
reset edge (R188). -/
def execChatterClear (n : Fin 48) (s : State) : Host.Outcome State Fault Refusal :=
  .next (if s.chanLive n ∧ (s.chan n).chatter ∧ s.chatterCleared n then s.autoRelease n else s)

/-- 100 ms have passed since the last loop-back test (R190). -/
def State.loopDue (s : State) : Bool := match s.sin.loopAt with
  | some t => decide (s.clk.now ≥ t + 100 * msTicks)
  | none => true

/-- LOOP_BACK_TEST (R190): every 100 ms the next channel in turn, outside its blanking windows; a failure gives code 5. A channel
whose bank is off is passed over. The test of I47 ends a sweep of test 4. -/
def execLoopBackTest (ok : Bool) (s : State) : Host.Outcome State Fault Refusal :=
  .next (
    let n := s.sin.nextLoop
    if (s.domOn 6 ∨ s.domOn 7) ∧ s.clk.running ∧ s.loopDue ∧ ! s.blanked n s.clk.now then
      let s0 : State := { s with sin := { s.sin with nextLoop := (n + 1) % 48, loopAt := some s.clk.now } }
      if ! s.bankOn n then s0
      else
      let s2 := s0.setChan n { s0.chan n with loop := if ok then 0 else 1 }
      let s3 := if ok then s2.autoRelease n else s2.chanFault n 5
      s3.loopPart ok 0 (decide (n = 47))
    else s)

/-- RESET_JAM (R235, R236): still 1 at a sample more than 3 s after the rising edge, or in a record whose stamp lies so far behind
that of the rising one. -/
def execResetJam (src : JamSource) (s : State) : Host.Outcome State Fault Refusal :=
  .next (
    match src with
    | .channel n =>
      let c := s.chan n
      match c.rise with
      | some t =>
        if s.lotD.judged n ∧ s.delivered n ∧ ! c.jam ∧ s.clk.now % 250 = 0 ∧ s.clk.now - t > 150000000 then
          (s.setChan n { c with jam := true }).mlog 0x2000 0x1E 1 0 (2 ^ n.val)
        else s
      | none => s
    | .trunk =>
      match s.sin.trunk.rise with
      | some t =>
        if s.lotD.hrType = 1 ∧ ! s.sin.trunk.jam ∧ s.sin.trunk.last - t > 150000000 then
          ({ s with sin := { s.sin with trunk := { s.sin.trunk with jam := true } } } : State).mlog 0x2000 0x1E 1 0 (2 ^ 63)
        else s
      | none => s)

end Sys2Proof.Machine
end

