-- ==== Sys2Proof/Machine/Outputs.lean ====
section
/-! DEFINITION. The commands of SOUT: closing checks, group and dark tests, readback, faults and retries (chapter 09), and the LF
monitors (chapter 02). -/

namespace Sys2Proof.Machine

/-- A pair-parallel output on a module that is not Active or Solo (R209, R218, R227). -/
def State.passive (s : State) (n : Nat) : Bool := s.lotD.oPairPar n && ! decide (s.cplRole = .solo ∨ s.cplRole = .active)

/-- The outputs of the group that fail a closing check: not low at two samples, SAFETY or UNUSED, not passive (R209). -/
def State.closingBad (s : State) (g : Nat) (notLow : BitVec 16) : List Nat :=
  (grpOuts g).filter (fun n => notLow.getLsbD n && decide (s.lotD.oMode n ≠ 2) && ! s.passive n)

/-- CLOSING_CHECK_END (R209): not-low outputs latch code 1, a rail not closed gives group fault 2, else the group is CLOSED and
its outputs follow W8. -/
def State.closingEnd (s : State) (g : Nat) (notLow : BitVec 16) (railClosed : Bool) : State :=
  let bad := s.closingBad g notLow
  if ! bad.isEmpty then (bad.foldl (fun a n => a.outFault n 1) s).outRefresh s.cplRole
  else if ! railClosed then (s.groupFault g 2).outRefresh s.cplRole
  else (s.setGrp g { s.grp g with state := .closed, closeAt := s.clk.now }).outRefresh s.cplRole

/-- The closing of a switch at tick `a` has its result now: two samples for an output that reads not low, 1 ms for a rail that has not
read closed, 10 ms for a check that passes (R209). -/
def State.checkDue (s : State) (a g : Nat) (notLow : BitVec 16) (railClosed : Bool) : Bool :=
  decide (s.clk.now ≥ a + (if ! (s.closingBad g notLow).isEmpty then 250 else if railClosed then 10 * msTicks else msTicks))

def execClosingCheckEnd (g : Fin 2) (notLow : BitVec 16) (railClosed : Bool) (s : State) : Host.Outcome State Fault Refusal :=
  .next (
    if s.domOn 8 ∧ (s.grp g).state = .closing ∧ s.checkDue (s.grp g).closeAt g notLow railClosed then s.closingEnd g notLow railClosed
    else s)

/-- Tests run in Commissioning and Run with drive present, one at a time (R210, R224). -/
def State.testsRun (s : State) : Bool := s.mayClose && s.sout.test.isNone

/-- The outputs that read not low now. -/
def State.notLowMask (s : State) : BitVec 16 :=
  (List.range 16).foldl (fun (a : BitVec 16) n => if (s.out n).pinLow then a else a ||| BitVec.ofNat 16 (2 ^ n)) 0

/-- The outputs whose switch is on now. -/
def State.onMask (s : State) : BitVec 16 :=
  (List.range 16).foldl (fun (a : BitVec 16) n => if s.switchOn s.cplRole n then a ||| BitVec.ofNat 16 (2 ^ n) else a) 0

/-- GROUP_TEST (R210, R212, R223): a CLOSED group opens for t_g in its due slot; a cut-off group's test is skipped. -/
def execGroupTest (g : Fin 2) (s : State) : Host.Outcome State Fault Refusal :=
  .next (
    let v := s.grp g
    if s.slotStart (.group g) ∧ s.testsRun then
      match v.state with
      | .closed => { s with sout := { s.sout with
          test := some { of := .group g, start := s.clk.now, notLow := s.notLowMask, wasOn := s.onMask } } }
      | .cutOff => s.setGrp g { v with lastTest := 2 }
      | _ => s
    else s)

/-- The outputs that a pulse of source outputs `src` has bled onto (R218). -/
def State.bledOnto (s : State) (t : TestPulse) (src : List Nat) (bled : BitVec 16) : List Nat :=
  (List.range 16).filter (fun k =>
    bled.getLsbD k && t.notLow.getLsbD k && ! t.moved.getLsbD k && ! src.contains k && decide (s.lotD.oMode k ≠ 2) && ! s.passive k
    && ! (match s.lotD.outSource k with
      | some u => s.inSlot u
      | none => false))

/-- Latch code 4 with the outputs concerned as peers. -/
def State.bleedFault (s : State) (outs : List Nat) : State :=
  let mask := outs.foldl (fun (a : BitVec 16) n => a ||| BitVec.ofNat 16 (2 ^ n)) 0
  outs.foldl (fun a n =>
    let b := a.outFault n 4
    if (b.out n).code = 4 then b.setOut n { b.out n with peers := (b.out n).peers ||| mask } else b) s

/-- The recovery and settle times of R216 count from the end of the group's test. -/
def State.groupSettles (s : State) (g : Nat) : State :=
  let s1 := s.setGrp g { s.grp g with testEnd := s.clk.now }
  (grpOuts g).foldl (fun a n => if (a.out n).sw then a.setOut n { a.out n with onAt := a.clk.now } else a) s1

/-- The end of the running group test: not seen is group fault 1; outputs that were on as it began and read not low throughout latch code
2; a bleed latches code 4 on the watched output and opens both groups (R210, R218). -/
def State.groupTestEnd (s : State) (g : Nat) (t : TestPulse) (railSeen : Bool) (notLow bled : BitVec 16) : State :=
  let s0 := { s with sout := { s.sout with test := none } }
  let s1 := s0.setGrp g { s0.grp g with lastTest := if railSeen then 0 else 1 }
  let on := (grpOuts g).filter (fun n => t.wasOn.getLsbD n && notLow.getLsbD n)
  let s2 := if railSeen then s1 else s1.groupFault g 1
  let s3 := on.foldl (fun a n => a.outFault n 2) s2
  let ks := s0.bledOnto t (grpOuts g) bled
  let s4 := s3.bleedFault ks
  let s5 := (if ks.isEmpty then s4 else s4.groupFault g 4).groupSettles g
  s5.outRefresh s5.cplRole

def execGroupTestDecision (g : Fin 2) (railSeen : Bool) (notLow bled : BitVec 16) (s : State) : Host.Outcome State Fault Refusal :=
  .next (
    match s.sout.test with
    | some t =>
      if t.of = .group g ∧ s.clk.now ≥ t.start + s.lotD.testWidth (.group g) * usTicks then s.groupTestEnd g t railSeen notLow bled else s
    | none => s)

/-- An output is tested in its slot only if its switch is on and it has read high since its last on-settle (R211, R217). -/
def State.testable (s : State) (n : Nat) : Bool :=
  let o := s.out n
  s.switchOn s.cplRole n && decide (s.clk.now ≥ o.onAt + s.lotD.oRec n * 500) && (match o.highSince with
    | some t => decide (t ≤ o.onAt + s.lotD.oRec n * 500)
    | none => false)

/-- DARK_TEST (R211, R212, R223): the output switches of the source open for t_w in the due slot, their discharge sinks on. Skipped
while the group is cut off. -/
def execDarkTest (src : DarkSource) (s : State) : Host.Outcome State Fault Refusal :=
  .next (
    let outs := s.lotD.darkOuts src
    if s.slotStart (.dark src) ∧ s.testsRun ∧ ! outs.isEmpty then
      if outs.all s.testable then
        let s1 := { s with sout := { s.sout with test := some { of := .dark src, start := s.clk.now, notLow := s.notLowMask } } }
        s1.outRefresh s1.cplRole
      else if (s.grp (outGrp (outs.headD 0))).state = .cutOff then
        outs.foldl (fun a n => a.setOut n { a.out n with lastTest := 2 }) s
      else s
    else s)

/-- The end of the running dark pulse: seen or code 2 for each output of the source; a seen pulse whose urgent reading is 6.5 V or
more is code 7; a bleed latches code 4 on the watched output and on every output of the source (R211, R218). -/
def State.darkEnd (s : State) (src : DarkSource) (t : TestPulse) (seen bled : BitVec 16) : State :=
  let outs := s.lotD.darkOuts src
  let s0 := { s with sout := { s.sout with test := none } }
  let s1 := outs.foldl (fun a n =>
    let o := a.out n
    a.setOut n { o with lastTest := if seen.getLsbD n then 0 else 1, lastTestAt := s.clk.now,
                        seen := if seen.getLsbD n then o.seen + 1 else o.seen }) s0
  let s2 := s1.outRefresh s1.cplRole
  let s3 := outs.foldl (fun a n =>
    if ! seen.getLsbD n then a.outFault n 2
    else if t.urgent.any (fun r => decide (r.1 = n ∧ r.2 ≥ 6500)) then a.outFault n 7 else a) s2
  let ks := s0.bledOnto t outs bled
  let s4 := if ks.isEmpty then s3 else s3.bleedFault (ks ++ outs)
  s4.outRefresh s4.cplRole

def execDarkTestDecision (src : DarkSource) (seen bled : BitVec 16) (s : State) : Host.Outcome State Fault Refusal :=
  .next (
    match s.sout.test with
    | some t =>
      if t.of = .dark src ∧ s.clk.now ≥ t.start + s.lotD.testWidth (.dark src) * usTicks then s.darkEnd src t seen bled else s
    | none => s)

/-- 20 samples in a row: the first at or after tick `a` and behind tick `b`, the last now (R216). -/
def State.twenty (s : State) (a b : Nat) : Bool := decide (s.clk.now ≥ a + 19 * 250 ∧ s.clk.now > b + 19 * 250)

/-- Code 1 is due (R216, R223): the switch off, the pin not low at 20 samples outside t_os, the own pulse and the group's test. -/
def State.notLowDue (s : State) (n : Nat) : Bool :=
  let o := s.out n
  let settle := if s.lotD.oMode n = 0 then 100 * usTicks else s.lotD.oSettle n * 500
  s.domOn 8 && decide (s.lotD.oMode n ≠ 2) && ! s.switchOn s.cplRole n && ! s.inPulse n && ! s.inGroupTest (outGrp n) && ! s.passive n
  && ! o.pinLow && s.twenty o.notLowSince (max (o.offAt + settle) (s.grp (outGrp n)).testEnd)

/-- Code 3 may be raised (R216, R223): the switch on past t_rec, outside the tests, the rail closed and no LF warning. -/
def State.codeThree (s : State) (n : Nat) : Bool :=
  let v := s.grp (outGrp n)
  s.domOn 8 && s.lotD.oSafety n && s.switchOn s.cplRole n && ! s.inGroupTest (outGrp n) && v.railClosed && ! v.warn
  && decide (s.clk.now > (s.out n).onAt + s.lotD.oRec n * 500)

/-- READBACK_FAULT (R216, R223): code 1 on an output whose switch is off; code 3 on one whose switch is on, for 20 samples that are not
high or 10 ms in current limit. -/
def execReadbackFault (n : Fin 16) (code : ReadbackCode) (s : State) : Host.Outcome State Fault Refusal :=
  .next (
    let o := s.out n
    match code with
    | .notLow => if s.notLowDue n then (s.outFault n 1).outRefresh s.cplRole else s
    | .notHigh =>
      if s.codeThree n ∧ ! o.pinHigh ∧ s.twenty o.notHighSince (o.onAt + s.lotD.oRec n * 500) then (s.outFault n 3).outRefresh s.cplRole
      else s
    | .currentLimit => if s.codeThree n ∧ s.clk.now ≥ o.onAt + 10 * msTicks then (s.outFault n 3).outRefresh s.cplRole else s)

/-- PARALLEL_MISMATCH (R215): members that are on differ for 20 samples, from the first to the last outside their slot; all latch
code 5. -/
def execParallelMismatch (g : Fin 4) (s : State) : Host.Outcome State Fault Refusal :=
  .next (
    let ms := s.lotD.parMembers (g.val + 1)
    if s.domOn 8 ∧ s.unlikeLong (g.val + 1) ∧ ms.any (fun n => s.switchOn s.cplRole n)
        ∧ ! s.inSlot (.dark (.parallel g)) ∧ ! s.lotD.slotAt (.dark (.parallel g)) (s.clk.now - 19 * 250) then
      (ms.foldl (fun a n => a.outFault n 5) s).outRefresh s.cplRole
    else s)

/-- The switch has been on and settled for 100 ms, its own dark pulses apart, so the current can have stayed below the threshold for as
long (R219; log entry 20). -/
def State.onLong (s : State) (n : Nat) : Bool :=
  match (s.out n).onSince with
  | some t => decide (s.clk.now ≥ t + s.lotD.oRec n * 500 + 100 * msTicks)
  | none => false

/-- OPEN_LOAD (R219): the open-load flag is set and the output is on and past its on-settle, for 100 ms. -/
def execOpenLoad (n : Fin 16) (s : State) : Host.Outcome State Fault Refusal :=
  .next (
    if s.domOn 8 ∧ s.lotD.oOpenLoad n ∧ s.switchOn s.cplRole n ∧ s.clk.now ≥ (s.out n).onAt + s.lotD.oRec n * 500 ∧ s.onLong n then
      (s.outFault n 6).outRefresh s.cplRole
    else s)

/-- DRIVER_OVERTEMPERATURE (R220): above 150 degC the output switches off with code 8; not in Safe Halt and Replay, where SOUT raises
codes 1 and 7 alone (R224). -/
def execDriverOvertemperature (n : Fin 16) (s : State) : Host.Outcome State Fault Refusal :=
  .next (
    if s.domOn 8 ∧ s.lotD.oSafety n ∧ s.sup.mode ≠ .safeHalt ∧ s.sup.mode ≠ .replay then (s.outFault n 8).outRefresh s.cplRole else s)

/-- GROUP_OVERCURRENT (R220): group fault 3 opens a group whose switch is closed. -/
def execGroupOvercurrent (g : Fin 2) (s : State) : Host.Outcome State Fault Refusal :=
  .next (if s.domOn 8 ∧ s.groupClosed g then (s.groupFault g 3).outRefresh s.cplRole else s)

/-- GROUP_OPEN_RETRY (R221): the result of the retry of group fault 1, behind its pulse and before its slot ends. The retries go on while
the fault stands latched, also behind one that has passed, and the latest decides whether it has cleared (DESIGN CHOICE, log entry 74:
the rule does not say when they end). -/
def execGroupOpenRetry (g : Fin 2) (railSeen : Bool) (s : State) : Host.Outcome State Fault Refusal :=
  .next (
    match s.openRetryAt g with
    | some (a, len) =>
      if s.mayClose ∧ a + s.lotD.testWidth (.group g) * usTicks ≤ s.clk.now ∧ s.clk.now ≤ a + len then
        s.setGrp g { s.grp g with
          cleared := railSeen, triedAt := s.clk.now, openAt := max (s.grp g).openAt (a + s.lotD.testWidth (.group g) * usTicks) }
      else s
    | none => s)

/-- GROUP_CLOSE_RETRY (R221): the result of the retry closing check of group fault 2, under the conditions of R209. -/
def execGroupCloseRetry (g : Fin 2) (notLow : BitVec 16) (railClosed : Bool) (s : State) : Host.Outcome State Fault Refusal :=
  .next (
    match s.closeRetryAt g with
    | some a =>
      if s.mayClose ∧ s.checkDue a g notLow railClosed then
        let bad := s.closingBad g notLow
        bad.foldl (fun b n => b.outFault n 1) (s.setGrp g { s.grp g with
          cleared := bad.isEmpty && railClosed, triedAt := s.clk.now, openAt := min s.clk.now (a + 10 * msTicks) })
      else s
    | none => s)

/-- When the switch opened last: a retry closing that has had no result yet opens again behind its 10 ms (R221). -/
def State.openedAt (s : State) (g : Nat) : Nat :=
  match s.closeRetryAt g with
  | some a => max (s.grp g).openAt (a + 10 * msTicks)
  | none => (s.grp g).openAt

/-- RAIL_READBACK_FAULT (R221): a rail that does not read open after an opening is group fault 1; one not closed while CLOSED
outside a test is group fault 2. -/
def execRailReadbackFault (g : Fin 2) (s : State) : Host.Outcome State Fault Refusal :=
  .next (
    let v := s.grp g
    if ! s.domOn 8 ∨ v.state = .unused then s
    else if v.state = .closed then
      (if ! v.railClosed && s.groupClosed g && s.twenty v.notClosedSince (max v.closeAt v.testEnd) then (s.groupFault g 2).outRefresh s.cplRole else s)
    else if v.state ≠ .closing ∧ ! v.railOpen ∧ ! s.groupClosed g ∧ s.clk.now ≥ s.openedAt g + 200 * usTicks ∧ v.code ≠ 1 then
      (s.groupFault g 1).outRefresh s.cplRole
    else s)

/-- HELD_ON_COMMAND_APPLY (R214): the output's own slot has ended. -/
def execHeldOnCommandApply (n : Fin 16) (s : State) : Host.Outcome State Fault Refusal :=
  .next (
    let o := s.out n
    let inOwn := match s.lotD.outSource n with
      | some t => s.inSlot t
      | none => false
    if o.held ∧ ! inOwn then (s.setOut n { o with held := false }).outRefresh s.cplRole else s)

/-- The decisions of a comparator of R202 at `mv`: recognised at the `always` voltage, never at the `never` one. -/
def risesAt (k at_ : Nat) (mv always never : Int) : Bool := decide (mv ≥ always) || (decide (mv > never) && Config.outputComparator k at_)
def fallsAt (k at_ : Nat) (mv : Int) : Bool := decide (mv ≤ 4000) || (decide (mv < 6000) && Config.outputComparator k at_)

/-- Pin high and rail closed at `mv` under an LF of `lf`, both conditions together (Table: Readback decisions). -/
def pinHighAt (k at_ mv lf : Nat) : Bool :=
  risesAt k at_ mv (max ((lf : Int) - 1800) 9200) (max ((lf : Int) - 2200) 8800)
def railClosedAt (k at_ mv lf : Nat) : Bool :=
  risesAt k at_ mv (max ((lf : Int) - 800) 9200) (max ((lf : Int) - 1200) 8800)

/-- The decisions for output n at a sample. -/
def Out.sampled (o : Out) (now filter : Nat) (h l : Bool) : Out :=
  { o.filterStep filter now h with
    pinHigh := h, pinLow := l,
    highSince := if h then some (o.highSince.getD now) else none,
    lowSince := if l then some (o.lowSince.getD now) else none,
    notLowSince := if o.pinLow && ! l then now else o.notLowSince,
    notHighSince := if o.pinHigh && ! h then now else o.notHighSince }

/-- READBACK_CHANGE (R202): the pin, rail and LF voltages of a sample in mV; the comparators decide, and W4 lands what they decide. -/
def execReadbackChange (pins rails lf : List Nat) (s : State) : Host.Outcome State Fault Refusal :=
  .next (
    if s.domOn 8 ∧ s.clk.running ∧ s.clk.now % 250 = 0 then
      let t := s.clk.now
      let s1 := (List.range 16).foldl (fun a n =>
        let mv := pins.getD n 0
        a.setOut n ((a.out n).sampled t (20 * a.lotD.oFilter n) (pinHighAt n s.clk.real mv (lf.getD (outGrp n) 0)) (fallsAt (16 + n) s.clk.real mv))) s
      let s2 := (List.range 2).foldl (fun a g =>
        let mv := rails.getD g 0
        let v := a.grp g
        let c := railClosedAt (32 + g) s.clk.real mv (lf.getD g 0)
        a.setGrp g { v with railClosed := c, railOpen := fallsAt (34 + g) s.clk.real mv,
                            notClosedSince := if v.railClosed && ! c then t else v.notClosedSince }) s1
      let same (j : Nat) : Bool :=
        let ms := s.lotD.parMembers j
        ms.all (fun n => (s2.out n).pinHigh) || ms.all (fun n => ! (s2.out n).pinHigh)
      let since (on : Nat → Bool) (t0 : Tab (Option Nat)) : Tab (Option Nat) := (List.range 5).foldl (fun (u : Tab (Option Nat)) j =>
        if j = 0 then u else u.set none j (if on j then some ((u.get none j).getD t) else none)) t0
      { s2 with sout := { s2.sout with alike := since same s2.sout.alike, unlike := since (fun j => ! same j) s2.sout.unlike } }
    else s)

/-! ### The LF monitors (R48 to R51): each command is a sample of the monitor that the event is recognised at -/

/-- LF_WARNING (R48): a sample of LF of group g in mV. -/
def execLfWarning (g : Fin 2) (mv : Nat) (s : State) : Host.Outcome State Fault Refusal := .next (s.lfSample g mv s.cplRole)

/-- LF_CUT_OFF (R48, R49): the sample at which a sag, a collapse or an overvoltage qualifies. -/
def execLfCutOff (g : Fin 2) (mv : Nat) (s : State) : Host.Outcome State Fault Refusal := .next (s.lfSample g mv s.cplRole)

/-- LF_GOOD_QUALIFIED (R48, R50): the sample at which Good has held for 100 ms since it began, or since the entry to Commissioning or
Run; the warning clears. -/
def execLfGoodQualified (g : Fin 2) (mv : Nat) (s : State) : Host.Outcome State Fault Refusal := .next (s.lfSample g mv s.cplRole)

end Sys2Proof.Machine
end

