-- ==== Sys2Proof/Machine/Timing.lean ====
section
/-! DEFINITION. The commands of TMU: compare and capture channels, speed inputs and motion functions (chapters 10 and 11). The sync
symbols stand in Cascade.lean and the swatch in Swatch.lean. -/

namespace Sys2Proof.Machine

/-- A condition under which a step of the table takes place; where it does not hold nothing happens (log entry 4). -/
def when (c : Bool) (s t : State) : Host.Outcome State Fault Refusal := .next (if c then t else s)

/-- Only the host's own channels take its writes (R264). -/
def State.chHost (s : State) (c : Nat) : Bool := decide (s.lotD.chOwner c = 3)

/-- The command object 0x2400+c:0A (R289): the state after it, with its answer. -/
def State.chCommand (s : State) (c code : Nat) : State :=
  let t := s.tc c
  if ! s.chHost c then s.refuse 0x0F000301
  else match code with
    | 1 => if t.mode = 0 then s.refuse 0x0F000304 else (s.tmuArm c id).done
    | 2 => let s1 := s.tmuDue
           (s1.setTc c (s1.tc c).disarm).done
    | 3 => let s1 := s.tmuDue
           (s1.setTc c (s1.tc c).clear).done
    | 4 =>
      let s1 := s.tmuDue
      let u := s1.tc c
      if u.mode = 3 ∧ u.armed ∧ u.source / 256 = 4 then (s1.tmuPut c (u.capture s1.clk.now, some s1.clk.now)).done else s1.done
    | _ => s.refuse 0x06090030

/-- A write of the target (R266, R289). -/
def State.chTarget (s : State) (c v : Nat) : State :=
  if ! s.chHost c then s.refuse 0x0F000301
  else if (s.tc c).mode ≠ 1 then s.refuse 0x0F000304
  else (s.tmuArm c (fun t => { t with target := v })).done

/-- A write of the period (R266, R289). -/
def State.chPeriod (s : State) (c v : Nat) : State :=
  if ! s.chHost c then s.refuse 0x0F000301
  else if (s.tc c).mode ≠ 2 then s.refuse 0x0F000304
  else if v = 0 then s.refuse 0x06090032
  else (s.tmuArm c (fun t => { t with period := v })).done

/-- A STOP-class write: mode, link mode, master, capture source, capture edge (R289), after this tick's events (R270). -/
def State.chSetup (s : State) (c sub v : Nat) : State :=
  let s1 := s.tmuDue
  let t := s1.tc c
  if ! s.chHost c then s.refuse 0x0F000301
  else if t.armed then s1.refuse 0x08000022
  else
    (s1.setTc c (match sub with
      | 2 => { t with mode := v, everFired := false }
      | 3 => { t with link := v }
      | 4 => { t with master := v }
      | 7 => { t with source := v }
      | _ => { t with edge := v })).done

/-- COMPARE_EVENT (R266 to R270): the target of channel c has come; TMU processes this tick's events. -/
def execCompareEvent (c : Fin 256) (s : State) : Host.Outcome State Fault Refusal :=
  when (s.clk.running && (s.tc c).due s.clk.now) s s.tmuDue

/-- ARM (R266, R289). -/
def execArm (c : Fin 256) (s : State) : Host.Outcome State Fault Refusal := when s.clk.running s (s.chCommand c 1)

/-- DISARM (R270, R289). -/
def execDisarm (c : Fin 256) (s : State) : Host.Outcome State Fault Refusal := when s.clk.running s (s.chCommand c 2)

/-- CLEAR FLAGS (R271, R289). -/
def execClearFlags (c : Fin 256) (s : State) : Host.Outcome State Fault Refusal := when s.clk.running s (s.chCommand c 3)

/-- SOFTWARE CAPTURE (R271). -/
def execSoftwareCapture (c : Fin 256) (s : State) : Host.Outcome State Fault Refusal := when s.clk.running s (s.chCommand c 4)

/-- TARGET_WRITE (R266, R267, R289). -/
def execTargetWrite (c : Fin 256) (target : BitVec 64) (s : State) : Host.Outcome State Fault Refusal :=
  when s.clk.running s (s.chTarget c target.toNat)

/-- PERIOD_WRITE (R266, R289). -/
def execPeriodWrite (c : Fin 256) (period : BitVec 32) (s : State) : Host.Outcome State Fault Refusal :=
  when s.clk.running s (s.chPeriod c period.toNat)

/-- CAPTURE_VALUE_READ (R272): `meets` is the value that a capture of the channel brings on the same handshake. Only a CAPTURE
channel has a NEW flag and a hold register; of any other the value is the event stamp. In Parked the host port serves no read, and while
the time base stands there is no live value (R262, R330, R333). -/
def execCaptureValueRead (c : Fin 256) (meets : Option (BitVec 64)) (s : State) : Host.Outcome State Fault Refusal :=
  .next (
    let t := s.tc c
    let s1 := s.answer (.data (leBytes 8 t.readValue))
    if ! s.domOn 3 ∨ s.sup.mode = .parked then s
    else if ! s.clk.running then s.refuse 0x06060000
    else if t.mode = 3 then
      match meets with
      | some v =>
        if t.armed ∧ ! s.recordedChan c then s1.tmuPut c (t.captureAtRead v.toNat, some v.toNat) else s1.setTc c t.afterRead
      | none => s1.setTc c t.afterRead
    else s1)

/-- SPEED_EDGE (R280, R281): a raw level of Sn that has held for `heldNs`; less than t_pw is a rejected pulse. A measured edge
forms the complete period and is the capture source of type 2. -/
def execSpeedEdge (n : Fin 8) (level : Bool) (stamp : Nat) (heldNs : Nat) (s : State) : Host.Outcome State Fault Refusal :=
  .next (
    if s.lotD.spUsed n ∧ s.speedOn n ∧ s.clk.running then
      let c := s.speed n
      if heldNs < 500 * s.lotD.spWidth n then
        let rej := (c.rejTimes ++ [s.clk.now]).filter (fun t => decide (s.clk.now - t ≤ msTicks))
        let s1 := s.setSpeed n { c with rejected := c.rejected + 1, rejTimes := rej }
        if rej.length > 8 then s1.speedFault n 1 else s1
      else
        let c1 := { c with validSince := some (c.validSince.getD s.clk.now), level := level }
        if level ≠ c.level ∧ level = decide (s.lotD.spEdge n = 0) then
          let st := (stamp :: c.stamps).take 65
          let p := periodOf (s.lotD.spAvg n * 5000) st
          (s.setSpeed n { c1 with stamps := st, m := p.1, span := p.2, edges := c.edges + 1 }).tmuCapture
            (fun t => t.takes 2 n level) stamp
        else s.setSpeed n c1
    else s)

/-- MOTION_UPDATE (R281, R283, R245): the 10 us update of the estimates, the pairs, the functions and with them W2, at the
multiples of 500 ticks. -/
def execMotionUpdate (s : State) : Host.Outcome State Fault Refusal :=
  when (s.clk.running && decide (s.clk.now % 500 = 0)) s
    ((List.range 4).foldl State.motionStep ((List.range 4).foldl State.pairUpdate ((List.range 8).foldl State.speedUpdate s)))

/-- The condition of a speed channel fault holds (R282): its estimate or its rejected pulses, or a pin neither high nor low for
`ns`, 1 ms or more. -/
def State.speedBad (s : State) (n : Nat) (fault : SpeedFault) : Bool :=
  match fault with
  | .overRange => (s.speed n).overRange s.clk.now
  | .indeterminate ns => decide (ns ≥ 1000000)

/-- SPEED_CHANNEL_FAULT (R282), codes 1 and 2; none in Parked, where the inputs are off (R287). -/
def execSpeedChannelFault (n : Fin 8) (fault : SpeedFault) (s : State) : Host.Outcome State Fault Refusal :=
  when (s.clk.running && s.lotD.spUsed n && s.speedOn n && s.speedBad n fault) s
    (s.speedFault n (match fault with
      | .overRange => 1
      | .indeterminate _ => 2))

/-- 125 ms have passed since the last loop-back test of a speed channel (R282). -/
def State.speedLoopDue (s : State) : Bool := match s.tmu.loopAt with
  | some t => decide (s.clk.now ≥ t + 125 * msTicks)
  | none => true

/-- SPEED_LOOP_BACK (R282, R430): every 125 ms the next speed channel in turn; a failure is code 3. A channel whose bank is off is passed
over. -/
def execSpeedLoopBack (ok : Bool) (s : State) : Host.Outcome State Fault Refusal :=
  .next (
    let n := s.tmu.nextLoop
    if s.clk.running ∧ (s.domOn 6 ∨ s.domOn 7) ∧ s.speedLoopDue then
      let s0 : State := { s with tmu := { s.tmu with nextLoop := (n + 1) % 8, loopAt := some s.clk.now } }
      if ! s.speedOn n then s0
      else
      let s1 := s0.setSpeed n { s0.speed n with loop := if ok then 0 else 1 }
      let s3 := s1.loopPart ok 1 (decide (n = 7))
      if ok ∨ ! s.lotD.spUsed n then s3 else s3.speedFault n 3
    else s)

end Sys2Proof.Machine
end

