-- ==== Sys2Proof/Machine/Bist.lean ====
section
/-! DEFINITION. The commands of BIST, OTP and the check-value units (chapters 17 and 18). -/

namespace Sys2Proof.Machine

/-! ### Slices (R160, R428 to R434) -/

/-- The test of each rotation position (R429). -/
def rotation : List Nat := [0, 1, 0, 2, 0, 1, 0, 3, 0, 1, 0, 2, 0, 1, 0, 0, 0, 0]

/-- Slices of one sweep of tests 0 to 3 (R430, R434). -/
def State.sweepSlices (s : State) (t : Nat) : Nat :=
  match t with
  | 0 => 1357
  | 1 => 1170
  | 2 => 129
  | _ => if (s.lotD.sec 7).isEmpty then 80 else 145

/-- The BIST credit with what has accrued since it was last counted: 50 us per 1 ms, at most 200 us (R160). -/
def State.creditNow (s : State) : Nat := min 200000 (s.sle.credit + (s.clk.now - s.sle.creditAt))

/-- The running pass of p stands at a suspension point (R159). -/
def State.atSuspension (s : State) (p : Nat) : Bool :=
  let q := s.part p
  let n := s.lotD.pCount p
  let isBarrier (i : Nat) : Bool := decide ((s.lotD.wop (s.lotD.pFirst p + i)).cls = 6)
  if q.phase = .gate then true
  else if q.oi > 0 then decide (q.oi < n) && isBarrier (q.oi - 1)
  else decide (q.gi > 0) && (decide (q.gi ≥ n) || isBarrier (q.gi - 1))

/-- EVS leaves room for a slice: no partition is ready, or a C2 partition stands at a suspension point (R160). -/
def State.sliceRoom (s : State) : Bool :=
  match s.sle.cur with
  | none => s.best.isNone
  | some p => decide (s.lotD.pClass p = 2) && decide (s.best = some p) && s.atSuspension p

/-- Background slices run in the state (R437). -/
def State.sliceState (s : State) : Bool :=
  (s.released || decide (s.sup.mode = .safeHalt)) && s.domOn 0 && decide (s.sle.dbg.state < 2) && ! s.sle.locOpen && ! s.sup.bistRunning

/-- The rate measurement that ends a datapath slice of test 0; a rate below the floor fails a part of the test (R430, R431, R42). -/
def State.rateMeasure (s : State) (rate : Nat) : State :=
  let low := decide (rate < 240000)
  let b1 : Bist := { s.bist with rate := rate, rateSp := s.pwr.setpoint, rateTemp := max s.pwr.t1 s.pwr.t2,
                                 rateLow := if low then s.bist.rateLow + 1 else 0 }
  let p1 : Pwr := if low then { s.pwr with rateHold := true, setpoint := 980 }
    else if s.pwr.rateHold then { s.pwr with rateHold := false, rateHoldUntil := s.clk.real + sTicks } else s.pwr
  let s1 := { s with bist := b1, pwr := p1 }
  let s2 := if low then s1.bistPart 0 false false else s1
  if b1.rateLow ≥ 3 then s2.enterHalt 6 else s2

/-- Row r, or the row that spare row r serves, lies inside a partition's range. -/
def State.rowUsed (s : State) (r : Nat) : Bool :=
  let served := (s.bist.repairs.find? (fun x => decide (x.kind = 4 ∧ 65536 + x.spare = r))).map (·.unit)
  let n := served.getD r
  s.lotD.inUse.any (fun p => decide (s.lotD.pFirst p ≤ n ∧ n < s.lotD.pFirst p + s.lotD.pCount p))

/-- Unit 5 behind slice i of test 2 with finding f: section 0x0001 as far as the 512 rows of each slice have brought it; where the rows
themselves are not the section's, a free value (R433, R445). -/
def State.programRun (s : State) (f : SliceFinding) (i : Nat) : State :=
  match f with
  | .badCrc => s.setCvu 5 { s.cvu 5 with armed := false }
  | .badRow _ => s.setCvu 5 { s.cvu 5 with armed := false }
  | _ => s.cvuRuns 5 (crcRun 1 ((s.lotD.sec 1).take (16 * 512 * (i + 1))))

/-- One background slice of test t finds `f`. A spare row that fails while it serves a row in use is replaced too (R438). -/
def State.background (s : State) (f : SliceFinding) (rate : Nat) : State :=
  let t := rotation.getD s.bist.pos 0
  let i := s.bist.slices.get 0 t
  let last := decide (i + 1 ≥ s.sweepSlices t)
  let s0 := if t = 2 then s.programRun f i else s
  let s1 := { s0 with
    sle := { s0.sle with credit := s.creditNow - 20000, creditAt := s.clk.now },
    bist := { s0.bist with pos := (s.bist.pos + 1) % 18, slices := s.bist.slices.set 0 t (if last then 0 else i + 1) } }
  let s2 := match f with
    | .pass => s1.bistPart t true last
    | .correctedRow r => if t = 2 then ((s1.bistPart t true last).rowCorrected r).rowRequests else s1.bistPart t true last
    | .failed us => if t ≤ 1 then (s1.unitsFail us).bistPart t false last else (s1.bistPart t true last)
    | .badRow r =>
      if t = 2 then
        (if s.rowUsed r then ((if r ≥ 65536 then s1.unitFails (.row r) else s1).bistPart t false last).enterHalt 4
         else ((s1.mlog 0x2800 0x06 1 r 0).unitFails (.row r)).bistPart t false last)
      else s1.bistPart t true last
    | .badCrc => if t = 2 ∨ t = 3 then (s1.bistPart t false last).enterHalt 4 else s1.bistPart t true last
  if t = 0 ∧ i < 1152 then s2.rateMeasure rate else s2

/-- BIST_SLICE (R160, R428): a background slice under the credit, or a lane-localising slice of an open localisation (R144). -/
def execBistSlice (kind : SliceKind) (finding : SliceFinding) (rate : Nat) (s : State) : Host.Outcome State Fault Refusal :=
  .next (
    match kind with
    | .background => if s.sliceState && s.sliceRoom && decide (s.creditNow ≥ 20000) then s.background finding rate else s
    | .localising =>
      if s.sle.locOpen && s.domOn 0 && (s.best.isNone || decide (s.sup.mode = .safeHalt)) then
        { s with sle := { s.sle with locState := 1 }, pwr := { s.pwr with locHoldUntil := s.clk.real + sTicks } }
      else s)

/-- LOCALISATION_COMPLETE (R144): Table: Localisation outcomes. Where nothing is found, every mismatch that it was to localise is an
unlocalised one. -/
def execLocalisationComplete (found : Option RepairUnit) (s : State) : Host.Outcome State Fault Refusal :=
  .next (
    if s.sle.locOpen then
      let s0 := { s with sle := { s.sle with locOpen := false, locCount := 0 }, pwr := { s.pwr with locHold := false, locHoldUntil := s.clk.real + sTicks } }
      match found with
      | some u =>
        let (kind, n) := unitOf u
        let lane := if kind = 1 then n else 255
        let spare := ! (s0.bist.usable kind).isEmpty
        let s1 := { s0 with sle := { s0.sle with locState := if spare then 2 else 4, locLane := lane } }
        (s1.mlog 0x2800 0x25 1 n (if spare then 2 else 4)).unitFails u
      | none =>
        let ts := (s0.sle.unloc.filter (fun t => decide (s.clk.now - t ≤ 24 * 3600 * sTicks))) ++ List.replicate s.sle.locCount s.clk.now
        let s1 := { s0 with sle := { s0.sle with locState := 3, locLane := 255, unloc := ts } }
        let s2 := s1.mlog 0x2800 0x25 1 0 3
        if s.sle.locCount ≠ 0 ∧ ts.length ≥ 3 then s2.enterHalt 1 else s2
    else s)

/-- TIME_BASE_CHECK (R435): the counts of one 1 s window. -/
def execTimeBaseCheck (rcCount slowCount : Nat) (s : State) : Host.Outcome State Fault Refusal :=
  .next (
    if s.clk.running ∧ s.sup.rcRef ≠ 0 ∧ ! s.sup.bistRunning then
      let d := (rcCount : Int) - s.sup.rcRef
      let rc := decide (20 * d.natAbs > s.sup.rcRef.natAbs)
      let sl := decide (1000 * ((slowCount : Int) - 32768).natAbs > slowCount)
      let s1 := { s with sup := { s.sup with
        rcDev := d * 100000 / s.sup.rcRef, rcBad := if rc then s.sup.rcBad + 1 else 0, slowBad := if sl then s.sup.slowBad + 1 else 0 } }
      let fail := decide (s1.sup.rcBad ≥ 2 ∨ s1.sup.slowBad ≥ 2)
      let s2 := s1.bistPart 6 (! fail) true
      if fail then s2.enterHalt 6 else s2
    else s)

/-- HEALTH_REPORT_REBUILD (R442): the CP rebuilds the report while the CPU domain is ON. -/
def execHealthReportRebuild (s : State) : Host.Outcome State Fault Refusal := when (s.domOn 2) s s.rebuildReport

/-! ### OTP -/

/-- A critical word of a region is UNRELIABLE at a re-read (R422). -/
def State.rereadEffect (s : State) (r : Nat) : State :=
  match r with
  | 0 => s.enterHalt 12
  | 1 => s.enterHalt 12
  | 7 => { s with otp := { s.otp with jtagLocked := true } }
  | 8 => { s with otp := { s.otp with noSign := true } }
  | _ => s

/-- A re-read is due: 24 h, a move of the highest die temperature by 40 K (R413), or the BIST that a disagreement has started (R400). -/
def State.rereadDue (s : State) : Bool :=
  decide (s.clk.now - s.otp.reread ≥ 24 * 3600 * sTicks) || decide ((max s.pwr.t1 s.pwr.t2 - s.otp.rereadTemp).natAbs ≥ 400)
    || (s.cpl.disAt.isSome && decide (s.bist.sweeps.get 0 7 ≤ s.cpl.sweepSnap.get 0 7))

/-- A critical word of region r reads UNRELIABLE. -/
def State.regionBad (s : State) (r : Nat) : Bool :=
  (List.range 32).any (fun p => otpCritical r p && decide ((s.otpWord (32 * r + p)).state = .unreliable))

/-- The critical words and the lock fuses are read again; test 7 fails where a word is UNRELIABLE (R412, R413). -/
def State.criticalRead (s : State) (reads : OtpReads) : State :=
  let s1 := s.otpReading reads (fun a => otpCritical (a / 32) (a % 32)) (fun _ => true)
  let s2 := { s1 with otp := { s1.otp with reread := s.clk.now, rereadTemp := max s.pwr.t1 s.pwr.t2 } }
  s2.bistPart 7 (! (List.range 16).any s1.regionBad) true

/-- What an UNRELIABLE word of the regions that `sel` names brings (R422). -/
def State.rereadEffects (s : State) (sel : Nat → Bool) : State :=
  ((List.range 16).filter (fun r => sel r && s.regionBad r)).foldl State.rereadEffect s

/-- The regions whose UNRELIABLE words lock a function and do not halt the module. -/
def State.rereadLocks (s : State) : State := s.rereadEffects (fun r => decide (2 ≤ r))

/-- A re-read with its consequences. -/
def State.rereadNow (s : State) (reads : OtpReads) : State := (s.criticalRead reads).rereadEffects (fun _ => true)

/-- OTP_REREAD (R412, R413): it waits for a word or a fuse entry that is being programmed (R427, R446). -/
def execOtpReread (reads : OtpReads) (s : State) : Host.Outcome State Fault Refusal :=
  .next (if s.rereadDue ∧ ! s.blowing ∧ s.sup.mode ≠ .off ∧ s.sup.mode ≠ .parked then s.rereadNow reads else s)

/-- The record of a job that has ended gets its final answer: the front record of HPO where one brought it (R426). -/
def State.jobAnswer (s : State) (byRecord : Bool) (r : Reply) : State :=
  if byRecord then (s.answer r).closeRec (fun o => o.started) r else s.answer r

/-- PROGRAM_DATA (R410, R425): a write of 0x2900:05. -/
def execProgramData (data : BitVec 64) (s : State) : Host.Outcome State Fault Refusal :=
  when s.otp.job.isNone s (s.otpProgram data.toNat s.fusing false)

/-- SEAL (R420): a program write of 0 to the selected position 31. -/
def execSeal (s : State) : Host.Outcome State Fault Refusal :=
  when (s.otp.job.isNone && decide (s.otp.sel % 32 = 31)) s (s.otpProgram 0 s.fusing false)

/-- WRITE_LOCK (R418). -/
def execWriteLock (r : Fin 16) (s : State) : Host.Outcome State Fault Refusal :=
  when s.otp.job.isNone s (s.otpLock r false s.fusing false)

/-- READ_LOCK (R418). -/
def execReadLock (r : Fin 16) (s : State) : Host.Outcome State Fault Refusal :=
  when s.otp.job.isNone s (s.otpLock r true s.fusing false)

/-- OTP_PROGRAM_COMPLETE (R426): the fuses are blown and read back at the three margins: a word, or the three fuses of a lock set. -/
def execOtpProgramComplete (readBack : WordRead) (fuses : FuseRead) (s : State) : Host.Outcome State Fault Refusal :=
  .next (
    let ans (a : State) (ok : Bool) : State := a.jobAnswer s.otp.byRecord (if ok then .done else .abort 0x0F000603)
    match s.otp.job with
    | none => s
    | some (.word a d) =>
      let s1 := s.burnWord a d readBack
      ans (State.digestGens { s1 with otp := { s1.otp with job := none, byRecord := false } } s)
        (s1.otpWord a).usable
    | some (.lock r rd) =>
      let s1 := s.lockTake ⟨r, rd, fuses⟩
      ans { s1 with otp := { s1.otp with job := none, byRecord := false } } (decide (s1.lockFuses r rd = 7)))

/-- FUSE_REPAIR (R440, R441): a write of 1 to 0x2800:08. -/
def execFuseRepair (s : State) : Host.Outcome State Fault Refusal := when (! s.fusing) s (s.fuseRepair false)

/-- FUSE_REPAIR_COMPLETE (R440): the read-backs of the entries, in order. -/
def execFuseRepairComplete (readBacks : List WordRead) (s : State) : Host.Outcome State Fault Refusal :=
  .next (
    if s.fusing then
      let s1 := readBacks.foldl (fun a rd => if a.fusing then a.fuseEntry rd else a) s
      match s1.bist.fuseState with
      | 2 => (s1.jobAnswer s.bist.fuseByRecord .done).rebuildReport
      | 3 => (s1.jobAnswer s.bist.fuseByRecord (.abort 0x0F000603)).rebuildReport
      | _ => s1
    else s)

/-! ### Check-value units (R444) -/

/-- INIT. -/
def execInit (n : Fin 16) (s : State) : Host.Outcome State Fault Refusal := .next (s.cvuWrite n 6 1)

/-- FINALISE. -/
def execFinalise (n : Fin 16) (s : State) : Host.Outcome State Fault Refusal := .next (s.cvuWrite n 6 2)

/-- DATA_IN. -/
def execDataIn (n : Fin 16) (v : BitVec 32) (s : State) : Host.Outcome State Fault Refusal := .next (s.cvuWrite n 4 v.toNat)

/-- RUNNING_VALUE_WRITE. -/
def execRunningValueWrite (n : Fin 16) (v : BitVec 32) (s : State) : Host.Outcome State Fault Refusal := .next (s.cvuWrite n 3 v.toNat)

end Sys2Proof.Machine
end

