-- ==== Sys2Proof/Machine/BootStart.lean ====
section
/-! DEFINITION. Straps, the domains' way up, power-off and module reset as shared operations (R22 to R24, R37, R38, R66, R67, R79,
R83, R256). -/

namespace Sys2Proof.Machine

/-! ### Straps (R22 to R24) -/

/-- The ADDR code whose window holds the reading, in 1/1024 of the reference: the middle of the code is 64 c + 32, the window
1/64 to either side. -/
def addrCode (v : Nat) : Option Nat := (List.range 16).find? (fun c => decide (64 * c + 16 ≤ v ∧ v ≤ 64 * c + 48))

/-- The ROLE reading: below 1/64 master 0, from 0.650 to 0.730 member 1. -/
def roleCode (v : Nat) : Option Nat := if v < 16 then some 0 else if 666 ≤ v ∧ v ≤ 747 then some 1 else none

/-- The decode of both straps; none in both fields where R24 calls it invalid. -/
def strapDecode (t : Straps) : StrapDecode :=
  match addrCode t.addr, roleCode t.role with
  | some c, some r => if (r = 0 ∧ c % 8 ≠ 0) ∨ (r = 1 ∧ c % 8 = 0) then {} else ⟨some c, some r⟩
  | _, _ => {}

/-! ### Domains (R38, R39, R58) -/

/-- A domain that a rail fault holds off. -/
def Dom.heldOff (d : Dom) : Bool := decide (d.state = .fault ∨ d.state = .locked)

/-- A domain comes on; one that is in FAULT or LOCKED OFF stays as it is. With LNK the OWN interface has its supply (R390). -/
def State.domUp (s : State) (d : Nat) : State :=
  if (s.dom d).heldOff then s
  else
    let s1 := s.setDom d { s.dom d with state := .on }
    if d = 5 then { s1 with cpl := { s1.cpl with ownDrive := s1.driveOf s1.cpl.role } } else s1

/-- Power-up order: NOD, ENG, CPU, ANA, INA, INB, LNK, TRK, HST, OUT. -/
def domOrder : List Nat := [1, 0, 2, 9, 6, 7, 5, 4, 3, 8]

/-- A list of domains on. -/
def State.domsUp (s : State) (ds : List Nat) : State := ds.foldl State.domUp s

/-! ### Power-off and reset -/

/-- Everything that no power cycle keeps goes to its reset value; what a non-volatile store, the OTP and the mains side hold
stays (R61, R325, R344, R347, R452). A fuse entry that is being blown still completes (R83, R410, R446). -/
def State.powerLost (s : State) : State :=
  { ({} : State) with
    clk := { ({} : Clk) with real := s.clk.real },
    pwr := { s.pwr with
      doms := {}, aonUp := false, setpoint := 980, minSlack := 1000, winSlack := none, winStart := 0, locHold := false, rateHold := false,
      interr := false, us := .off, usMv := 0, usEnergy := 0, tempWarn := false, tempLowRun := 0, tempDiffSince := none },
    sup := { ({} : Sup) with bootCount := s.sup.bootCount, resume := s.sup.resume, modeSince := s.clk.real },
    lot := { ({} : LotBlk) with stored := s.lot.stored, storedInvalid := s.lot.storedInvalid },
    otp := { s.otp with reread := 0, rereadTemp := max s.pwr.t1 s.pwr.t2, sel := 0, progData := 0, byRecord := false, jtagLocked := false, noSign := false, readOwed := false },
    hpo := { ({} : Hpo) with etherType := s.hpo.etherType, portEnable := s.hpo.portEnable },
    bist := { ({} : Bist) with
      reportGen := s.bist.reportGen, fuseState := if s.fusing then 1 else 0, fuseLeft := if s.fusing then s.bist.fuseLeft.take 1 else [] },
    cpl := { ({} : Cpl) with takeOvers := s.cpl.takeOvers },
    rcr := { s.rcr with
      recs := s.rcr.recs.filter (fun r => decide (r.pos + r.bytes.length ≤ s.rcr.written)), total := s.rcr.written, lastRel := none,
      winBytes := 0, secBytes := 0, gap := none, keyOwed := true, keyWaits := false, lastIn := {}, lastW8 := none, open_ := none, cycleTrig := none,
      lane := false, sel := 0, replay := {} },
    log := { s.log with select := 0 },
    fresh := s.fresh,
    pending := s.pending }

/-- Boot's step 3 (R67, R422): regions 0 and 1 must be valid and hold no UNRELIABLE word. -/
def State.otpDelivered (s : State) : Bool :=
  s.otpValid 0 && s.otpValid 1 && (List.range 64).all (fun a => decide ((s.otpWord a).state ≠ .unreliable))

/-- Step 3 reads regions 0 and 1 (R66, R413). -/
def State.bootOtp (s : State) (reads : OtpReads) : State :=
  s.otpReading reads (fun a => decide (a < 64)) (fun r => decide (r < 2))

/-- The regions that step 3 leaves are read before step 6 completes, and the field repair entries are applied (R413, R415). -/
def State.restOtp (s : State) (reads : OtpReads) : State :=
  if s.otp.readOwed then
    let s1 := s.otpReading reads (fun a => decide (64 ≤ a)) (fun r => decide (2 ≤ r))
    ({ s1 with otp := { s1.otp with readOwed := false } } : State).fieldRepairs
  else s

/-- The CP checks the certificate in its store against its digest; a difference is logged (R414). -/
def State.certCheck (s : State) : State :=
  if sha256 s.otp.cert = s.otpBytes 36 4 then s else s.mlog 0x1F91 0 1 0 0

/-- Safe Halt before Boot's step 5 (R79): CPU and HST alone come on, HST not where the MAC address word is UNRELIABLE; with cause 8
no domain does. -/
def State.earlyHalt (s : State) (cause : Nat) : State :=
  let s1 := if cause = 8 then s else (s.domsUp (if (s.otpWord 34).state = .unreliable then [2] else [2, 3])).certCheck
  s1.enterHalt cause

/-- The AON rail is outside the window of R37. -/
def aonBad (mv : Nat) : Bool := decide (mv < 3100 ∨ mv > 3500)

/-- Boot, steps 2 to 5, of a module that has lost what no power cycle keeps (R66, R67, R24, R37, R256): the new Boot is counted, OTP
and straps are read, the domains come on, the time base starts at 0, and the start-up BIST runs. The strap decode stands at 0x2700
also where Boot halts before it, and its log entry is then left out (log entry 16). -/
def State.bootFrom (s1 : State) (boot : BootRead) : State :=
  let s2 : State := { s1 with
    pwr := { s1.pwr with aonUp := true, aonMv := boot.aonMv },
    sup := { s1.sup with bootCount := (s1.sup.bootCount + 1) % 2 ^ 32, straps := strapDecode boot.straps } }
  let s3 := (s2.bootOtp boot.otp).setMode .boot
  let s4 := s3.bootRepairs
  if aonBad boot.aonMv then s4.earlyHalt 8
  else if ! s4.otpDelivered then s4.earlyHalt 12
  else
    let d := s4.sup.straps
    let s5 := s4.mlog 0x2700 0x01 0 0 (d.addr.getD 255)
    if d.addr.isNone then s5.earlyHalt 7
    else
      let s6 := (s5.domsUp domOrder).certCheck
      { s6 with
        otp := { s6.otp with readOwed := true },
        clk := { s6.clk with running := s6.domOn 0, now := 0 },
        sup := { s6.sup with bistRunning := true } }

/-- Boot after a power cycle. -/
def State.bootStart (s : State) (boot : BootRead) : State := s.powerLost.bootFrom boot

/-- What a module reset leaves of the domains: those that a rail fault holds off until the next power cycle, or for the rest of its
100 ms, stay off, and the hour of R39 runs on. -/
def State.heldDoms (s : State) : Tab Dom :=
  (List.range 10).foldl (fun (t : Tab Dom) d =>
    t.set {} d { state := if (s.dom d).heldOff then (s.dom d).state else .off, restartAt := (s.dom d).restartAt }) {}

/-- A module reset (R83): outputs off, the domains off in reverse order, and Boot when nRST is high again. It is a power cycle for the
exits of Safe Halt alone: a domain that a rail fault holds off stays off (R39), and so does what R422 locks until power cycle. -/
def State.moduleReset (s : State) (boot : BootRead) : State :=
  let s1 := s.holdOpen.powerLost
  ({ s1 with
    pwr := { s1.pwr with doms := s.heldDoms },
    otp := { s1.otp with jtagLocked := s.otp.jtagLocked, noSign := s.otp.noSign } } : State).bootFrom boot

end Sys2Proof.Machine
end

