-- ==== Sys2Proof/Machine/LotTrunk.lean ====
section
/-! DEFINITION. The Station Table, section 0x0007 (R359), its acceptance checks (R348, R360) and the frame schedule (R361 to R363). -/

namespace Sys2Proof.Machine

/-- A station entry in use (R359). -/
structure StEntry where
  addr : Nat
  cls : Nat
  img : Nat
  off : Nat
  width : Nat
  wd : Nat
  conn : Nat
  out : Nat
deriving DecidableEq, Repr

def StEntry.ofBytes (s : Nat) (b : List Byte) : StEntry :=
  ⟨s, u8 b 1, u16 b 2, u8 b 4, u8 b 5, u16 b 6, u32 b 8, u16 b 12⟩

def Lot.s7 (l : Lot) : List Byte := l.sec 7

/-- The 4,096 entries with their addresses. -/
def Lot.stRaw (l : Lot) : List (Nat × List Byte) :=
  let bs := blocks 16 (l.s7.drop 32)
  (List.range bs.length).zip bs

/-- The stations in use, in ascending address. -/
def Lot.stations (l : Lot) : List StEntry :=
  (l.stRaw.filter (fun e => bitOf (u8 e.2 0) 0)).map (fun e => StEntry.ofBytes e.1 e.2)

def Lot.station (l : Lot) (s : Nat) : Option StEntry :=
  let b := slice l.s7 (32 + 16 * s) 16
  if bitOf (u8 b 0) 0 then some (StEntry.ofBytes s b) else none

/-- The trunk cycle in ticks, the station count, the cable length. -/
def Lot.trkCycle (l : Lot) : Nat := 5000 * u16 l.s7 0
def Lot.trkCount (l : Lot) : Nat := u16 l.s7 2
def Lot.trkCable (l : Lot) : Nat := u32 l.s7 4

/-- The lot runs a trunk (R348). -/
def Lot.hasTrunk (l : Lot) : Bool := ! l.s7.isEmpty && decide (l.member = 0)

/-- Data bytes of a station's record, and the size of one slot (R351). -/
def StEntry.len (e : StEntry) : Nat := (e.width + 7) / 8
def StEntry.slot (e : StEntry) : Nat := 8 + 4 * ((e.len + 3) / 4)
/-- Bytes of a station in a frame: its output slot, where it has an output word, and its input slot. -/
def StEntry.bytes (e : StEntry) : Nat := if e.out = 0 then e.slot else 2 * e.slot
/-- Its share of the receive buffer memory (R363). -/
def StEntry.buffer (e : StEntry) : Nat := 2 * e.slot + (if e.out = 0 then 0 else e.slot)

/-- The frame schedule: the stations of each frame (R361). -/
def frameAdd (acc : List (List StEntry) × List StEntry × Nat) (e : StEntry) : List (List StEntry) × List StEntry × Nat :=
  if acc.2.2 + e.bytes ≤ 1500 then (acc.1, acc.2.1 ++ [e], acc.2.2 + e.bytes)
  else (acc.1 ++ [acc.2.1], [e], 16 + e.bytes)

def Lot.frames (l : Lot) : List (List StEntry) :=
  let r := l.stations.foldl frameAdd ([], [], 16)
  if r.2.1.isEmpty then r.1 else r.1 ++ [r.2.1]

/-- Payload bytes of a frame. -/
def framePayload (f : List StEntry) : Nat := f.foldl (fun a e => a + e.bytes) 16

/-- The sum of the wire times in ns (R362). -/
def Lot.wireNs (l : Lot) : Nat := l.frames.foldl (fun a f => a + (max (framePayload f) 46 + 38) * 80) 0

/-- Ranges of one station entry that are wrong (R360, second row). -/
def stationBad (b : List Byte) : Bool :=
  if u8 b 0 = 0 then ! allZero b
  else
    let e := StEntry.ofBytes 0 b
    decide (u8 b 0 > 1) || decide (e.cls > 1) || decide (e.img < 16 ∨ e.img > 2047) || decide (e.off > 127)
    || decide (e.width < 1 ∨ e.width > 128 ∨ e.off + e.width > 128) || decide (e.wd < 5 ∨ e.wd > 1000)
    || decide (e.conn = 0) || decide (e.out > 2047) || ! rangeZero b 14 2

/-- Two stations claim one lane of an image word. -/
def lanesMeet (a b : StEntry) : Bool := decide (a.img = b.img) && decide (a.off < b.off + b.width) && decide (b.off < a.off + a.width)

/-- The trunk checks of step 3 (R348, R360). -/
def checkTrunk (l : Lot) : Refuse :=
  if l.s7.isEmpty then
    refuseIf ((List.range 2048).any (fun w => decide (w ≥ 16) && decide (l.bType w = 3 ∨ l.bType w = 4))) 0x0F000122 0x000F0000
  else
    let sts := l.stations
    refuseIf (decide (l.s7.length ≠ 65568) || decide (u16 l.s7 0 < 20 ∨ u16 l.s7 0 > 1000) || decide (l.trkCount < 1 ∨ l.trkCount > 4096)
      || decide (l.trkCable < 1 ∨ l.trkCable > 409700) || decide (l.trkCount ≠ sts.length) || ! rangeZero l.s7 8 24) 0x0F000122 0x000F0000 <|>
    l.stRaw.findSome? (fun e => refuseIf (stationBad e.2) 0x0F000122 (0x000E0000 + e.1)) <|>
    sts.findSome? (fun e => refuseIf (decide (l.bType e.img ≠ 3) || (decide (e.out ≠ 0) && decide (e.out < 16 ∨ l.bType e.out ≠ 4)))
      0x0F000122 (0x000E0000 + e.addr)) <|>
    sts.findSome? (fun e => refuseIf (sts.any (fun f => decide (f.addr < e.addr) && lanesMeet f e)) 0x0F000122 (0x000E0000 + e.addr)) <|>
    sts.findSome? (fun e => refuseIf (sts.any (fun f => decide (f.addr < e.addr ∧ f.conn = e.conn))) 0x0F000122 (0x000E0000 + e.addr)) <|>
    (List.range 2048).findSome? (fun w => refuseIf (decide (w ≥ 16) &&
      ((decide (l.bType w = 3) && ! sts.any (fun e => decide (e.img = w))) || (decide (l.bType w = 4) && ! sts.any (fun e => decide (e.out = w)))))
      0x0F000122 (0x000F0000 + w))

/-- The schedule at step 5 (R362); in a pair the other module is one station more (R406). -/
def checkSchedule (l : Lot) : Refuse :=
  if l.s7.isEmpty then none
  else
    let r := (l.trkCount + (if l.pair then 1 else 0)) * 1500 + l.trkCable * 5
    refuseIf (decide (l.wireNs + 2 * r + 100000 > l.trkCycle * 20)) 0x0F000143 l.frames.length <|>
    l.stations.findSome? (fun e => refuseIf (decide (e.wd * msTicks < 2 * l.trkCycle)) 0x0F000143 (0x000E0000 + e.addr))

/-- The receive buffers at step 5 (R363): the first station at which the running sum passes the limit. -/
def checkTrkBuffers (l : Lot) : Refuse :=
  if l.s7.isEmpty then none
  else
    let lim := 262144 - 16 * l.frames.length
    (l.stations.foldl (fun (a : Nat × Refuse) e =>
      (a.1 + e.buffer, a.2 <|> refuseIf (decide (a.1 + e.buffer > lim)) 0x0F000144 (0x000E0000 + e.addr))) (0, none)).2

end Sys2Proof.Machine
end

