-- ==== Sys2Proof/Machine/OdTable.lean ====
section
/-! DEFINITION. The object dictionary's entries as the tables of spec/ give them: subindex, type, access right, apply class and
Default (R58, R65, R68, R100, R152, R169, R195 to R197, R229, R230, R251, R288 to R290, R305, R306, R331, R334 to R344, R442), and
the index map (R332). -/

namespace Sys2Proof.Machine

/-- Table: Data types on the wire. -/
inductive OdTy where
  | bool | i16 | i32 | u8 | u16 | u32 | u48 | u64 | w128 | domain
deriving DecidableEq, Repr

/-- Table: Access rights. -/
inductive Acc where
  | ro | const | wo | rw | rws | rwc
deriving DecidableEq, Repr

/-- Apply classes (R327). -/
inductive Apply where
  | none | imm | cyc | stop
deriving DecidableEq, Repr

/-- One subindex of a record. -/
structure OdRow where
  sub : Nat
  ty : OdTy
  acc : Acc
  app : Apply
  dflt : Nat
deriving DecidableEq, Repr

/-- Bytes of a type; a DOMAIN has none of its own. -/
def OdTy.size : OdTy → Nat
  | .bool => 1
  | .i16 => 2
  | .i32 => 4
  | .u8 => 1
  | .u16 => 2
  | .u32 => 4
  | .u48 => 6
  | .u64 => 8
  | .w128 => 16
  | .domain => 0

/-- The subindices of 0x1000. -/
def od1000 : List OdRow := [
  ⟨0x00, .u32, .const, .none, 558104576⟩]

/-- The subindices of 0x1001. -/
def od1001 : List OdRow := [
  ⟨0x00, .u8, .ro, .none, 0⟩]

/-- The subindices of 0x1008. -/
def od1008 : List OdRow := [
  ⟨0x00, .domain, .const, .none, 0⟩]

/-- The subindices of 0x1009. -/
def od1009 : List OdRow := [
  ⟨0x00, .u16, .const, .none, 0⟩]

/-- The subindices of 0x100A. -/
def od100A : List OdRow := [
  ⟨0x00, .u16, .ro, .none, 0⟩]

/-- The subindices of 0x1018. -/
def od1018 : List OdRow := [
  ⟨0x01, .u32, .const, .none, 1095978052⟩, ⟨0x02, .u32, .const, .none, 8516⟩, ⟨0x03, .u32, .ro, .none, 0⟩, ⟨0x04, .u32, .const, .none, 0⟩]

/-- The subindices of 0x1E00. -/
def od1E00 : List OdRow := [
  ⟨0x01, .u16, .rws, .imm, 34998⟩, ⟨0x02, .u8, .rws, .imm, 3⟩, ⟨0x03, .u48, .const, .none, 0⟩, ⟨0x10, .u8, .ro, .none, 0⟩,
  ⟨0x11, .u8, .ro, .none, 0⟩, ⟨0x12, .u48, .ro, .none, 0⟩, ⟨0x13, .u32, .ro, .none, 0⟩, ⟨0x14, .u8, .ro, .none, 3⟩,
  ⟨0x15, .u16, .ro, .none, 0⟩, ⟨0x16, .u64, .ro, .none, 0⟩, ⟨0x17, .u32, .ro, .none, 0⟩, ⟨0x18, .u32, .ro, .none, 0⟩,
  ⟨0x19, .u32, .ro, .none, 0⟩, ⟨0x1A, .u32, .ro, .none, 0⟩, ⟨0x1B, .u32, .ro, .none, 0⟩, ⟨0x1C, .u8, .ro, .none, 0⟩,
  ⟨0x1D, .u8, .ro, .none, 0⟩, ⟨0x1E, .u8, .ro, .none, 0⟩, ⟨0x1F, .u16, .ro, .none, 0⟩, ⟨0x20, .u16, .ro, .none, 0⟩,
  ⟨0x21, .u32, .ro, .none, 0⟩]

/-- The subindices of 0x1F50. -/
def od1F50 : List OdRow := [
  ⟨0x00, .domain, .rws, .imm, 0⟩]

/-- The subindices of 0x1F51. -/
def od1F51 : List OdRow := [
  ⟨0x00, .u64, .ro, .none, 0⟩]

/-- The subindices of 0x1F52. -/
def od1F52 : List OdRow := [
  ⟨0x00, .u64, .ro, .none, 0⟩]

/-- The subindices of 0x1F53. -/
def od1F53 : List OdRow := [
  ⟨0x00, .u32, .ro, .none, 0⟩]

/-- The subindices of 0x1F54. -/
def od1F54 : List OdRow := [
  ⟨0x00, .u64, .ro, .none, 0⟩]

/-- The subindices of 0x1F55. -/
def od1F55 : List OdRow := [
  ⟨0x01, .u8, .ro, .none, 0⟩, ⟨0x02, .u32, .ro, .none, 0⟩, ⟨0x03, .u32, .ro, .none, 0⟩]

/-- The subindices of 0x1F60. -/
def od1F60 : List OdRow := [
  ⟨0x00, .u32, .ro, .none, 0⟩]

/-- The subindices of 0x1F61. -/
def od1F61 : List OdRow := [
  ⟨0x00, .u32, .ro, .none, 0⟩]

/-- The subindices of 0x1F62. -/
def od1F62 : List OdRow := [
  ⟨0x00, .u32, .wo, .imm, 0⟩]

/-- The subindices of 0x1F63. -/
def od1F63 : List OdRow := [
  ⟨0x00, .u8, .ro, .none, 0⟩]

/-- The subindices of 0x1F90. -/
def od1F90 : List OdRow := [
  ⟨0x01, .domain, .const, .none, 0⟩, ⟨0x02, .u8, .const, .none, 1⟩]

/-- The subindices of 0x1F91. -/
def od1F91 : List OdRow := [
  ⟨0x00, .domain, .const, .none, 0⟩]

/-- The subindices of 0x1F92. -/
def od1F92 : List OdRow := [
  ⟨0x01, .domain, .ro, .none, 0⟩, ⟨0x02, .domain, .ro, .none, 0⟩, ⟨0x03, .domain, .ro, .none, 0⟩, ⟨0x04, .domain, .ro, .none, 0⟩]

/-- The subindices of 0x1F93. -/
def od1F93 : List OdRow := [
  ⟨0x00, .u8, .ro, .none, 0⟩]

/-- The subindices of 0x1F94. -/
def od1F94 : List OdRow := [
  ⟨0x00, .u8, .ro, .none, 0⟩]

/-- The subindices of 0x1F95. -/
def od1F95 : List OdRow := [
  ⟨0x00, .u32, .ro, .none, 0⟩]

/-- The subindices of 0x2000. -/
def od2000 : List OdRow := [
  ⟨0x01, .u8, .ro, .none, 0⟩, ⟨0x02, .u8, .wo, .imm, 0⟩, ⟨0x03, .u8, .ro, .none, 255⟩, ⟨0x04, .u32, .ro, .none, 0⟩,
  ⟨0x05, .u8, .ro, .none, 0⟩, ⟨0x06, .u32, .rw, .imm, 0⟩, ⟨0x07, .u8, .ro, .none, 0⟩, ⟨0x08, .u32, .ro, .none, 0⟩,
  ⟨0x09, .u32, .ro, .none, 0⟩, ⟨0x0A, .u32, .ro, .none, 0⟩, ⟨0x0B, .u8, .ro, .none, 255⟩, ⟨0x0C, .u16, .ro, .none, 0⟩,
  ⟨0x10, .u8, .ro, .none, 0⟩, ⟨0x11, .u8, .ro, .none, 255⟩, ⟨0x12, .u16, .ro, .none, 0⟩, ⟨0x13, .u64, .ro, .none, 0⟩,
  ⟨0x14, .u64, .ro, .none, 0⟩, ⟨0x18, .u32, .ro, .none, 0⟩, ⟨0x19, .u32, .ro, .none, 193800⟩, ⟨0x1A, .u64, .ro, .none, 0⟩,
  ⟨0x1B, .u16, .ro, .none, 0⟩, ⟨0x1C, .u32, .ro, .none, 4294967295⟩, ⟨0x1D, .u64, .ro, .none, 0⟩, ⟨0x1E, .u64, .ro, .none, 0⟩]

/-- The subindices of 0x2020. -/
def od2020 : List OdRow := [
  ⟨0x01, .u8, .ro, .none, 255⟩, ⟨0x02, .u32, .ro, .none, 0⟩, ⟨0x03, .u32, .ro, .none, 0⟩, ⟨0x04, .u16, .ro, .none, 0⟩,
  ⟨0x05, .u32, .ro, .none, 0⟩, ⟨0x06, .u32, .ro, .none, 0⟩, ⟨0x07, .u32, .ro, .none, 0⟩, ⟨0x08, .u32, .ro, .none, 0⟩,
  ⟨0x09, .u16, .ro, .none, 0⟩, ⟨0x0A, .u16, .ro, .none, 1000⟩, ⟨0x0B, .u32, .ro, .none, 0⟩, ⟨0x0C, .u32, .ro, .none, 0⟩,
  ⟨0x0D, .u32, .ro, .none, 0⟩, ⟨0x0E, .u32, .ro, .none, 0⟩]

/-- The subindices of 0x2100. -/
def od2100 : List OdRow := [
  ⟨0x01, .u8, .ro, .none, 0⟩, ⟨0x02, .u8, .ro, .none, 0⟩, ⟨0x03, .u32, .ro, .none, 200⟩, ⟨0x04, .u8, .ro, .none, 255⟩,
  ⟨0x05, .u16, .ro, .none, 0⟩, ⟨0x06, .u16, .ro, .none, 100⟩, ⟨0x07, .u8, .ro, .none, 0⟩, ⟨0x08, .u8, .ro, .none, 255⟩,
  ⟨0x09, .u8, .ro, .none, 0⟩, ⟨0x10, .bool, .ro, .none, 0⟩, ⟨0x11, .bool, .ro, .none, 0⟩, ⟨0x12, .bool, .ro, .none, 0⟩,
  ⟨0x13, .u8, .ro, .none, 0⟩, ⟨0x14, .bool, .ro, .none, 0⟩, ⟨0x15, .u8, .ro, .none, 0⟩, ⟨0x16, .u64, .ro, .none, 0⟩,
  ⟨0x17, .u32, .ro, .none, 0⟩, ⟨0x18, .u32, .ro, .none, 0⟩, ⟨0x19, .u8, .ro, .none, 255⟩]

/-- The subindices of 0x2140. -/
def od2140 : List OdRow := [
  ⟨0x01, .bool, .ro, .none, 0⟩, ⟨0x02, .u16, .ro, .none, 0⟩, ⟨0x03, .u8, .ro, .none, 255⟩, ⟨0x10, .u8, .ro, .none, 0⟩,
  ⟨0x11, .u8, .ro, .none, 0⟩, ⟨0x12, .u32, .ro, .none, 0⟩, ⟨0x13, .u32, .ro, .none, 0⟩, ⟨0x14, .u8, .ro, .none, 0⟩,
  ⟨0x15, .u32, .ro, .none, 0⟩, ⟨0x16, .u32, .ro, .none, 0⟩]

/-- The subindices of 0x2160. -/
def od2160 : List OdRow := [
  ⟨0x01, .u8, .ro, .none, 0⟩, ⟨0x02, .u16, .ro, .none, 0⟩, ⟨0x03, .u16, .ro, .none, 0⟩, ⟨0x04, .u16, .ro, .none, 0⟩,
  ⟨0x05, .u16, .ro, .none, 0⟩, ⟨0x06, .u64, .ro, .none, 0⟩, ⟨0x10, .u8, .ro, .none, 0⟩, ⟨0x11, .u8, .ro, .none, 0⟩,
  ⟨0x12, .u16, .ro, .none, 0⟩, ⟨0x13, .u16, .ro, .none, 0⟩, ⟨0x14, .u32, .ro, .none, 0⟩]

/-- The subindices of 0x2200. -/
def od2200 : List OdRow := [
  ⟨0x01, .u8, .ro, .none, 0⟩, ⟨0x02, .u8, .ro, .none, 0⟩, ⟨0x03, .u16, .ro, .none, 0⟩, ⟨0x04, .u16, .ro, .none, 0⟩,
  ⟨0x05, .u16, .ro, .none, 0⟩, ⟨0x06, .u16, .ro, .none, 0⟩, ⟨0x07, .u8, .ro, .none, 0⟩, ⟨0x08, .u8, .ro, .none, 0⟩,
  ⟨0x09, .u32, .ro, .none, 0⟩, ⟨0x0A, .u32, .ro, .none, 0⟩, ⟨0x0B, .u16, .ro, .none, 0⟩, ⟨0x10, .bool, .ro, .none, 0⟩,
  ⟨0x11, .bool, .ro, .none, 0⟩, ⟨0x12, .bool, .ro, .none, 0⟩, ⟨0x13, .bool, .ro, .none, 0⟩, ⟨0x14, .u8, .ro, .none, 0⟩,
  ⟨0x15, .u16, .ro, .none, 0⟩, ⟨0x16, .u16, .ro, .none, 0⟩, ⟨0x17, .u8, .ro, .none, 255⟩, ⟨0x18, .u64, .ro, .none, 0⟩,
  ⟨0x19, .u32, .ro, .none, 0⟩, ⟨0x1A, .u32, .ro, .none, 0⟩, ⟨0x1B, .i16, .ro, .none, 0⟩, ⟨0x1C, .u8, .ro, .none, 0⟩]

/-- The subindices of 0x2220. -/
def od2220 : List OdRow := [
  ⟨0x01, .u8, .ro, .none, 255⟩, ⟨0x02, .u16, .ro, .none, 0⟩, ⟨0x03, .u16, .ro, .none, 0⟩, ⟨0x04, .u32, .ro, .none, 0⟩,
  ⟨0x05, .u16, .ro, .none, 0⟩, ⟨0x10, .u8, .ro, .none, 1⟩, ⟨0x11, .u8, .ro, .none, 1⟩, ⟨0x12, .u8, .ro, .none, 0⟩,
  ⟨0x13, .u16, .ro, .none, 0⟩, ⟨0x14, .u16, .ro, .none, 0⟩, ⟨0x15, .u8, .ro, .none, 0⟩, ⟨0x16, .u8, .ro, .none, 255⟩,
  ⟨0x17, .bool, .ro, .none, 0⟩, ⟨0x18, .u32, .ro, .none, 0⟩, ⟨0x19, .u32, .ro, .none, 0⟩]

/-- The subindices of 0x2300. -/
def od2300 : List OdRow := [
  ⟨0x01, .u8, .ro, .none, 0⟩, ⟨0x02, .u8, .ro, .none, 0⟩, ⟨0x03, .u32, .ro, .none, 0⟩, ⟨0x04, .u32, .ro, .none, 0⟩,
  ⟨0x05, .u8, .ro, .none, 255⟩, ⟨0x10, .u32, .ro, .none, 0⟩, ⟨0x11, .u64, .ro, .none, 0⟩, ⟨0x12, .u64, .ro, .none, 0⟩,
  ⟨0x13, .u32, .ro, .none, 0⟩, ⟨0x14, .bool, .ro, .none, 0⟩, ⟨0x15, .u8, .ro, .none, 0⟩, ⟨0x16, .u32, .ro, .none, 0⟩,
  ⟨0x17, .u32, .ro, .none, 0⟩, ⟨0x18, .u8, .ro, .none, 255⟩, ⟨0x20, .bool, .ro, .none, 0⟩, ⟨0x21, .u16, .ro, .none, 0⟩,
  ⟨0x22, .u16, .ro, .none, 0⟩, ⟨0x23, .u32, .ro, .none, 0⟩, ⟨0x24, .u16, .ro, .none, 0⟩, ⟨0x25, .u8, .ro, .none, 255⟩,
  ⟨0x26, .bool, .ro, .none, 0⟩, ⟨0x27, .u32, .ro, .none, 0⟩]

/-- The subindices of 0x2310. -/
def od2310 : List OdRow := [
  ⟨0x01, .u8, .ro, .none, 0⟩, ⟨0x02, .u8, .ro, .none, 255⟩, ⟨0x03, .u8, .ro, .none, 255⟩, ⟨0x04, .u8, .ro, .none, 255⟩,
  ⟨0x05, .u8, .ro, .none, 255⟩, ⟨0x06, .u32, .ro, .none, 0⟩, ⟨0x07, .u32, .ro, .none, 0⟩, ⟨0x08, .u16, .ro, .none, 0⟩,
  ⟨0x09, .u32, .ro, .none, 0⟩, ⟨0x0A, .u32, .ro, .none, 0⟩, ⟨0x0B, .u32, .ro, .none, 0⟩, ⟨0x0C, .u32, .ro, .none, 0⟩,
  ⟨0x0D, .u16, .ro, .none, 0⟩, ⟨0x0E, .u32, .ro, .none, 0⟩, ⟨0x0F, .u16, .ro, .none, 0⟩, ⟨0x10, .u16, .ro, .none, 0⟩,
  ⟨0x18, .u8, .ro, .none, 0⟩, ⟨0x19, .u32, .ro, .none, 0⟩, ⟨0x1A, .u32, .ro, .none, 0⟩, ⟨0x1B, .u64, .ro, .none, 0⟩,
  ⟨0x1C, .u32, .ro, .none, 0⟩, ⟨0x1D, .u8, .ro, .none, 0⟩, ⟨0x1E, .u32, .ro, .none, 0⟩]

/-- The subindices of 0x2340. -/
def od2340 : List OdRow := [
  ⟨0x01, .u8, .ro, .none, 0⟩, ⟨0x02, .u32, .ro, .none, 0⟩, ⟨0x03, .i32, .ro, .none, 0⟩, ⟨0x04, .i32, .ro, .none, 0⟩,
  ⟨0x05, .u16, .ro, .none, 0⟩, ⟨0x06, .u16, .ro, .none, 0⟩, ⟨0x10, .i32, .ro, .none, 0⟩, ⟨0x11, .u16, .ro, .none, 0⟩,
  ⟨0x12, .u8, .ro, .none, 0⟩, ⟨0x13, .u8, .ro, .none, 0⟩, ⟨0x14, .u64, .ro, .none, 0⟩, ⟨0x15, .u32, .ro, .none, 0⟩,
  ⟨0x20, .bool, .ro, .none, 0⟩, ⟨0x21, .u8, .ro, .none, 255⟩, ⟨0x22, .u32, .ro, .none, 0⟩, ⟨0x23, .u32, .ro, .none, 0⟩,
  ⟨0x24, .u32, .ro, .none, 0⟩, ⟨0x25, .bool, .ro, .none, 0⟩, ⟨0x26, .u32, .ro, .none, 0⟩]

/-- The subindices of 0x2348. -/
def od2348 : List OdRow := [
  ⟨0x01, .u16, .ro, .none, 0⟩, ⟨0x02, .u16, .ro, .none, 0⟩, ⟨0x03, .i16, .ro, .none, 0⟩, ⟨0x04, .i16, .ro, .none, 0⟩,
  ⟨0x05, .i16, .ro, .none, 0⟩, ⟨0x06, .u8, .ro, .none, 0⟩, ⟨0x07, .bool, .ro, .none, 0⟩, ⟨0x08, .u32, .ro, .none, 0⟩,
  ⟨0x09, .u32, .ro, .none, 0⟩]

/-- The subindices of 0x2400. -/
def od2400 : List OdRow := [
  ⟨0x01, .u8, .ro, .none, 0⟩, ⟨0x02, .u8, .rw, .stop, 0⟩, ⟨0x03, .u8, .rw, .stop, 0⟩, ⟨0x04, .u16, .rw, .stop, 65535⟩,
  ⟨0x05, .u64, .rw, .imm, 0⟩, ⟨0x06, .u32, .rw, .imm, 0⟩, ⟨0x07, .u16, .rw, .stop, 0⟩, ⟨0x08, .u8, .rw, .stop, 0⟩,
  ⟨0x09, .u32, .ro, .none, 4294967295⟩, ⟨0x0A, .u8, .wo, .imm, 0⟩, ⟨0x0B, .u8, .ro, .none, 0⟩, ⟨0x0C, .u64, .ro, .none, 0⟩,
  ⟨0x0D, .u32, .ro, .none, 0⟩, ⟨0x0E, .u32, .ro, .none, 0⟩]

/-- The subindices of 0x2500. -/
def od2500 : List OdRow := [
  ⟨0x01, .u64, .ro, .none, 0⟩, ⟨0x02, .u8, .ro, .none, 0⟩, ⟨0x03, .i32, .ro, .none, 0⟩, ⟨0x04, .i32, .ro, .none, 0⟩,
  ⟨0x05, .u64, .ro, .none, 0⟩, ⟨0x06, .u64, .ro, .none, 0⟩, ⟨0x07, .u64, .ro, .none, 0⟩, ⟨0x10, .u64, .wo, .imm, 0⟩,
  ⟨0x11, .u8, .ro, .none, 0⟩, ⟨0x12, .u32, .ro, .none, 0⟩, ⟨0x13, .u64, .ro, .none, 0⟩, ⟨0x14, .u8, .rw, .imm, 0⟩,
  ⟨0x15, .domain, .ro, .none, 0⟩, ⟨0x16, .u16, .ro, .none, 0⟩]

/-- The subindices of 0x2600. -/
def od2600 : List OdRow := [
  ⟨0x01, .u8, .ro, .none, 0⟩, ⟨0x02, .u16, .ro, .none, 0⟩, ⟨0x03, .u16, .ro, .none, 0⟩, ⟨0x04, .u64, .ro, .none, 0⟩,
  ⟨0x05, .u32, .ro, .none, 0⟩, ⟨0x06, .u64, .ro, .none, 0⟩, ⟨0x10, .u8, .rws, .imm, 0⟩, ⟨0x11, .u16, .ro, .none, 0⟩,
  ⟨0x12, .u16, .ro, .none, 0⟩]

/-- The subindices of 0x260A. -/
def od260A : List OdRow := [
  ⟨0x01, .u8, .ro, .none, 0⟩, ⟨0x02, .u16, .ro, .none, 0⟩, ⟨0x03, .u16, .ro, .none, 0⟩, ⟨0x04, .u64, .ro, .none, 0⟩,
  ⟨0x05, .u16, .ro, .none, 0⟩, ⟨0x10, .bool, .rws, .imm, 0⟩]

/-- The subindices of 0x260B. -/
def od260B : List OdRow := [
  ⟨0x01, .u8, .ro, .none, 0⟩, ⟨0x02, .u16, .ro, .none, 0⟩, ⟨0x03, .u16, .ro, .none, 0⟩, ⟨0x04, .u16, .ro, .none, 0⟩,
  ⟨0x05, .u16, .ro, .none, 0⟩, ⟨0x06, .u32, .ro, .none, 0⟩, ⟨0x07, .i16, .ro, .none, 0⟩, ⟨0x08, .u8, .ro, .none, 0⟩]

/-- The subindices of 0x2700. -/
def od2700 : List OdRow := [
  ⟨0x01, .u8, .ro, .none, 255⟩, ⟨0x02, .u8, .ro, .none, 255⟩, ⟨0x03, .u8, .ro, .none, 255⟩, ⟨0x04, .u8, .ro, .none, 255⟩,
  ⟨0x10, .u8, .ro, .none, 0⟩, ⟨0x11, .u16, .ro, .none, 0⟩, ⟨0x12, .u8, .ro, .none, 0⟩, ⟨0x13, .u8, .ro, .none, 0⟩,
  ⟨0x14, .u32, .ro, .none, 0⟩, ⟨0x15, .u32, .ro, .none, 0⟩, ⟨0x16, .u32, .ro, .none, 0⟩, ⟨0x17, .u64, .ro, .none, 0⟩,
  ⟨0x18, .u32, .ro, .none, 0⟩, ⟨0x20, .u8, .ro, .none, 0⟩, ⟨0x21, .u8, .ro, .none, 0⟩, ⟨0x22, .u32, .ro, .none, 0⟩,
  ⟨0x23, .u32, .ro, .none, 0⟩]

/-- The subindices of 0x2800. -/
def od2800 : List OdRow := [
  ⟨0x01, .u8, .ro, .none, 0⟩, ⟨0x02, .u8, .ro, .none, 0⟩, ⟨0x03, .u8, .ro, .none, 0⟩, ⟨0x04, .u8, .ro, .none, 0⟩,
  ⟨0x05, .u8, .ro, .none, 0⟩, ⟨0x06, .u8, .ro, .none, 0⟩, ⟨0x07, .u8, .ro, .none, 0⟩, ⟨0x08, .u8, .rwc, .imm, 0⟩,
  ⟨0x09, .u8, .ro, .none, 0⟩, ⟨0x10, .u64, .ro, .none, 0⟩, ⟨0x11, .u64, .ro, .none, 0⟩, ⟨0x12, .u64, .ro, .none, 0⟩,
  ⟨0x13, .u64, .ro, .none, 0⟩, ⟨0x14, .u64, .ro, .none, 0⟩, ⟨0x15, .u64, .ro, .none, 0⟩, ⟨0x16, .u64, .ro, .none, 0⟩,
  ⟨0x17, .u64, .ro, .none, 0⟩, ⟨0x20, .u32, .ro, .none, 0⟩, ⟨0x21, .u32, .ro, .none, 0⟩, ⟨0x22, .u8, .ro, .none, 255⟩,
  ⟨0x23, .u64, .ro, .none, 0⟩, ⟨0x24, .u16, .ro, .none, 0⟩, ⟨0x25, .u8, .ro, .none, 0⟩, ⟨0x26, .u8, .ro, .none, 255⟩,
  ⟨0x27, .u8, .ro, .none, 0⟩, ⟨0x30, .domain, .ro, .none, 0⟩]

/-- The subindices of 0x2900. -/
def od2900 : List OdRow := [
  ⟨0x01, .u8, .ro, .none, 0⟩, ⟨0x02, .u16, .rw, .imm, 0⟩, ⟨0x03, .u64, .ro, .none, 0⟩, ⟨0x04, .u8, .ro, .none, 0⟩,
  ⟨0x05, .u64, .rw, .imm, 0⟩, ⟨0x06, .u8, .ro, .none, 0⟩, ⟨0x07, .u8, .wo, .imm, 0⟩, ⟨0x08, .u64, .ro, .none, 0⟩]

/-- The subindices of 0x2910. -/
def od2910 : List OdRow := [
  ⟨0x01, .u8, .ro, .none, 0⟩, ⟨0x02, .u8, .ro, .none, 0⟩, ⟨0x03, .u8, .ro, .none, 0⟩, ⟨0x04, .u8, .ro, .none, 0⟩,
  ⟨0x05, .u8, .ro, .none, 0⟩, ⟨0x06, .u32, .ro, .none, 0⟩]

/-- The subindices of 0x2A00. -/
def od2A00 : List OdRow := [
  ⟨0x01, .u8, .ro, .none, 0⟩, ⟨0x02, .u32, .ro, .none, 0⟩, ⟨0x03, .u32, .ro, .none, 0⟩, ⟨0x04, .u16, .ro, .none, 8000⟩,
  ⟨0x05, .u32, .ro, .none, 0⟩, ⟨0x06, .u8, .ro, .none, 0⟩, ⟨0x07, .u8, .wo, .imm, 0⟩, ⟨0x08, .u8, .rw, .imm, 0⟩,
  ⟨0x09, .domain, .ro, .none, 0⟩, ⟨0x0A, .u16, .ro, .none, 0⟩, ⟨0x10, .u32, .ro, .none, 0⟩, ⟨0x11, .u8, .ro, .none, 0⟩,
  ⟨0x12, .u8, .ro, .none, 255⟩, ⟨0x13, .u32, .ro, .none, 0⟩, ⟨0x14, .u8, .ro, .none, 0⟩, ⟨0x15, .u32, .ro, .none, 0⟩,
  ⟨0x16, .u32, .ro, .none, 0⟩]

/-- The subindices of 0x2A40. -/
def od2A40 : List OdRow := [
  ⟨0x01, .u8, .ro, .none, 0⟩, ⟨0x02, .u8, .ro, .none, 0⟩, ⟨0x03, .u64, .ro, .none, 0⟩, ⟨0x04, .u64, .ro, .none, 0⟩,
  ⟨0x05, .u32, .ro, .none, 0⟩, ⟨0x06, .u64, .ro, .none, 0⟩, ⟨0x07, .u8, .ro, .none, 255⟩, ⟨0x08, .bool, .ro, .none, 0⟩]

/-- The subindices of 0x2B00. -/
def od2B00 : List OdRow := [
  ⟨0x01, .u8, .rw, .imm, 0⟩, ⟨0x02, .u64, .rw, .imm, 0⟩, ⟨0x03, .u32, .rw, .imm, 0⟩, ⟨0x04, .u32, .wo, .imm, 0⟩,
  ⟨0x05, .u8, .ro, .none, 0⟩, ⟨0x06, .u8, .wo, .imm, 0⟩]

/-- The subindices of 0x3000. -/
def od3000 : List OdRow := [
  ⟨0x01, .w128, .ro, .none, 0⟩, ⟨0x02, .u8, .ro, .none, 0⟩, ⟨0x03, .u8, .ro, .none, 0⟩, ⟨0x04, .u8, .ro, .none, 255⟩,
  ⟨0x05, .u16, .ro, .none, 0⟩]

/-- The subindices of 0x5000. -/
def od5000 : List OdRow := [
  ⟨0x01, .bool, .ro, .none, 0⟩, ⟨0x02, .u16, .ro, .none, 0⟩, ⟨0x03, .u8, .ro, .none, 0⟩, ⟨0x04, .u8, .ro, .none, 0⟩,
  ⟨0x05, .u16, .ro, .none, 0⟩, ⟨0x06, .u8, .ro, .none, 0⟩, ⟨0x07, .u32, .ro, .none, 0⟩, ⟨0x08, .u16, .ro, .none, 0⟩,
  ⟨0x10, .bool, .ro, .none, 0⟩, ⟨0x11, .u8, .ro, .none, 3⟩, ⟨0x12, .u32, .ro, .none, 0⟩, ⟨0x13, .u16, .ro, .none, 0⟩,
  ⟨0x14, .u16, .ro, .none, 0⟩, ⟨0x15, .u64, .ro, .none, 0⟩, ⟨0x16, .u8, .ro, .none, 0⟩]

/-- The subindices of 0x6000. -/
def od6000 : List OdRow := [
  ⟨0x01, .u16, .const, .none, 4096⟩, ⟨0x02, .u32, .ro, .none, 0⟩, ⟨0x03, .u32, .ro, .none, 0⟩, ⟨0x04, .u32, .rw, .imm, 0⟩,
  ⟨0x05, .domain, .ro, .none, 0⟩]

/-- A group of records: first index, number of records, stride 1, the rows, and the subindices that only some records have with
the number of records that have them. -/
structure OdGroup where
  base : Nat
  count : Nat
  rows : List OdRow
  only : List (Nat × Nat) := []
deriving DecidableEq, Repr

/-- Subindices 0x20 up that exist in the first four records only (R290, R305). -/
def pairSubs (n : Nat) : List (Nat × Nat) := (List.range n).map (fun i => (0x20 + i, 4))

/-- Table: Index map (R332). -/
def odGroups : List OdGroup := [
  ⟨0x1000, 1, od1000, []⟩, ⟨0x1001, 1, od1001, []⟩, ⟨0x1008, 1, od1008, []⟩, ⟨0x1009, 1, od1009, []⟩, ⟨0x100A, 1, od100A, []⟩,
  ⟨0x1018, 1, od1018, []⟩, ⟨0x1E00, 1, od1E00, []⟩, ⟨0x1F50, 1, od1F50, []⟩, ⟨0x1F51, 1, od1F51, []⟩, ⟨0x1F52, 1, od1F52, []⟩,
  ⟨0x1F53, 1, od1F53, []⟩, ⟨0x1F54, 1, od1F54, []⟩, ⟨0x1F55, 1, od1F55, []⟩, ⟨0x1F60, 1, od1F60, []⟩, ⟨0x1F61, 1, od1F61, []⟩,
  ⟨0x1F62, 1, od1F62, []⟩, ⟨0x1F63, 1, od1F63, []⟩, ⟨0x1F90, 1, od1F90, []⟩, ⟨0x1F91, 1, od1F91, []⟩, ⟨0x1F92, 1, od1F92, []⟩,
  ⟨0x1F93, 1, od1F93, []⟩, ⟨0x1F94, 1, od1F94, []⟩, ⟨0x1F95, 1, od1F95, []⟩, ⟨0x2000, 1, od2000, []⟩, ⟨0x2020, 16, od2020, []⟩,
  ⟨0x2100, 48, od2100, []⟩, ⟨0x2140, 24, od2140, []⟩, ⟨0x2160, 8, od2160, []⟩, ⟨0x2200, 16, od2200, []⟩, ⟨0x2220, 2, od2220, []⟩,
  ⟨0x2300, 8, od2300, pairSubs 8⟩, ⟨0x2310, 4, od2310, []⟩, ⟨0x2340, 8, od2340, pairSubs 7⟩, ⟨0x2348, 1, od2348, []⟩,
  ⟨0x2400, 256, od2400, []⟩, ⟨0x2500, 1, od2500, []⟩, ⟨0x2600, 10, od2600, [(0x10, 1), (0x11, 1), (0x12, 1)]⟩,
  ⟨0x260A, 1, od260A, []⟩, ⟨0x260B, 1, od260B, []⟩, ⟨0x2700, 1, od2700, []⟩, ⟨0x2800, 1, od2800, []⟩, ⟨0x2900, 1, od2900, []⟩,
  ⟨0x2910, 16, od2910, []⟩, ⟨0x2A00, 1, od2A00, []⟩, ⟨0x2A40, 64, od2A40, []⟩, ⟨0x2B00, 16, od2B00, []⟩,
  ⟨0x3000, 2048, od3000, []⟩, ⟨0x5000, 4096, od5000, []⟩, ⟨0x6000, 1, od6000, []⟩]

/-- The group of an index. -/
def odGroup (index : Nat) : Option OdGroup := odGroups.find? (fun g => decide (g.base ≤ index ∧ index < g.base + g.count))

/-- The row of an entry; none where the subindex does not exist in this record. -/
def OdGroup.row (g : OdGroup) (index sub : Nat) : Option OdRow :=
  match g.rows.find? (fun r => decide (r.sub = sub)) with
  | none => none
  | some r => if g.only.any (fun e => decide (e.1 = sub ∧ g.base + e.2 ≤ index)) then none else some r

/-- The row of an index and subindex. -/
def odRow (index sub : Nat) : Option OdRow :=
  match odGroup index with
  | none => none
  | some g => g.row index sub

end Sys2Proof.Machine
end

