-- ==== Sys2Proof/Machine/OdValues.lean ====
section
/-! DEFINITION. The values that the writable entries of the object dictionary take (R326; the Range columns of the object tables):
a reserved value, a value above the range and a value below it are refused, each with its code. -/

namespace Sys2Proof.Machine

/-- Sources of Table: Capture sources; 0 is the Default of the entry. -/
def captureSourceOk (c v : Nat) : Bool :=
  match v / 256 with
  | 0 => decide (v = 0)
  | 1 => decide (v % 256 < 48)
  | 2 => decide (v % 256 < 8)
  | 3 => decide (v % 256 ≠ c)
  | 4 => decide (v % 256 = 0)
  | 5 => decide (v % 256 = 0)
  | _ => false

/-- The abort code of a value that the entry's range refuses (log entry 11). -/
def odValueBad (index sub v : Nat) : Option Nat :=
  let reserved (b : Bool) : Option Nat := if b then some 0x06090030 else none
  let above (n : Nat) : Option Nat := if v > n then some 0x06090031 else none
  if index = 0x1E00 then
    (match sub with
      | 1 => if v < 0x600 then some 0x06090032 else none
      | _ => if v = 0 then some 0x06090032 else reserved (decide (v > 3)))
  else if index = 0x2000 then
    (match sub with
      | 2 => reserved (decide (v = 0 ∨ v > 12))
      | _ => above 31536000)
  else if 0x2400 ≤ index ∧ index < 0x2500 then
    (match sub with
      | 2 => reserved (decide (v > 3))
      | 3 => reserved (decide (v > 3))
      | 4 => if v = 0xFFFF ∨ v < index - 0x2400 then none else some 0x06090031
      | 6 => if v = 0 then some 0x06090032 else none
      | 7 => reserved (! captureSourceOk (index - 0x2400) v)
      | 8 => reserved (decide (v > 2))
      | 10 => reserved (decide (v = 0 ∨ v > 4))
      | _ => none)
  else if index = 0x2500 then (if sub = 0x14 then above 15 else none)
  else if index = 0x2600 then reserved (decide (v > 1))
  else if index = 0x260A then reserved (decide (v > 1))
  else if index = 0x2800 then reserved (decide (v ≠ 1))
  else if index = 0x2900 then
    (match sub with
      | 2 => above 511
      | 7 => reserved (decide (v ≥ 32))
      | _ => none)
  else if index = 0x2A00 then
    (match sub with
      | 7 => reserved (decide (v ≠ 1))
      | _ => above 63)
  else if 0x2B00 ≤ index ∧ index < 0x2B10 then
    (match sub with
      | 1 => reserved (decide (v > 3))
      | 6 => reserved (decide (v = 0 ∨ v > 2))
      | _ => none)
  else none

/-! ### Section 0x0009, the defaults of the object dictionary (R345 to R347) -/

/-- An entry of the section. -/
structure OdDefault where
  index : Nat
  sub : Nat
  len : Nat
  rsv : Nat
  value : Nat
deriving DecidableEq, Repr

/-- The entries of a section. -/
def odDefaults (sec : List Byte) : List OdDefault :=
  (blocks 16 sec).map (fun b => ⟨u16 b 0, u8 b 2, u8 b 3, u32 b 4, u64 b 8⟩)

/-- An entry that acceptance refuses for itself (R346). -/
def OdDefault.bad (d : OdDefault) : Bool :=
  match odRow d.index d.sub with
  | none => true
  | some r =>
    ! decide (r.acc = .rw ∨ r.acc = .rwc) || decide (r.ty = .domain ∨ r.ty = .w128)
    || decide (d.index = 0x2900 ∧ d.sub = 5) || decide (d.index = 0x2800 ∧ d.sub = 8)
    || (decide (0x2400 ≤ d.index ∧ d.index < 0x2500) && decide (d.sub = 5 ∨ d.sub = 6))
    || decide (d.len ≠ r.ty.size) || decide (d.value ≥ 256 ^ r.ty.size) || decide (d.rsv ≠ 0)
    || (odValueBad d.index d.sub d.value).isSome

/-- Neighbours out of order or equal. -/
def odDefaultsOrdered : List OdDefault → Bool
  | [] => true
  | a :: r => (match r with
    | [] => true
    | b :: _ => decide (256 * a.index + a.sub < 256 * b.index + b.sub)) && odDefaultsOrdered r

end Sys2Proof.Machine
end

