-- ==== Sys2Proof/Machine/LotTopo.lean ====
section
/-! DEFINITION. The acceptance checks of topology, cascade, pair, defaults and recorder policy (R346, R370, R371, R384, R385, R455),
and acceptance as a whole, step by step (R74). -/

namespace Sys2Proof.Machine

/-! ### Step 3 -/

/-- The header against strap and pair binding (R370); the module's address is none where the strap is invalid. -/
def checkTopology (l : Lot) (addr : Option Nat) (binding : Nat) : Refuse :=
  let a := addr.getD 255
  let bad := (! l.cascade && decide (l.members ≠ 0 ∨ l.member ≠ 0))
    || (l.cascade && decide (l.member = 0 ∧ l.members = 0))
    || decide (l.member ≠ 0 ∧ l.member > l.members)
    || (l.pair && decide (l.side ≠ 2))
    || (! l.pair && decide (l.side ≠ 2 ∧ l.side ≠ (if a < 8 then 0 else 1)))
    || decide (l.member ≠ a % 8)
  refuseIf bad 0x0F000123 0x00100000 <|>
  refuseIf (l.pair && decide (binding ≠ 1)) 0x0F000123 0x00100001

/-- CASCADE and PAIR bindings (R371). -/
def checkLinks (l : Lot) : Refuse :=
  (List.range 2048).findSome? (fun w =>
    let t := if w < 16 then 0 else l.bType w
    let m := l.bParam w % 8
    refuseIf ((decide (t = 2) && (! l.cascade || (if l.member = 0 then decide (m = 0 ∨ m > l.members) else decide (m ≠ 0))))
      || (decide (t = 9) && ! l.pair)) 0x0F000123 w)

/-- A word that no reflex partition may read: a CASCADE in word, or one that another than a reflex partition writes (R371). -/
def reflexBad (l : Lot) (w : Nat) : Bool :=
  (decide (w ≥ 16 ∧ l.bType w = 2) && ! bitOf (l.bParam w) 3) || (match l.writer w with
    | some q => ! l.pReflex q
    | none => false)

/-- A reflex flag on a lot without a member number, and what a reflex partition reads (R155, R371). -/
def checkReflex (l : Lot) : Refuse :=
  l.inUse.findSome? (fun p => refuseIf (l.pReflex p && (decide (l.member = 0) || (l.latched p).any (reflexBad l))) 0x0F000123 p)

/-- A Station Table on a member (R348). -/
def checkTrunkMember (l : Lot) : Refuse := refuseIf (! l.s7.isEmpty && decide (l.member ≠ 0)) 0x0F000123 0x000F0000

/-- Section 0x0009 (R345, R346): order and length first. -/
def checkDefaults (l : Lot) : Refuse :=
  let sec := l.sec 9
  let ds := odDefaults sec
  refuseIf (decide (sec.length % 16 ≠ 0 ∨ sec.length > 4096) || ! odDefaultsOrdered ds) 0x0F000122 0x00090000 <|>
  ds.findSome? (fun d => refuseIf d.bad 0x0F000122 (256 * d.index + d.sub))

/-- The recorder policy (R455). -/
def checkPolicy (l : Lot) : Refuse :=
  let b := l.sec 10
  let w := l.recWord
  refuseIf (decide (b.length ≠ 16) || decide (u8 b 0 ≥ 32) || decide (u8 b 1 ≠ 0) || decide (l.recPre < 1 ∨ l.recPre > 600)
    || decide (l.recPost > 600) || decide (l.recKey < 10 ∨ l.recKey > 600)
    || (if w = 0 then decide (l.recLane ≠ 0) else decide (w < 16 ∨ w > 2047 ∨ l.bType w ≠ 7 ∨ l.recLane > 127))
    || ! rangeZero b 11 5) 0x0F000122 0x00110000

/-- A channel configuration of the wrong length (R70). -/
def checkChannelLength (l : Lot) : Refuse := refuseIf (decide ((l.sec 5).length ≠ 1904)) 0x0F000122 5

/-- A Station Table that is present, however short, has its length (R70, R360). -/
def checkStationLength (img : List Byte) : Refuse :=
  refuseIf ((dirEntries img (dirCount img)).any (fun e => decide (e.id = 7 ∧ e.len ≠ 65568))) 0x0F000122 0x000F0000

/-! ### Steps 5 and 6 of a pair lot (R384, R385) -/

/-- Bytes of the IMAGE of partition p: 24 and 20 for each input-bound word of its plane, W4 and W5 always (R379). -/
def Lot.imageSize (l : Lot) (p : Nat) : Nat :=
  24 + 20 * (((l.latched p).filter l.inputBound ++ [4, 5]).eraseDups).length

/-- One term of U_x added to a running sum: 400,000 bytes per ticks is kbit/s. -/
def addLink (a : Nat × Nat) (bytes ticks : Nat) : Nat × Nat := (a.1 * ticks + 400000 * bytes * a.2, a.2 * ticks)

/-- U_x in kbit/s as a running sum (a fraction) over the partitions, then the partner words, and the item of the first excess. -/
def Lot.linkLoad (l : Lot) : (Nat × Nat) × Option Nat :=
  let add (a : (Nat × Nat) × Option Nat) (bytes ticks item : Nat) : (Nat × Nat) × Option Nat :=
    let f := addLink a.1 bytes (max 1 ticks)
    (f, a.2.or (if f.1 > 160000 * f.2 then some item else none))
  let sum := l.inUse.foldl (fun a p => add a (l.imageSize p + 48) (l.pPeriod p) p) ((0, 1), none)
  let pw := (((List.range 2048).filter (fun w => decide (w ≥ 16) && decide (l.bType w = 9))).map l.bPartner).eraseDups.length
  match l.feeding with
  | none => sum
  | some f => if pw = 0 then sum else add sum (24 + 20 * pw) (l.pPeriod f) 16

/-- Step 5: the cross-link load of a pair lot. -/
def checkLinkLoad (l : Lot) : Refuse :=
  if ! l.pair then none
  else match l.linkLoad.2 with
    | some i => some (0x0F000145, i)
    | none => none

/-- X_p in twelfths of a tick: 2 us and 0.025 us a byte are 1,200 and 15. -/
def Lot.pairDelay (l : Lot) (p : Nat) : Nat :=
  if ! l.pair then 0
  else 1200 + 15 * ((l.inUse.filter (fun q => decide (q = p ∨ l.pClass q ≤ l.pClass p))).map (fun q => l.imageSize q + 48)).foldl (· + ·) 0

/-- The iteration of R162 with B + X_p until it is stable or above the period. -/
def estPair (l : Lot) (p x : Nat) : Nat → Nat → Nat
  | 0, r => r
  | n + 1, r => let r1 := estNext l p r + x; if r1 = r then r else if r1 > 12 * l.pPeriod p then r1 else estPair l p x n r1

/-- The response estimate at the floor rate in twelfths of a tick, of a pair lot with X_p (R162, R384). -/
def Lot.respEstimate (l : Lot) (p : Nat) : Nat :=
  let x := l.pairDelay p
  if x = 0 then l.estimate p else estPair l p x 65536 (estNext l p 0 + x)

/-- The estimate in whole ns (0x2020+p:0B), rounded down (DESIGN CHOICE, log entry 74: R162 gives no rounding). -/
def Lot.respEstimateNs (l : Lot) (p : Nat) : Nat := l.respEstimate p * 5 / 3

/-! ### Acceptance (Table: Acceptance steps, R74) -/

/-- The lot on this module: what the checks need of the OTP and the straps. -/
structure AcceptEnv where
  slot : Option (List Byte)
  silicon : Nat
  firmware : Nat
  sample : Bool
  addr : Option Nat
  binding : Nat
deriving DecidableEq, Repr

/-- Steps 0 to 2, on the image: what stops is the step and the refusal. An image that ends before its length field differs from it. -/
def acceptImage (img : List Byte) (e : AcceptEnv) : Option (Nat × Nat × Nat) :=
  let at_ (n : Nat) (r : Refuse) : Option (Nat × Nat × Nat) := r.map (fun x => (n, x))
  at_ 0 (refuseIf (decide (img.length ≠ u32 img 48 ∨ img.length < 52)) 0x0F000100 0) <|>
  at_ 1 (checkSignature img e.slot) <|>
  at_ 2 (checkDir img <|> checkCrcs img)

/-- Step 3, row by row. -/
def acceptCompat (img : List Byte) (l : Lot) (e : AcceptEnv) : Refuse :=
  checkCompat l e.silicon e.firmware e.sample <|>
  checkHeader l <|> checkDirReserved img <|> checkWops l <|> checkMasks l <|> checkBindings l <|> checkPartitions l <|>
  checkChannelLength l <|> checkInputs l <|> checkOutputs l <|> checkSpeed l <|> checkAnalog l <|> checkPresets l <|> checkStationLength img <|> checkTrunk l <|> checkChannels l <|>
  checkDefaults l <|> checkPolicy l <|> checkReference l <|>
  checkTopology l e.addr e.binding <|> checkLinks l <|> checkReflex l <|> checkPairParallel l <|> checkTrunkMember l <|>
  checkSources l <|>
  checkNonsafe l (fun w => l.stations.any (fun s => decide (s.img = w) && decide (s.cls = 1))) <|>
  checkOwners l

/-- Steps 4 and 5. -/
def acceptAdmit (l : Lot) : Refuse := checkPeriods l <|> checkLoad l <|> checkBarriers l
def acceptAlloc (l : Lot) : Refuse :=
  checkSlots l <|> checkDarkSlots l <|> checkSchedule l <|> checkTrkBuffers l <|> checkLinkLoad l

/-- Step 6, with what the engine's own faults bring. -/
def acceptDryRun (l : Lot) (faults : List EngineFault) : Refuse :=
  let sigs := l.inUse.map (fun p => (p, drySigs l faults p))
  sigs.findSome? (fun x => refuseIf (decide (x.2.1 ≠ x.2.2)) 0x0F000151 x.1) <|>
  sigs.findSome? (fun x => refuseIf (decide (x.2.1 ≠ u64 (l.sec 11) (8 * x.1))) 0x0F000152 x.1) <|>
  l.inUse.findSome? (fun p => refuseIf (decide (l.respEstimate p > 12 * l.pPeriod p)) 0x0F000153 p)

/-- Acceptance of an image, steps 0 to 5: the step that stops it with code and item, or none. -/
def acceptStatic (img : List Byte) (e : AcceptEnv) : Option (Nat × Nat × Nat) :=
  let l := Lot.ofImage img
  let at_ (n : Nat) (r : Refuse) : Option (Nat × Nat × Nat) := r.map (fun x => (n, x))
  acceptImage img e <|> at_ 3 (acceptCompat img l e) <|> at_ 4 (acceptAdmit l) <|> at_ 5 (acceptAlloc l)

/-- Acceptance of an image, steps 0 to 6. -/
def acceptAll (img : List Byte) (e : AcceptEnv) (faults : List EngineFault) : Option (Nat × Nat × Nat) :=
  acceptStatic img e <|> (acceptDryRun (Lot.ofImage img) faults).map (fun x => (6, x))

end Sys2Proof.Machine
end

