-- ==== Sys2Proof/Machine/TrunkOps.lean ====
section
/-! DEFINITION. TRK: records and frames (R350 to R353, R364), judging and landing (R365, R366), station quality (R367), the ring
(R369), TRUNK-IN words and health lanes (R94, R483), the trunk halt-release source (R236). -/

namespace Sys2Proof.Machine

/-! ### Records and frames -/

/-- The record CRC (R352); `head` are bytes 0 to 3 of the slot. -/
def recordCrc (conn addr seq : Nat) (head data : List Byte) : List Byte :=
  leBytes 4 (crc32c (leBytes 4 conn ++ leBytes 2 addr ++ [BitVec.ofNat 8 seq, 0] ++ head ++ data)).toNat

/-- One slot (R351): type 1 INPUT, 2 OUTPUT, 14 PLACEHOLDER with a CRC of 0 (R353). -/
def slotBytes (e : StEntry) (type seq q data : Nat) : List Byte :=
  let head := leBytes 2 (e.addr + 4096 * type) ++ [BitVec.ofNat 8 seq, BitVec.ofNat 8 (e.len + 32 * q)]
  let d := leBytes e.len data
  head ++ d ++ List.replicate (4 * ((e.len + 3) / 4) - e.len) 0 ++
    (if type = 14 then [0, 0, 0, 0] else recordCrc e.conn e.addr seq head d)

/-- The lanes of a word that station e uses, as a number. -/
def StEntry.pick (e : StEntry) (v : Lanes) : Nat := field v.toNat (e.off + e.width - 1) e.off

/-- Quality and data of the OUTPUT record of station e (R364). -/
def State.outputRecord (s : State) (e : StEntry) : Nat × Nat :=
  let c := s.comG e.out
  let live := decide (s.sup.mode = .commissioning ∨ s.sup.mode = .run) && decide (s.sle.dbg.state < 2)
  if ! live || tagNS c.tag || decide (tagQ c.tag = 3) then (3, 0) else (tagQ c.tag, e.pick c.val)

/-- The slots of station e as the master sends them. -/
def State.sendSlots (s : State) (seq : Nat) (e : StEntry) : List Byte :=
  (if e.out = 0 then [] else
    let r := s.outputRecord e
    slotBytes e 2 seq r.1 r.2) ++ slotBytes e 14 seq 0 0

/-- An Ethernet frame without its FCS: addresses, EtherType, payload with padding (R310, R350). -/
def ethFrame (dst src : List Byte) (type : Nat) (payload : List Byte) : List Byte :=
  dst ++ src ++ beBytes 2 type ++ payload ++ List.replicate (46 - payload.length) 0

/-- The frame with its FCS, least significant byte first. -/
def withFcs (b : List Byte) : List Byte := b ++ leBytes 4 (crc32 b).toNat

/-- The trunk's destination address. -/
def trunkDst : List Byte := [0x03#8, 0x46#8, 0x50#8, 0x58#8, 0x54#8, 0x01#8]

/-- Frame j of cycle c as sent on TA (`tb` false) or TB (R350). -/
def State.trunkFrame (s : State) (c j count : Nat) (tb : Bool) (f : List StEntry) : List Byte :=
  let slots := f.foldl (fun a e => a + (if e.out = 0 then 1 else 2)) 0
  withFcs (ethFrame trunkDst s.macBytes 0x88B5
    ([0x11#8, 0x01#8, (if tb then 1#8 else 0#8), 0] ++ leBytes 4 c ++ leBytes 2 j ++ leBytes 2 count ++ leBytes 2 slots ++ [0, 0]
      ++ (f.map (s.sendSlots (c % 256))).flatten))

/-- All frames of cycle c, as sent on TA or on TB. -/
def State.trunkFrames (s : State) (c : Nat) (tb : Bool) : List (List Byte) :=
  let fs := s.lotD.frames
  (List.range fs.length).map (fun j => s.trunkFrame c j fs.length tb (fs.getD j []))

/-- The frames of cycle k go out, on both ports at the same time (R361). -/
def State.trunkSend (s : State) (k : Nat) : State :=
  if s.domOn 4 then { s with trk := { s.trk with sent := s.trunkFrames k false, sentB := s.trunkFrames k true } } else s

/-- A cycle of the trunk starts at this tick (R349), and has started. -/
def State.cycleTick (s : State) : Bool :=
  s.trk.running && s.clk.running && decide (s.lotD.trkCycle ≠ 0) && decide (s.trk.epoch ≤ s.clk.now)
    && decide ((s.clk.now - s.trk.epoch) % s.lotD.trkCycle = 0)
def State.cycleNow (s : State) : Nat := (s.clk.now - s.trk.epoch) / max 1 s.lotD.trkCycle % 2 ^ 32

/-- A commit at the tick of a cycle start is included in that cycle's OUTPUT records (R364, R368). -/
def State.trunkResend (s : State) : State :=
  if s.cycleTick ∧ s.trk.cycle = some s.cycleNow ∧ ! s.trk.sent.isEmpty then s.trunkSend s.cycleNow else s

/-! ### TRUNK-IN words and health (R94, R367, R483) -/

/-- The landing word of a TRUNK-IN word: each station's lanes, and the worst state among its stations. -/
def State.trunkIn (s : State) (w : Nat) : Cell :=
  let sts := s.lotD.stations.filter (fun e => decide (e.img = w))
  let v := sts.foldl (fun (a : Lanes) e => a ||| (BitVec.ofNat 128 ((s.st e.addr).image % 2 ^ e.width) <<< e.off)) 0
  let q := sts.foldl (fun a e => max a (s.st e.addr).quality) 0
  ⟨v, s.lotD.force w (mkTag (sts.any (fun e => decide (e.cls = 1))) 3 q), 0⟩

/-- A station's health lane. -/
def State.health (s : State) (a : Nat) : Bool := s.lotD.hasTrunk && (s.lotD.station a).isSome && decide ((s.st a).quality ≠ 3)

/-- LOCAL selector 0x10 + k. -/
def State.healthLanes (s : State) (k : Nat) : Lanes := lanesOf 128 (fun l => s.health (128 * k + l))

/-! ### The trunk halt-release source (R236) -/

/-- Station e carries the trunk bit of the halt-release source. -/
def Lot.hrStation (l : Lot) (e : StEntry) : Bool :=
  decide (l.hrType = 1) && decide (e.img = l.hrWord) && decide (e.off ≤ l.hrChan ∧ l.hrChan < e.off + e.width)

/-- The station is STALE or FAULT, or a record of it is missing: the pulse is discarded. -/
def State.judgeGap (s : State) (e : StEntry) : State :=
  if s.lotD.hrStation e then { s with sin := { s.sin with trunk := {} } } else s

/-- A landed GOOD record with stamp `t`: the limits and the jam are judged on stamps (R236). -/
def State.judgeRecord (s : State) (e : StEntry) (data t : Nat) : State :=
  if s.lotD.hrStation e then
    let j := s.sin.trunk
    if bitOf data (s.lotD.hrChan - e.off) then
      match j.rise with
      | none => if j.ready then { s with sin := { s.sin with trunk := { j with ready := false, rise := some t, last := t } } } else s
      | some r =>
        let tooLong := decide (t - r > 150000000)
        let s1 : State := { s with sin := { s.sin with trunk := { j with last := t, jam := j.jam || tooLong } } }
        if tooLong && ! j.jam then s1.mlog 0x2000 0x1E 1 0 (2 ^ 63) else s1
    else
      let s1 := { s with sin := { s.sin with trunk := { ready := true, rise := none, jam := false } } }
      match j.rise with
      | some r => if ! j.jam ∧ 2500000 ≤ t - r ∧ t - r ≤ 150000000 then s1.resetEdge .trunk else s1
      | none => s1
  else s

/-! ### Landing and quality (R366, R367) -/

/-- The quality, data, sequence and receive stamp of a record of station e. -/
def State.recordIn (s : State) (e : StEntry) (q data stamp seq : Nat) : State :=
  let v := s.st e.addr
  let v1 := { v with landed := v.landed + 1, stamp := stamp, seq := seq, landedNow := true, goodNow := decide (q = 0) }
  if q ≠ 0 then (s.setSt e.addr { v1 with quality := 3, image := 0 }).judgeGap e
  else if v.quality = 3 ∧ ! v.goodPrev then s.setSt e.addr v1
  else (s.setSt e.addr { v1 with quality := 0, image := data % 2 ^ e.width }).judgeRecord e data stamp

/-- A record of station e lands; a repair of its word takes effect with the landing (R439). -/
def State.landRecord (s : State) (e : StEntry) (q data stamp seq : Nat) : State := (s.recordIn e q data stamp seq).repairsAtLanding e.img

/-- The record of station e for this cycle is decided: both copies judged, or the cycle ends; two accepted copies that differ in any data
bit do not land (R366). -/
def State.decideStation (s : State) (e : StEntry) (seq : Nat) : State :=
  let v := s.st e.addr
  match v.copyA, v.copyB with
  | none, none => s
  | some a, none => s.landRecord e a.1 a.2.1 a.2.2 seq
  | none, some b => s.landRecord e b.1 b.2.1 b.2.2 seq
  | some a, some b =>
    if a.1 = b.1 ∧ a.2.1 = b.2.1 then s.landRecord e a.1 a.2.1 (min a.2.2 b.2.2) seq
    else (s.setSt e.addr { v with crc := v.crc + 1 }).mlog (0x5000 + e.addr) 0x13 1 0 (v.crc + 1)

/-- The cycle ends for station e: an undecided copy lands, a GOOD station without a landed record turns STALE. -/
def State.endStation (s : State) (seq : Nat) (e : StEntry) : State :=
  let v0 := s.st e.addr
  let s1 := if v0.judgedA && v0.judgedB then s else s.decideStation e seq
  let v := s1.st e.addr
  let stale := ! v.landedNow && decide (v.quality = 0)
  let s2 := s1.setSt e.addr { v with
    quality := if stale then 2 else v.quality, goodPrev := v.goodNow, goodNow := false, landedNow := false,
    judgedA := false, judgedB := false, copyA := none, copyB := none }
  if ! v.landedNow then s2.judgeGap e else s2

/-- The stations at the break, plus 1 (0 none): the highest that the wrapped TA copies served and the lowest that the wrapped TB copies
served. Where wrapped copies have come from one side alone, the other station is its neighbour in slot order (R369, log entry 46). -/
def Lot.breakAt (l : Lot) (hi lo : Nat) : Nat × Nat :=
  let next := (l.stations.find? (fun e => decide (e.addr + 1 > hi))).map (fun e => e.addr + 1)
  let before := ((l.stations.filter (fun e => decide (e.addr + 1 < lo))).getLast?).map (fun e => e.addr + 1)
  if hi ≠ 0 ∧ lo = 0 then (hi, next.getD 0) else if hi = 0 ∧ lo ≠ 0 then (before.getD 0, lo) else (hi, lo)

/-- The ring at the end of a cycle (R369): a break is recognised, or the ring is closed again. -/
def State.ringEnd (s : State) : State :=
  let t := s.trk
  let at_ := s.lotD.breakAt t.hiA t.loB
  let n := s.lotD.frames.length
  let say (a : State) (x sev : Nat) : State := if x = 0 then a else a.mlog (0x5000 + (x - 1)) 0x15 sev 0 (a.st (x - 1)).stamp
  let whole := (List.range n).all (fun j => decide (t.backA.get 0 j = 1) && decide (t.backB.get 0 j = 1))
  let s1 :=
    if t.wrapped && ! t.broken then
      say (say { s with trk := { t with broken := true, breakA := at_.1, breakB := at_.2 } } at_.1 1) at_.2 1
    else if t.broken && ! t.wrapped && whole then
      say (say { s with trk := { t with broken := false, breakA := 0, breakB := 0 } } t.breakA 0) t.breakB 0
    else s
  { s1 with trk := { s1.trk with backA := {}, backB := {}, wrapped := false, hiA := 0, loB := 0 } }

/-- The present trunk cycle ends. -/
def State.endCycle (s : State) : State :=
  match s.trk.cycle with
  | none => s
  | some c => (s.lotD.stations.foldl (fun a e => a.endStation (c % 256) e) s).ringEnd

/-- The trunk at an epoch (R348, R349, R367): every station FAULT; the counts go back to 0 at an exit from Validating. Without a trunk
both ports present no link. -/
def State.trunkStart (s : State) (fresh : Bool) (e : Nat) : State :=
  let s1 := s.stationsStart fresh
  let has := s1.lotD.hasTrunk
  { s1 with trk := { ({} : Trk) with
      running := has, epoch := e, stations := s1.trk.stations, linkA := s1.trk.linkA && has, linkB := s1.trk.linkB && has } }

/-- The trunk stops (R349). -/
def State.trunkStop (s : State) : State := { s with trk := s.trk.stopped }

end Sys2Proof.Machine
end

