-- ==== Sys2Proof/Machine/Landing.lean ====
section
/-! DEFINITION. Landing buffers as their sources write them (R94, R483), the link status word (R408) and the committed view
(R99). Words whose content follows from the state of their source are computed from it; HOST-IN, CASCADE in and PAIR words
stand in the landing buffers of NMT. -/

namespace Sys2Proof.Machine

/-- A front-end or pair readback disagreement stands (R386 to R388). -/
def State.anyDisagreement (s : State) : Bool :=
  s.cpl.fronts.cells.any (fun e => e.2.set) || (List.range 16).any (fun n => (s.out n).pairDis)

/-- This module is ready (R388, R392, R400). -/
def State.cplReady (s : State) : Bool :=
  decide (s.cplRole = .standby ∨ s.cplRole = .isolated) && decide (s.sup.mode = .commissioning ∨ s.sup.mode = .run)
  && ! s.anyDisagreement && s.cpl.peer.seen && decide (s.lotD.id = s.cpl.peer.lotId) && s.cpl.disAt.isNone && ! s.cpl.tripOpen

/-- The Ready lane: this module's readiness, or at the Active what the partner reports, unless a loop is open (R391, R392,
R408). -/
def State.readyLane (s : State) : Bool :=
  if s.cplRole = .active then s.cpl.peer.live && s.cpl.peer.ready && decide (s.cpl.ownBand ≠ .openWire) && ! s.cpl.tripOpen else s.cplReady

/-- Table: Link status word; the lanes of the pair are 0 on a module without a pair lot. -/
def State.linkStatus (s : State) : Lanes :=
  let p := s.lotD.pair
  lanesOf 24 (fun l => match l with
    | 0 => decide (s.cpl.link = 2)
    | 1 => p && decide (s.cpl.ownBand = .released)
    | 2 => p && decide (s.cpl.ownBand = .holding)
    | 3 => p && decide (s.cpl.ownBand = .unpowered)
    | 4 => p && decide (s.cpl.ownBand = .openWire)
    | 5 => p && s.cpl.tripOpen
    | 6 => p && decide (s.cpl.trip = 2)
    | 7 => p && s.readyLane
    | 8 => decide (s.clk.disc = .locked)
    | 9 => p && s.anyDisagreement
    | _ => decide (16 ≤ l) && (s.cpl.sources.get {} (l - 16)).present)

/-- A LOCAL word by its selector (R92, R483); the force-NONSAFE flag adds NONSAFE. -/
def State.localSel (s : State) (sel : Nat) : Cell :=
  if sel = 0 then localWord true (s.eventLanes false)
  else if sel = 1 then localWord true (s.eventLanes true)
  else if sel = 2 then localWord s.inputsOn s.chanFaultLanes
  else if sel = 3 then localWord s.inputsOn s.sourceFaultLanes
  else if sel = 0x30 then localWord (s.domOn 5) s.linkStatus
  else localWord true (s.healthLanes (sel - 0x10))

/-- The landing buffer of an input-bound word. W5 has none: until its first latch it shows its reset value (R91). -/
def State.landing (s : State) (w : Nat) : Cell :=
  let init : Cell := ⟨0, s.lotD.initTag w, 0⟩
  match w with
  | 0 => s.w0
  | 1 => s.w1
  | 2 => s.w2
  | 3 => s.w3
  | 4 => s.w4
  | 5 => ⟨5, 0x04, 0⟩
  | _ =>
    match s.lotD.bType w with
    | 1 =>
      let c := s.localSel (s.lotD.bParam w)
      { c with tag := s.lotD.force w c.tag }
    | 3 => if s.lotD.hasTrunk && s.lotD.stations.any (fun e => decide (e.img = w)) then s.trunkIn w else init
    | 5 => ⟨if s.hpo.quality = 3 then 0 else (s.nmt.land.get init w).val, mkTag true 4 s.hpo.quality, 0⟩
    | _ => s.nmt.land.get init w

/-- Put a word into its landing buffer; a spare that waits for the landing takes over (R94, R439). -/
def State.land (s : State) (w : Nat) (c : Cell) : State :=
  ({ s with nmt := { s.nmt with land := s.nmt.land.set ⟨0, s.lotD.initTag w, 0⟩ w c } } : State).repairsAtLanding w

/-- The committed view of a word (R99). An input-bound word that a partition reads and none has latched yet, before its first release
or after a wake, shows its landing value: R99 names only the latest latch and the word that no partition reads (DESIGN CHOICE, log
entry 74). -/
def State.view (s : State) (w : Nat) : Cell :=
  if s.lotD.inputBound w then
    match s.nmt.seen.get none w with
    | some c => c
    | none => s.landing w
  else s.comG w

end Sys2Proof.Machine
end

