-- ==== Sys2Proof/Machine/RecCommit.lean ====
section
/-! DEFINITION. What a commit brings to the recorder: keyframe, release record, triggers (R447 to R451, R453, R456). -/

namespace Sys2Proof.Machine

/-- A list of words as entries of 20 bytes (R379, R451). -/
def entryBytes (ws : List (Nat × Cell)) : List Byte := ws.flatMap (fun e => sigEntry e.1 e.2.tag e.2.val)

/-- Lane timer states of partition p, 4 bytes each: e in [23:0], p in bit 24 (R379). -/
def State.timerBytes (s : State) (p : Nat) : List Byte :=
  (s.lotD.pTimers p).flatMap (fun t =>
    let c := s.timer .ground t
    leBytes 4 (c.e + (if c.p then 2 ^ 24 else 0)))

/-- The committed words and tags that partition p writes, its timers and t_prev (0 where it has none): the tail of a FULL IMAGE
body. -/
def State.committedBody (s : State) (p : Nat) : List Byte :=
  entryBytes ((s.lotD.pWords p).map (fun w => (w, s.comG w))) ++ s.timerBytes p ++ leBytes 8 ((s.part p).prev.getD 0)

/-- A keyframe (R451). -/
def State.keyframe (s : State) : List Byte :=
  [0x30#8] ++ leBytes 8 (s.sle.epoch.getD 0) ++ leBytes 8 s.lotD.id
    ++ s.lotD.inUse.flatMap (fun p => leBytes 4 (s.part p).seq ++ s.committedBody p)
    ++ entryBytes (s.lotD.inputWords.map (fun w => (w, s.view w)))

/-- A keyframe is due: after an epoch or a gap, at the policy's interval, after 8 MiB (R451). -/
def State.keyDue (s : State) : Bool :=
  s.rcr.keyOwed || decide (s.clk.real - s.rcr.keyAt ≥ s.lotD.recKey * sTicks) || decide (s.rcr.total - s.rcr.keyPos ≥ 8388608)

/-- The recorder runs in Commissioning and Run; in Replay it records event 10 alone (R460). -/
def State.frcRuns (s : State) : Bool := s.frcOn && decide (s.sup.mode = .commissioning ∨ s.sup.mode = .run)

/-- W8 as a keyframe records it, where a partition writes it. -/
def State.recordedW8 (s : State) : Option Cell :=
  if s.lotD.inUse.any (fun p => s.lotD.pWrites p 8) then some { s.comG 8 with key := 0 } else none

/-- Write a due keyframe, behind the marker of an open gap; one that does not fit opens a gap, and after a gap it waits for a release
at which it fits (R451, R453). The committed W8 that it holds is the last recorded one (R447). -/
def State.frcKeyframe (s : State) : State :=
  if ! s.keyDue then s
  else
    let key := s.keyframe
    if s.rcr.fits key.length then
      let s2 := s.frcMark
      let refs := s.lotD.inputWords.foldl (fun (t : Tab (Option Cell)) w => t.set none (32768 + w) (some (s.view w))) s2.rcr.lastIn
      let s3 : State := { s2 with rcr := { s2.rcr with
        keyPos := s2.rcr.total, keyAt := s.clk.real, keyOwed := false, keyWaits := false, lastIn := refs, lastW8 := s.recordedW8 } }
      let s4 := s3.frcStore s.clk.now key
      if s4.lotD.recFlag 4 then (s4.tmuDue.swatchNow 1).frcEvent 8 ((s4.tmu.swatch.id + 1) % 2 ^ 32) else s4
    else if s.rcr.keyWaits then s
    else
      let s1 := s.frcLose s.clk.now key.length
      { s1 with rcr := { s1.rcr with keyOwed := true } }

/-- FRC at a release: a due keyframe (R451). -/
def State.frcRelease (s : State) : State := if s.frcRuns then s.frcKeyframe else s

/-- A changed-word entry (R449); none where value and tag are as last recorded. -/
def changedEntry (w : Nat) (old new : Cell) : List Byte :=
  if old.val = new.val ∧ old.tag = new.tag then []
  else
    let a := laneBytes old.val
    let b := laneBytes new.val
    let idx := (List.range 16).filter (fun i => byteAt a i != byteAt b i)
    leBytes 2 (w + (if old.tag = new.tag then 0 else 2048)) ++ (if old.tag = new.tag then [] else [new.tag])
      ++ leBytes 2 (idx.foldl (fun m i => m + 2 ^ i) 0) ++ idx.map (fun i => b.getD i 0)

/-- The input-bound words of partition p's plane, ascending, W5 with them (R447). -/
def State.planeInputs (s : State) (p : Nat) : List Nat :=
  let ws := s.lotD.latched p
  (List.range 2048).filter (fun w => s.lotD.inputBound w && (decide (w = 5) || ws.contains w))

/-- The input-bound word as last recorded for partition p: in its last record, also one before the latest keyframe; where it has none
in this epoch, in the keyframe (R447). -/
def State.lastInput (s : State) (p w : Nat) : Cell :=
  match s.rcr.lastIn.get none (2048 * p + w) with
  | some c => c
  | none => (s.rcr.lastIn.get none (32768 + w)).getD {}

/-- The release record of the attempt of partition p that commits (R448). -/
def State.releaseRecord (s : State) (p : Nat) : List Byte :=
  let q := s.part p
  let n := (q.seq + 1) % 2 ^ 32
  let entries := (s.planeInputs p).map (fun w => changedEntry w (s.lastInput p w) (s.plane .ground p w))
  let ch := entries.filter (fun e => ! e.isEmpty)
  let w8 := match q.workG.get none 8 with
    | some c => if s.rcr.lastW8 = some { c with key := 0 } then [] else laneBytes c.val ++ [c.tag]
    | none => []
  let cp := decide (n % 256 = 0)
  let k := ch.length
  [BitVec.ofNat 8 (16 + p), BitVec.ofNat 8 (q.key.toNat + (if q.attempt = 2 then 128 else 0)),
   BitVec.ofNat 8 ((if w8.isEmpty then 0 else 128) + (if cp then 64 else 0) + min k 63)]
    ++ leBytes 2 (q.sigG / 2 ^ 32 % 65536) ++ (if q.attempt = 2 then [q.failedKey.setWidth 8] else [])
    ++ (if k ≥ 63 then leBytes 2 k else []) ++ ch.flatten ++ w8 ++ (if cp then leBytes 8 q.sigG else [])

/-- FRC notes what the record of a commit of partition p, stored at position pos, was made of (R448). -/
def State.frcNoteRelease (s : State) (p pos : Nat) : State :=
  let q := s.part p
  { s with rcr := { s.rcr with
      lastRel := if (q.seq + 1) % 2 ^ 32 % 256 = 0 then none else some (pos, q.sigG)
      lastIn := (s.planeInputs p).foldl (fun t w => t.set none (2048 * p + w) (some (s.plane .ground p w))) s.rcr.lastIn
      lastW8 := match q.workG.get none 8 with
        | some c => some { c with key := 0 }
        | none => s.rcr.lastW8 } }

/-- The record `b` of a commit of partition p: stored, or lost where it does not fit into its window (R453). -/
def State.frcPutRelease (s : State) (p : Nat) (b : List Byte) : State :=
  if ! s.rcr.fits b.length then s.frcLose (s.part p).stamp b.length
  else (s.frcMark.frcStore (s.part p).stamp b).frcNoteRelease p s.frcMark.rcr.total

/-- FRC at a commit of partition p: its record, and what it was last recorded with. -/
def State.frcCommit (s : State) (p : Nat) : State :=
  if ! s.frcRuns then s else s.frcPutRelease p (s.releaseRecord p)

/-- The triggers of a commit of partition p: a rise of the trigger lane, a committed retry (R456). -/
def State.frcTriggers (s : State) (p : Nat) (retry : Bool) : State :=
  let w := s.lotD.recWord
  let has := decide (w ≠ 0) && s.lotD.pWrites p w
  let lane := (s.comG w).val.getLsbD s.lotD.recLane
  let s1 := if has && lane && ! s.rcr.lane then s.frcFreeze 4 255 else s
  let s2 := if has then { s1 with rcr := { s1.rcr with lane := lane } } else s1
  if retry && s2.lotD.recFlag 1 then s2.frcFreeze 6 255 else s2

end Sys2Proof.Machine
end

