-- ==== Sys2Proof/Machine/Latch.lean ====
section
/-! DEFINITION. Keys, release instants and the latch planes (R91, R95, R127, R156). -/

namespace Sys2Proof.Machine

/-! ### The mordant key (R127) -/

/-- One step of the 31-bit LFSR with polynomial x^31 + x^28 + 1 (log entry 9). -/
def lfsrStep (r : BitVec 31) : BitVec 31 :=
  (r <<< 1) ||| (if r.getLsbD 30 != r.getLsbD 27 then 1#31 else 0#31)

/-- Seven steps: one draw. -/
def lfsrDraw (r : BitVec 31) : BitVec 31 :=
  lfsrStep (lfsrStep (lfsrStep (lfsrStep (lfsrStep (lfsrStep (lfsrStep r))))))

/-- A key that may be used: not 0, not the previous committed key, not the failed key of a retry. -/
def keyOk (last failed k : Key) : Bool := decide (k ≠ 0 ∧ k ≠ last ∧ k ≠ failed)

/-- The least admissible key: what a draw falls back to if 64 draws in a row were discarded (log entry 9). -/
def leastKey (last failed : Key) : Key :=
  if keyOk last failed 1#7 then 1#7 else if keyOk last failed 2#7 then 2#7 else 3#7

/-- Draw until the key is admissible. -/
def drawKey : Nat → BitVec 31 → Key → Key → BitVec 31 × Key
  | 0, r, last, failed => (r, leastKey last failed)
  | n + 1, r, last, failed =>
    let r1 := lfsrDraw r
    let k := r1.setWidth 7
    if keyOk last failed k then (r1, k) else drawKey n r1 last failed

/-! ### Instants and planes -/

/-- An overdye word moved to another key inside its bank (R95, R130). -/
def Cell.rekey (k : Key) (c : Cell) : Cell :=
  { c with val := c.val.rotateLeft ((k.toNat + 128 - c.key.toNat) % 128), key := k }

/-- W5 as EVS writes it into a latch plane (R91). -/
def State.w5 (s : State) (q : Part) : Lanes :=
  BitVec.ofNat 128 (1 + (if q.first then 4 else 0) + (if q.edge then 8 else 0) +
    (if s.cplRole = .active then 16 else 0) + (if s.cplRole = .standby then 32 else 0) +
    (if s.sup.mode = .run then 64 else 0) + (if s.sup.mode = .commissioning then 128 else 0))

/-- An input-bound word goes into both planes of partition p under key k (R95). -/
def State.latchCell (s : State) (p : Nat) (k : Key) (w : Nat) (c : Cell) : State :=
  { s with nmt := { s.nmt with
      planeG := s.nmt.planeG.set {} (2048 * p + w) { c with key := 0 },
      planeO := s.nmt.planeO.set {} (2048 * p + w) ⟨dye k c.val, c.tag, k⟩,
      seen := s.nmt.seen.set none w (some { c with key := 0 }) } }

/-- A word that another partition writes, or that nothing writes, goes into both planes from the committed banks. -/
def State.latchCommitted (s : State) (p : Nat) (k : Key) (w : Nat) : State :=
  let g := s.comG w
  let o := (s.comO w).rekey k
  { s with nmt := { s.nmt with
      planeG := s.nmt.planeG.set {} (2048 * p + w) g,
      planeO := s.nmt.planeO.set {} (2048 * p + w) o } }

/-- The words of partition p's plane that are not input-bound. -/
def State.latchOthers (s : State) (p : Nat) (k : Key) : State :=
  ((s.lotD.latched p).filter (fun w => ! s.lotD.inputBound w)).foldl (fun a w => a.latchCommitted p k w) s

/-- The input-bound words of the plane from the module's own landing buffers, with W5 as EVS writes it (R91, R95). -/
def State.latchOwn (s : State) (p : Nat) (k : Key) (w5 : Lanes) : State :=
  (((s.lotD.latched p).filter (fun w => s.lotD.inputBound w && decide (w ≠ 5))).foldl
    (fun a w => a.latchCell p k w (a.landing w)) s).latchCell p k 5 ⟨w5, 0x04#8, 0⟩

/-- The input-bound words of the plane from an IMAGE (R381): what the partition reads, and W5, which every plane holds; an IMAGE
carries W4 also where the partition does not read it (R379). -/
def State.latchImage (s : State) (p : Nat) (k : Key) (ws : List (Nat × Cell)) : State :=
  let read := s.lotD.latched p
  (ws.filter (fun e => decide (e.1 = 5) || read.contains e.1)).foldl (fun a e => a.latchCell p k e.1 e.2) s

/-- W5 as an open release of partition p writes it: with the edge it took along (R141). -/
def State.w5Open (s : State) (p : Nat) : Lanes := s.w5 { s.part p with edge := (s.part p).edgeSeen }

end Sys2Proof.Machine
end

