-- ==== Sys2Proof/Machine/CplOps.lean ====
section
/-! DEFINITION. CPL: frames sent, cascade sources, results and their comparison, images, roles, the TRIP loop, resync (chapter
16). -/

namespace Sys2Proof.Machine

/-! ### Frames sent -/

/-- A cross-link frame and a cascade frame appear on the pins: the frames of one instant stand together. -/
def State.pushXl (s : State) (f : List Byte) : State :=
  { s with cpl := { s.cpl with
      outAt := s.clk.real,
      xlOut := if s.cpl.outAt = s.clk.real then s.cpl.xlOut ++ [f] else [f],
      caOut := if s.cpl.outAt = s.clk.real then s.cpl.caOut else [] } }
def State.pushCa (s : State) (f : List Byte) : State :=
  { s with cpl := { s.cpl with
      outAt := s.clk.real,
      caOut := if s.cpl.outAt = s.clk.real then s.cpl.caOut ++ [f] else [f],
      xlOut := if s.cpl.outAt = s.clk.real then s.cpl.xlOut else [] } }

/-- The check of a cross-link frame (R379): over the session fold, then the frame up to the check. -/
def xlCheck (fold head : List Byte) : List Byte := leBytes 4 (crc32c (fold ++ head)).toNat

/-- A cross-link frame without its check (Table: Cross-link frame). -/
def xlHead (type part seq : Nat) (body : List Byte) : List Byte :=
  [BitVec.ofNat 8 type, BitVec.ofNat 8 part] ++ leBytes 2 body.length ++ leBytes 4 seq ++ body

/-- The cross-link is up and LNK is ON. -/
def State.xlUp (s : State) : Bool := decide (s.cpl.link = 2) && s.domOn 5

/-- CPL's pair binding: LNK is ON and a secret is bound. -/
def State.pairPort (s : State) : Bool := s.domOn 5 && decide (s.pairBinding = 1)

/-- Send a frame over a link that is up. -/
def State.xlSend (s : State) (type part seq : Nat) (body : List Byte) : State :=
  if s.xlUp then
    let h := xlHead type part seq body
    s.pushXl (h ++ xlCheck s.cpl.fold h)
  else s

/-- Send a frame that carries the link frame count: STATUS, CONTROL, PAIR WORDS. -/
def State.xlCounted (s : State) (type : Nat) (body : List Byte) : State :=
  if s.xlUp then
    State.xlSend { s with cpl := { s.cpl with frames := (s.cpl.frames + 1) % 2 ^ 32 } } type 0xFF ((s.cpl.frames + 1) % 2 ^ 32) body
  else s

/-- A CONTROL message: code and 8-byte argument (Table: Control messages). -/
def controlBody (code arg : Nat) : List Byte := BitVec.ofNat 8 code :: leBytes 8 arg
def State.xlControl (s : State) (code arg : Nat) : State := s.xlCounted 4 (controlBody code arg)

/-- The check of a cascade frame (R374): over source, destination, two low bytes of the sequence, then the frame. -/
def caCheck (head : List Byte) : List Byte :=
  leBytes 4 (crc32c ([head.getD 1 0, head.getD 2 0, head.getD 4 0, head.getD 5 0] ++ head)).toNat

/-- The module works in a cascade with LNK ON. -/
def State.caOn (s : State) : Bool := s.lotD.cascade && s.domOn 5

/-- The module's place in the ring: its lot's member number, before a lot is active that of its strap, which acceptance compares with the
lot (R22, R370). -/
def State.memberNo (s : State) : Nat := if s.lot.active.isSome then s.lotD.member else s.sup.straps.addr.getD 0 % 8

/-- CI and CO work: in every state with LNK ON, but for a lot without a cascade (R373, R375). -/
def State.caPort (s : State) : Bool := s.domOn 5 && (s.lot.active.isNone || s.lotD.cascade)

/-- A cascade frame with its check (R374). -/
def caFrame (type src dst hop seq : Nat) (body : List Byte) : List Byte :=
  let h := [BitVec.ofNat 8 type, BitVec.ofNat 8 src, BitVec.ofNat 8 dst, BitVec.ofNat 8 hop] ++ leBytes 4 seq ++ body
  h ++ caCheck h

/-- Send a cascade frame: hop count 8, the next sequence for its destination (R374). -/
def State.caSend (s : State) (type dest : Nat) (body : List Byte) : State :=
  if s.caPort then
    let n := (s.cpl.seqs.get 0 dest + 1) % 2 ^ 32
    State.pushCa { s with cpl := { s.cpl with seqs := s.cpl.seqs.set 0 dest n } } (caFrame type s.memberNo dest 8 n body)
  else s
def State.caControl (s : State) (dest code arg : Nat) : State := s.caSend 0x13 dest (controlBody code arg)

/-! ### Cascade words (R375, R376) -/

def State.csrc (s : State) (m : Nat) : CSource := s.cpl.sources.get {} m
def State.setCsrc (s : State) (m : Nat) (c : CSource) : State := { s with cpl := { s.cpl with sources := s.cpl.sources.set {} m c } }

/-- The CASCADE words of the lot in a direction (bit 3: out), by member field. -/
def Lot.cascadeWords (l : Lot) (out : Bool) (m : Nat) : List Nat :=
  (List.range 2048).filter (fun w => decide (w ≥ 16) && decide (l.bType w = 2) && (bitOf (l.bParam w) 3 == out) && decide (l.bParam w % 8 = m))

/-- A WORDS entry: index, tag, the value; a word that is delivered as FAULT goes with quality FAULT and all lanes 0 (R89, R90). -/
def wordsEntry (i : Nat) (c : Cell) : List Byte :=
  [BitVec.ofNat 8 i, if deliverQ c.tag = 3 then setQ c.tag 3 else c.tag, 0, 0] ++ laneBytes (if deliverQ c.tag = 3 then 0 else c.val)

/-- The WORDS frames of a commit of partition p, in ascending order of destination; a module that is not Active or Solo delivers
none (R200, R375, R381). -/
def State.sendWords (s : State) (p : Nat) : State :=
  if s.caOn ∧ (s.cplRole = .solo ∨ s.cplRole = .active) then
    let q := s.part p
    (List.range 8).foldl (fun a m =>
      let ws := (a.lotD.cascadeWords true m).filter (fun w => (q.workG.get none w).isSome)
      if ws.isEmpty then a else a.caSend 0x11 m (ws.flatMap (fun w => wordsEntry (a.lotD.bParam w / 16) (a.comG w)))) s
  else s

/-- Every word of source m goes to FAULT with all lanes 0 (R376). -/
def State.faultSource (s : State) (m : Nat) : State :=
  ((s.lotD.cascadeWords false m).foldl (fun a w => a.land w ⟨0, a.lotD.force w (mkTag false 2 3), 0⟩) s).setCsrc m { s.csrc m with fault := true }

/-- Every PAIR word goes to FAULT with all lanes 0 (R380). -/
def State.pairFault (s : State) : State :=
  ((List.range 2048).filter (fun w => decide (w ≥ 16) && decide (s.lotD.bType w = 9))).foldl
    (fun a w => a.land w ⟨0, a.lotD.force w (mkTag false 6 3), 0⟩) s

/-- Both links have lost their supply: the words that they brought are FAULT (R94). -/
def State.linksLost (s : State) : State := (List.range 8).foldl State.faultSource s.pairFault

/-! ### The TRIP loop (R392, R393) -/

/-- Source 20 mA for 100 ms. -/
def State.pullTrip (s : State) : State :=
  if s.domOn 5 ∧ s.cpl.trip ≠ 1 then
    ({ s with cpl := { s.cpl with trip := 1, tripAt := s.clk.real } } : State).mlog 0x2700 0x13 2 0 1
  else s

/-! ### Roles (R383, R394, R395) -/

def State.cpart (s : State) (p : Nat) : CPart := s.cpl.parts.get {} p
def State.setCpart (s : State) (p : Nat) (c : CPart) : State := { s with cpl := { s.cpl with parts := s.cpl.parts.set {} p c } }

/-- A release that waits for its IMAGE latches its input-bound words from the module's own landing buffers, keeping its stamp. -/
def State.ownLatch (s : State) (p : Nat) : State :=
  if (s.part p).phase = .image then
    let s1 := s.latchOwn p (s.part p).key (s.w5Open p)
    s1.setPart p { s1.part p with phase := .ready }
  else s

/-- After a change of the waiting releases: an idle engine starts the partition that goes first (R158). -/
def State.kick (s : State) : State :=
  match s.sle.cur with
  | none => if s.instantOpen then s else s.schedule
  | some _ => s

def State.ownLatches (s : State) : State := ((List.range 16).foldl State.ownLatch s).kick

/-- No IMAGE is kept. -/
def State.dropImages (s : State) : State :=
  { s with cpl := { s.cpl with
      parts := s.cpl.parts.cells.foldl (fun (t : Tab CPart) e => t.set {} e.1 { e.2 with images := [], missing := 0 }) s.cpl.parts } }

/-- The standby leaves in-step operation (R383). -/
def State.isolate (s : State) : State :=
  if s.cplRole = .standby then ((s.setRole .isolated).ownLatches.dropImages).mlog 0x2000 0x07 1 0 3 else s

/-- The Active has no reference: its time base runs free (R259). -/
def State.runFree (s : State) : State :=
  { s with clk := { s.clk with disc := .free, rateCorr := 0, goodRun := 0, badRun := 0 } }

/-- A module that takes its epoch from a reference: a member, or a pair module that is not Active (R156). -/
def State.follows (s : State) : Bool :=
  decide (s.clk.disc ≠ .free) && ((s.lotD.cascade && decide (s.lotD.member ≠ 0)) || (s.lotD.pair && decide (s.cplRole ≠ .active)))

/-- A partition at a new epoch: its first release has no predecessor, so no attempt stays open, and its counters and minima start again
(R156, R164, R169; log entry 69). -/
def Part.atEpoch (q : Part) : Part :=
  { q with
    phase := .idle, workG := {}, workO := {}, timG := {}, timO := {}, edgeSeen := false, relK := 0,
    maxResp := 0, minSlack := 1000, retries := 0, alarms := 0, suspensions := 0 }

/-- Epoch `e` of the release grid, for the trunk too (R156, R349). The BIST credit starts again from it (log entry 70). -/
def State.newEpoch (s : State) (fresh : Bool) (e : Nat) : State :=
  let ps := s.sle.parts.cells.foldl (fun (t : Tab Part) c => t.set {} c.1 c.2.atEpoch) s.sle.parts
  ({ s with sle := { s.sle with epoch := some e, parts := ps, cur := none, credit := 0, creditAt := max e s.clk.now } } : State).trunkStart fresh e

/-- A new epoch: the reference's where the module follows one, else its own (R156). -/
def State.freshEpoch (s : State) (fresh : Bool) : State :=
  let own := nextEpoch s.clk.now
  s.newEpoch fresh (if s.follows then s.clk.refEpoch.getD own else own)

/-- The Active role at start-up (R394). -/
def State.becomeActive (s : State) : State :=
  let s1 := (s.setRole .active).runFree.outRefresh .active
  let s2 : State := { s1 with cpl := { s1.cpl with wasActive := false, peer := { s1.cpl.peer with actRun := 0 } } }
  if s2.sle.epoch.isNone then s2.freshEpoch false else s2

/-- Take-over (R395): counted, the policy's freeze, the waiting releases latched, SOUT with the last committed W8. -/
def State.takeOver (s : State) : State :=
  let s1 := (s.setRole .active).runFree
  let s2 := ({ s1 with cpl := { s1.cpl with takeOvers := (s1.cpl.takeOvers + 1) % 2 ^ 32, disNow := false, disRun := 0, peer := { s1.cpl.peer with actRun := 0 } } } : State)
  let s3 := (s2.ownLatches.dropImages).mlog 0x2700 0x18 1 0 s2.cpl.takeOvers
  let c := s3.comG 8
  let s4 := s3.takeW8 c.val (deliverQ c.tag) .active
  if s4.lotD.recFlag 0 then s4.frcFreeze 5 255 else s4

/-- The module enters Resync at its first step; what it has recorded of earlier steps goes (R402). -/
def State.enterResync (s : State) : State :=
  let s1 := (s.setRole .resync).outRefresh .resync
  { s1 with cpl := { s1.cpl with
      resync := .identity, lotLogged := false, inStep := 0, parts := {}, disNow := false, disRun := 0, dirty := false, disAt := none, wasActive := false } }

/-- Step 1 and 2 of a resync (R402): the partner's STATUS shows this lot, then the request goes out. -/
def State.resyncTry (s : State) : State :=
  let p := s.cpl.peer
  if s.cplRole = .resync ∧ s.cpl.resync = .identity ∧ s.xlUp ∧ p.live then
    if p.lotId = s.lotD.id ∧ p.sha = s.lotD.digest then
      if p.role = 1 then ({ s with cpl := { s.cpl with resync := .requested } } : State).xlControl 9 0 else s
    else if s.cpl.lotLogged then s
    else ({ s with cpl := { s.cpl with lotLogged := true } } : State).mlog 0x2700 0x17 1 0 p.lotId
  else s

/-- A restart at step 2; after 3 restarts within 1 h the module stays Isolated Standby (R402). -/
def State.resyncRestart (s : State) : State :=
  let recent := s.cpl.restarts.filter (fun t => decide (s.clk.real - t ≤ 3600 * sTicks)) ++ [s.clk.real]
  let s1 := { s with cpl := { s.cpl with restarts := recent, inStep := 0, parts := {}, dirty := false, disNow := false } }
  if recent.length > 3 then ((s1.setRole .isolated).ownLatches).mlog 0x2000 0x07 2 0 3
  else (({ s1 with cpl := { s1.cpl with resync := .requested } } : State).ownLatches).xlControl 9 0

/-- A loop that reads released or unpowered (R395, R398). -/
def bandFree (b : OwnBand) : Bool := decide (b = .released ∨ b = .unpowered)

/-- A module that is not Active takes over while its loop is free and it is ready (R395, R398): judged at a new band, a STATUS, the loss of
the cross-link and the end of a module cycle. -/
def State.seizeLoop (s : State) : State :=
  if (s.cplRole = .standby ∨ s.cplRole = .isolated) ∧ bandFree s.cpl.ownBand ∧ s.cplReady then s.takeOver else s

/-- The module counts as side A at start-up: by its strap, or because it was Active when it parked (R394, R404). -/
def State.sideA (s : State) : Bool := s.cpl.wasActive || decide (s.sup.straps.addr.getD 0 < 8)

/-- Table: Role at start-up, its rows that apply at once. -/
def State.decideRole (s : State) : State :=
  if s.cplRole ≠ .undecided ∨ ! s.released ∨ ! s.domOn 5 then s
  else if s.cpl.ownBand = .holding ∨ (s.cpl.peer.live ∧ s.cpl.peer.role = 1) then s.enterResync.resyncTry
  else if s.sideA ∧ bandFree s.cpl.ownBand then s.becomeActive
  else s

/-- An Isolated Standby that hears its Active again over the cross-link goes to Resync; after 3 restarts within 1 h it stays where it is
(R383, R402, log entry 57). -/
def State.rejoin (s : State) : State :=
  let recent := s.cpl.restarts.filter (fun t => decide (s.clk.real - t ≤ 3600 * sTicks))
  if s.cplRole = .isolated ∧ s.cpl.peer.role = 1 ∧ recent.length ≤ 3 then s.enterResync.resyncTry else s

/-- The role at an exit from Validating or a wake: none yet with a pair lot, Solo without (R65, R394). -/
def State.startRole (s : State) : State :=
  let s1 := { s with cpl := { s.cpl with parts := {}, disNow := false, disRun := 0, dirty := false, disAt := none, fronts := {}, stuck := {} } }
  if s1.lotD.pair then (s1.setRole .undecided).decideRole
  else if s1.lotD.cascade && decide (s1.lotD.member ≠ 0) then s1.setRole .solo
  else (s1.setRole .solo).runFree

/-! ### Images (R379 to R381, R402) -/

/-- The words of an IMAGE: the input-bound words of partition p's plane, W4 and W5 always. -/
def State.imageWords (s : State) (p : Nat) : List (Nat × Cell) :=
  let ws := s.planeInputs p
  (List.range 2048).filterMap (fun w =>
    if ws.contains w then some (w, s.plane .ground p w)
    else if w = 4 then some (w, s.w4)
    else none)

/-- The IMAGE body: stamp, word count, entries. -/
def imageBody (stamp : Nat) (ws : List (Nat × Cell)) : List Byte := leBytes 8 stamp ++ leBytes 2 ws.length ++ entryBytes ws

/-- Entries of 20 bytes from a body: `n` of them from offset `o`. -/
def readEntries (b : List Byte) (o n : Nat) : List (Nat × Cell) :=
  (List.range n).map (fun i =>
    let e := slice b (o + 20 * i) 20
    (u16 e 0, ⟨bytesLanes (e.drop 4), e.getD 2 0, 0⟩))

/-- An IMAGE from a body. -/
def readImage (seq : Nat) (b : List Byte) : PImage := ⟨seq, u64 b 0, readEntries b 10 (u16 b 8)⟩

/-- What the active sends at a latch strobe of partition p (R379, R402): the IMAGE, and the FULL IMAGE of its first release at or
after t_s of a resync. -/
def State.sendImage (s : State) (p : Nat) : State :=
  if s.cplRole = .active ∧ s.xlUp then
    let q := s.part p
    let n := (q.seq + 1) % 2 ^ 32
    let body := imageBody q.stamp (s.imageWords p)
    let s1 := s.xlSend 1 p n body
    if s1.cpl.ts ≠ 0 ∧ q.stamp ≥ s1.cpl.ts ∧ ! (s1.cpart p).full then
      (s1.setCpart p { s1.cpart p with full := true }).xlSend 5 p n (body ++ s1.committedBody p)
    else s1
  else s

/-- The words that the lot names as partner words, each once (R379, R385). -/
def Lot.partnerWords (l : Lot) : List Nat :=
  (((List.range 2048).filter (fun w => decide (w ≥ 16) && decide (l.bType w = 9))).map l.bPartner).eraseDups

/-- PAIR WORDS at a release of the feeding partition (R379). -/
def State.sendPairWords (s : State) (p : Nat) : State :=
  if s.lotD.pair ∧ s.lotD.feeding = some p ∧ ! s.lotD.partnerWords.isEmpty then
    s.xlCounted 6 (entryBytes (s.lotD.partnerWords.map (fun w => (w, s.view w))))
  else s

/-! ### The standby's own front-ends (R227, R386, R387) -/

/-- The lanes compared: channels, speed channels and analog inputs in use, with the number each stands under. -/
def Lot.frontLanes (l : Lot) : List (Nat × Nat × Nat) :=
  ((List.range 48).filter l.chUsed).map (fun n => (n, 0, n)) ++
  ((List.range 8).filter l.spUsed).map (fun n => (64 + n, 2, 32 + n)) ++
  ((List.range 8).filter (fun n => decide (l.aiMode n ≠ 0))).map (fun n => (80 + n, 3, 8 * n + 2))

/-- One comparison: a lane that has differed for 50 ms is set, and clears after it has agreed for 1 s. -/
def FrontEnd.step (f : FrontEnd) (now : Nat) (differ : Bool) : FrontEnd :=
  if differ then
    let since := f.diffSince.getD now
    { diffSince := some since, agreeSince := none, set := f.set || decide (now - since ≥ 50 * msTicks) }
  else
    let since := f.agreeSince.getD now
    { diffSince := none, agreeSince := some since, set := f.set && ! decide (now - since ≥ sTicks) }

/-- One front-end lane `e` (key, word, lane) against the active's words (R386). -/
def State.frontStep (ws : List (Nat × Cell)) (a : State) (e : Nat × Nat × Nat) : State :=
  match ws.find? (fun x => decide (x.1 = e.2.1)) with
  | none => a
  | some x =>
    let old := a.cpl.fronts.get {} e.1
    let new := old.step a.clk.now (x.2.val.getLsbD e.2.2 != (a.landing e.2.1).val.getLsbD e.2.2)
    let a1 := { a with cpl := { a.cpl with fronts := a.cpl.fronts.set {} e.1 new } }
    if new.set && ! old.set then a1.mlog 0x2700 0x15 1 e.1 1 else a1

/-- Every front-end lane of the lot (R386). -/
def State.frontCheck (s : State) (ws : List (Nat × Cell)) : State := s.lotD.frontLanes.foldl (State.frontStep ws) s

/-- The W8 of the active's latest RESULT that wrote it. -/
def State.peerW8 (s : State) : Option Lanes :=
  ((List.range 16).filter (fun p => s.lotD.pWrites p 8)).findSome? (fun p =>
    (s.cpart p).peer.bind (fun r => if r.wrote then some r.val else none))

/-- W4 of a module that is not Active against the active's (R227, R387): three releases in a row set the pair readback disagreement; a
load that is energised while the active neither commands nor sees it makes the standby pull TRIP. -/
def State.readbackCheck (s : State) (ws : List (Nat × Cell)) : State :=
  match ws.find? (fun x => decide (x.1 = 4)) with
  | none => s
  | some x =>
    let w8 := s.peerW8
    ((List.range 16).filter s.lotD.oPairPar).foldl (fun a n =>
      let mine := a.w4.val.getLsbD n
      let theirs := x.2.val.getLsbD n
      let o := a.out n
      let run := if mine != theirs then o.pairRun + 1 else 0
      let a1 := a.setOut n { o with pairRun := run, pairDis := o.pairDis || decide (run ≥ 3) }
      let fe := (a1.cpl.fronts.get {} (96 + n)).step a1.clk.now (mine != theirs)
      let a2 := { a1 with cpl := { a1.cpl with fronts := a1.cpl.fronts.set {} (96 + n) { fe with set := false } } }
      let agreed : Bool := match fe.agreeSince with
        | some t => decide (a2.clk.now - t ≥ sTicks)
        | none => false
      let a3 := if (a2.out n).pairDis && agreed then a2.setOut n { a2.out n with pairDis := false } else a2
      let dark : Bool := match w8 with
        | some v => ! v.getLsbD n
        | none => false
      let bad := mine && ! theirs && dark
      let k : Nat := if bad then a3.cpl.stuck.get 0 n + 1 else 0
      let a4 := { a3 with cpl := { a3.cpl with stuck := a3.cpl.stuck.set 0 n k } }
      if k ≥ 3 && decide (a4.cplRole = Role.standby) then a4.pullTrip else a4) s

/-- The plane of partition p's waiting release from an IMAGE: it may run now (R381). -/
def State.useImage (s : State) (p : Nat) (i : PImage) : State :=
  let q := s.part p
  let s1 := (s.latchImage p q.key i.words).setPart p { q with phase := .ready, stamp := i.stamp }
  let s2 := s1.setCpart p { s1.cpart p with
    view := i.words, images := (s1.cpart p).images.filter (fun j => decide (j.seq ≠ i.seq)) }
  if s2.lotD.feeding = some p ∧ s2.cplRole = .standby then s2.frontCheck i.words else s2

/-- The IMAGE for the release that waits, where it is held. -/
def State.imageFor (s : State) (p : Nat) : Option PImage :=
  (s.cpart p).images.find? (fun i => decide (i.seq = ((s.part p).seq + 1) % 2 ^ 32))

/-- A waiting release takes its IMAGE. -/
def State.tryImage (s : State) (p : Nat) : State :=
  if (s.part p).phase = .image then
    match s.imageFor p with
    | some i => s.useImage p i
    | none => s
  else s

/-! ### Catching up (R402) -/

/-- The key of a new release, drawn from the LFSR (R127). -/
def State.newKey (s : State) (p : Nat) (failed : Key) : State × Key :=
  let d := drawKey 64 s.sle.lfsr (s.part p).lastKey failed
  ({ s with sle := { s.sle with lfsr := d.1 } }, d.2)

/-- The earliest buffered release, by stamp, class and number. -/
def State.nextBuffered (s : State) : Option (Nat × PImage) :=
  (List.range 16).foldl (fun (a : Option (Nat × PImage)) p =>
    match s.imageFor p with
    | none => a
    | some i => match a with
      | none => some (p, i)
      | some b => if rankLt (i.stamp, s.lotD.pClass p, p) (b.2.stamp, s.lotD.pClass b.1, b.1) then some (p, i) else a) none

/-- No partition is open. -/
def State.allIdle (s : State) : Bool := (List.range 16).all (fun p => decide ((s.part p).phase = .idle))

/-- Every release instant up to now has been evaluated. -/
def State.caughtUp (s : State) : Bool :=
  s.lotD.inUse.all (fun p => (s.cpart p).images.isEmpty && decide (s.clk.now < (s.part p).stamp + s.lotD.pPeriod p))

/-- Evaluate the buffered releases in order; once the grid is reached, clean cycles are counted. -/
def State.catchUp (s : State) : State :=
  if s.cplRole = .resync ∧ s.cpl.resync = .catching ∧ s.allIdle then
    match s.nextBuffered with
    | some (p, i) =>
      let k := s.newKey p 0
      let s1 := k.1.latchOthers p k.2
      let s2 := s1.setPart p { s1.part p with
        phase := .image, attempt := 1, key := k.2, failedKey := 0, stamp := i.stamp, relAt := i.stamp, edge := false, edgeSeen := false }
      (s2.useImage p i).kick
    | none =>
      if s.caughtUp then { s with cpl := { s.cpl with resync := .counting, inStep := 0, dirty := false, disNow := false } } else s
  else s

/-- Bytes of the buffered IMAGEs. -/
def State.imageBuffer (s : State) : Nat :=
  s.cpl.parts.cells.foldl (fun a e => e.2.images.foldl (fun b i => b + 24 + 20 * i.words.length) a) 0

/-! ### Results (R382, R383, R400) -/

/-- A disagreement is found: counted, logged. With the first one the standby is not ready, sends DISAGREEMENT and starts a full BIST; a
module in Resync starts again (R400, R402). -/
def State.disagree (s : State) (p seq : Nat) : State :=
  let s1 := ({ s with cpl := { s.cpl with disagreements := (s.cpl.disagreements + 1) % 2 ^ 32, disNow := true, dirty := true } } : State).mlog
    0x2700 0x15 2 p seq
  match s1.cplRole with
  | .standby =>
    if s1.cpl.disAt.isSome then { s1 with cpl := { s1.cpl with disAt := some s1.clk.now } }
    else
      let s2 := { s1 with
        cpl := { s1.cpl with disAt := some s1.clk.now, sweepSnap := s1.bist.sweeps, repairSnap := s1.bist.repairs.length },
        sle := { s1.sle with locState := 1, locOpen := true } }
      s2.xlControl 8 (p + 256 * seq)
  | .resync => if s1.cpl.resync = .catching ∨ s1.cpl.resync = .counting then s1.resyncRestart else s1
  | _ => s1

/-- Two RESULTs agree: signatures and W8 fields. -/
def PResult.agrees (a b : PResult) : Bool := decide (a.sig = b.sig ∧ a.wrote = b.wrote ∧ a.tag = b.tag ∧ a.val = b.val)

/-- The module evaluates in step with its partner: what is compared under R382. -/
def State.inStepNow (s : State) (p : Nat) : Bool :=
  match s.cplRole with
  | .standby => true
  | .resync => decide (s.cpl.resync = .catching ∨ s.cpl.resync = .counting)
  | .active => decide (s.cpl.peer.role = 2) || (decide (s.cpl.peer.role = 4) && (s.cpart p).full)
  | _ => false

/-- Compare as soon as both RESULTs of a release are held (R382). -/
def State.compareResults (s : State) (p : Nat) : State :=
  let c := s.cpart p
  match c.own, c.peer with
  | some a, some b =>
    if s.inStepNow p ∧ a.seq = b.seq ∧ c.compared ≠ a.seq + 1 then
      let s1 := s.setCpart p { c with compared := a.seq + 1, missing := 0 }
      if a.agrees b then s1 else s1.disagree p a.seq
    else s
  | _, _ => s

/-- The RESULT of a commit of partition p: n, signature, tick, W8 (Table: Cross-link bodies). -/
def State.ownResult (s : State) (p : Nat) : PResult :=
  let q := s.part p
  match q.workG.get none 8 with
  | some c => ⟨(q.seq + 1) % 2 ^ 32, q.sigG, s.clk.now, true, c.tag.toNat, c.val⟩
  | none => ⟨(q.seq + 1) % 2 ^ 32, q.sigG, s.clk.now, false, 0, 0⟩

def PResult.bytes (r : PResult) : List Byte :=
  leBytes 8 r.sig ++ leBytes 8 r.tick ++ [if r.wrote then 1 else 0, BitVec.ofNat 8 r.tag] ++ laneBytes r.val

/-- A RESULT from a body. -/
def readResult (seq : Nat) (b : List Byte) : PResult :=
  ⟨seq, u64 b 0, u64 b 8, decide (u8 b 16 ≠ 0), u8 b 17, bytesLanes (slice b 18 16)⟩

/-- A pair module sends its RESULT after a commit, in every role, and compares (R379, R382). -/
def State.sendResult (s : State) (p : Nat) : State :=
  if s.lotD.pair then
    let r := s.ownResult p
    ((s.setCpart p { s.cpart p with own := some r }).xlSend 2 p r.seq r.bytes).compareResults p
  else s

/-- At a release instant of p a pair module counts a release whose partner RESULT is missing; a standby leaves the pair at the third in a
row (R382, R383). -/
def State.missingResult (s : State) (p : Nat) : State :=
  let c := s.cpart p
  match c.own with
  | none => s
  | some a =>
    if s.lotD.pair ∧ c.compared ≠ a.seq + 1 ∧ a.seq = (s.part p).seq then
      let s1 := s.setCpart p { c with missing := c.missing + 1 }
      if c.missing + 1 ≥ 3 then s1.isolate else s1
    else s

/-! ### The module cycle of a pair (R400, R402) -/

/-- The BIST that a disagreement started has passed: localisation closed and one sweep of every background test, whose re-read of the OTP
falls due with it (R400, R430). -/
def State.pairBistDone (s : State) : Bool :=
  ! s.sle.locOpen && (List.range 8).all (fun t => decide (s.bist.sweeps.get 0 t > s.cpl.sweepSnap.get 0 t)) && decide (s.bist.failed = 0)

/-- The end of a module cycle of a pair module: disagreements, clean cycles, the end of the BIST (R400, R402). -/
def State.cycleEnds (s : State) : State :=
  let run := if s.cpl.disNow then s.cpl.disRun + 1 else 0
  let clean := ! s.cpl.dirty
  let s1 := { s with cpl := { s.cpl with disNow := false, disRun := run, dirty := false } }
  if run ≥ 3 ∧ (s1.cplRole = .active ∨ s1.cplRole = .standby) then s1.enterHalt 14
  else
    let counts := decide (s1.cplRole = .standby) || (decide (s1.cplRole = .resync) && decide (s1.cpl.resync = .counting))
    let n := if ! counts then s1.cpl.inStep else if clean then (s1.cpl.inStep + 1) % 2 ^ 32 else if s1.cplRole = .resync then 0 else s1.cpl.inStep
    let s2 := { s1 with cpl := { s1.cpl with inStep := n } }
    let s3 := if s2.cplRole = .resync ∧ s2.cpl.resync = .counting ∧ n ≥ 1000 then s2.setRole .standby else s2
    match s3.cpl.disAt with
    | none => s3
    | some t =>
      if s3.cplRole = .standby ∧ s3.bist.repairs.length > s3.cpl.repairSnap then s3.enterResync.resyncTry
      else if s3.pairBistDone ∧ s3.clk.now - t ≥ sTicks then { s3 with cpl := { s3.cpl with disAt := none } }
      else s3

/-- The end of a module cycle of a pair module; a loop that is free by then is taken by a module that has become ready. -/
def State.pairCycle (s : State) : State := if s.lotD.pair then s.cycleEnds.seizeLoop else s

end Sys2Proof.Machine
end

