-- ==== Sys2Proof/Machine/ReplayOps.lean ====
section
/-! DEFINITION. Replay (R459 to R464): the recording of an episode read back, its releases, and the comparison at each commit. -/

namespace Sys2Proof.Machine


/-! ### Records read back (R448, R449) -/

/-- A release record. -/
structure RelRec where
  key : Key
  retry : Bool
  failed : Key
  tally : Nat
  words : Tab (Option Cell)
  w8 : Option (Lanes × Tag)
  sig : Option Nat
deriving DecidableEq, Repr

/-- Put byte `v` at index `i` of a list. -/
def putByte (l : List Byte) (i : Nat) (v : Byte) : List Byte := l.take i ++ [v] ++ l.drop (i + 1)

/-- `k` changed-word entries applied to the words as last recorded; what follows them. -/
def applyChanges : Nat → List Byte → Tab (Option Cell) → Tab (Option Cell) × List Byte
  | 0, b, t => (t, b)
  | k + 1, b, t =>
    let h := u16 b 0
    let w := h % 2048
    let old := (t.get none w).getD {}
    let tc := bitOf h 11
    let b1 := b.drop (if tc then 3 else 2)
    let idx := (List.range 16).filter (fun i => bitOf (u16 b1 0) i)
    let bytes := (b1.drop 2).take idx.length
    let v := (idx.zip bytes).foldl (fun a e => putByte a e.1 e.2) (laneBytes old.val)
    applyChanges k (b1.drop (2 + idx.length)) (t.set none w (some ⟨bytesLanes v, if tc then b.getD 2 0 else old.tag, 0⟩))

/-- A release record over the words as last recorded for its partition. -/
def readRelease (b : List Byte) (t : Tab (Option Cell)) : RelRec :=
  let retry := bitOf (u8 b 1) 7
  let c := u8 b 2
  let b1 := b.drop (if retry then 6 else 5)
  let ext := decide (c % 64 = 63)
  let r := applyChanges (if ext then u16 b1 0 else c % 64) (b1.drop (if ext then 2 else 0)) t
  let b2 := if bitOf c 7 then r.2.drop 17 else r.2
  { key := BitVec.ofNat 7 (u8 b 1), retry := retry, failed := if retry then BitVec.ofNat 7 (u8 b 5) else 0, tally := u16 b 3,
    words := r.1, w8 := if bitOf c 7 then some (bytesLanes r.2, r.2.getD 16 0) else none,
    sig := if bitOf c 6 then some (u64 b2 0) else none }

/-! ### A partition's committed state from a body (R379, R402, R460) -/

/-- Install committed words, lane timers and t_prev of partition p in both banks; sequence n was its last release. Overdye words and
timers are stored under the key stamp 0, which the body does not give (log entry 40). -/
def State.installPart (s : State) (p n : Nat) (words : List (Nat × Cell)) (timers : List (Nat × Nat)) (prev : Nat) : State :=
  let g := words.foldl (fun (t : Tab Cell) e => t.set (s.initG e.1) e.1 { e.2 with key := 0 }) s.nmt.comG
  let o := words.foldl (fun (t : Tab Cell) e => t.set (s.initO e.1) e.1 ⟨dye 0 e.2.val, e.2.tag, 0⟩) s.nmt.comO
  let tg := timers.foldl (fun (t : Tab TCell) e => t.set (timerStart (s.lotD.preset e.1)) e.1 ⟨field e.2 23 0, bitOf e.2 24⟩) s.sle.tmG
  let s0 := s.putTimersO 0 (timers.map (fun e => (e.1, ⟨timerMax - field e.2 23 0, ! bitOf e.2 24⟩)))
  let s1 := { s0 with nmt := { s.nmt with comG := g, comO := o }, sle := { s0.sle with tmG := tg } }
  s1.setPart p { s1.part p with
    phase := .idle, seq := n, prev := if prev = 0 then none else some prev, first := decide (prev = 0), edge := false, edgeSeen := false,
    workG := {}, workO := {}, timG := {}, timO := {} }

/-- The tail of a FULL IMAGE body at offset o: words, timers and t_prev of partition p, and the offset behind it. -/
def readCommitted (l : Lot) (p : Nat) (b : List Byte) (o : Nat) : List (Nat × Cell) × List (Nat × Nat) × Nat × Nat :=
  let nw := (l.pWords p).length
  let ts := l.pTimers p
  let o1 := o + 20 * nw
  let o2 := o1 + 4 * ts.length
  (readEntries b o nw, (List.range ts.length).zipWith (fun i t => (t, u32 b (o1 + 4 * i))) ts, u64 b o2, o2 + 8)

/-! ### SAFE events of the recording (R274, R450, R460) -/

/-- A SAFE compare event or capture. -/
def Rcd.safeEvent (r : Rcd) : Bool := decide (byteAt r.bytes 0 = 0x20) && decide (byteAt r.bytes 1 = 5 ∨ byteAt r.bytes 1 = 6)

/-- The event of a channel as it was recorded, passed on to its HOST slaves; of a compare event's stamp the record holds the low 5 bytes. -/
def State.replayEvent (s : State) (r : Rcd) : State :=
  let arg := u64 r.bytes 10
  if byteAt r.bytes 1 = 5 then
    let c := arg % 256
    let v := r.stamp - (r.stamp % 2 ^ 40 + 2 ^ 40 - arg / 65536 % 2 ^ 40) % 2 ^ 40
    s.tmuPut c ((s.tc c).fire v (bitOf arg 8), some v)
  else
    let c := arg / 2 ^ 56
    let v := arg % 2 ^ 56
    s.tmuPut c ((s.tc c).capture v, some v)

/-- Those up to the recorded stamp `t` take place. -/
def State.replayEvents (s : State) (t : Nat) : State :=
  let due := s.rcr.replay.events.takeWhile (fun r => decide (r.stamp ≤ t))
  let s1 := due.foldl State.replayEvent s
  { s1 with rcr := { s1.rcr with replay := { s1.rcr.replay with events := s1.rcr.replay.events.drop due.length } } }

/-! ### The start of Replay -/

/-- The records of an episode from its first keyframe on. -/
def State.episodeRecs (s : State) (e : Nat) : List Rcd :=
  let v := s.episode e
  (s.rcr.recs.filter (fun r => decide (r.pos ≥ v.fromPage * pageBytes ∧ r.pos + r.bytes.length ≤ v.endPos))).dropWhile
    (fun r => ! r.isKey)

/-- The records end at a gap marker, or at a keyframe of another epoch. -/
def replayStop (epoch : Nat) (r : Rcd) : Bool := decide (byteAt r.bytes 0 = 0x40) || (r.isKey && decide (u64 r.bytes 1 ≠ epoch))

/-- The next partition of a keyframe `b` of epoch `recE`: its committed state is installed; with the place in the record go its
number, its sequence and the stamp of its first release. -/
def State.replayPlace (l : Lot) (b : List Byte) (recE : Nat) (a : State × Nat × List (Nat × Nat × Nat)) (p : Nat) :
    State × Nat × List (Nat × Nat × Nat) :=
  let c := readCommitted l p b (a.2.1 + 4)
  let n := u32 b a.2.1
  let next := if c.2.2.1 = 0 then recE + l.pOffset p else c.2.2.1 + l.pPeriod p
  (a.1.installPart p n c.1 c.2.1 c.2.2.1, c.2.2.2, a.2.2 ++ [(p, n, next)])

/-- The first release of a partition stands `k0` ticks before its place in the recording. -/
def State.replayIndex (l : Lot) (recE k0 : Nat) (a : State) (x : Nat × Nat × Nat) : State :=
  a.setPart x.1 { a.part x.1 with relK := (x.2.2 - recE - k0 - l.pOffset x.1) / max 1 (l.pPeriod x.1), lastKey := 0 }

/-- REPLAY at its boundary (R460): committed state from the first keyframe, a replay epoch, for the trunk too, and each partition's first
release at the place that it has in the recording against the others. -/
def State.replayStart (s : State) (e : Nat) : State :=
  match s.episodeRecs e with
  | [] => { s with rcr := { s.rcr with replay := { ({} : Replay) with episode := e, progress := 2 } } }
  | key :: recs =>
    let b := key.bytes
    let recE := u64 b 1
    let run := recs.takeWhile (fun r => ! replayStop recE r)
    let l := s.lotD
    let cycle := (l.inUse.map l.pPeriod).foldl Nat.lcm 1
    let inst := l.inUse.foldl (State.replayPlace l b recE) (s, 17, [])
    let base := (readEntries b inst.2.1 l.inputWords.length).foldl
      (fun (t : Tab (Option Cell)) x => t.set none x.1 (some x.2)) ({} : Tab (Option Cell))
    let first := inst.2.2.foldl (fun a x => min a (x.2.2 - recE)) (match inst.2.2 with
      | x :: _ => x.2.2 - recE
      | [] => 0)
    let k0 := first / cycle * cycle
    let parts := inst.2.2.foldl (fun (t : Tab RPart) x => t.set {} x.1 {
      rest := run.filter (fun r => r.isRelease && decide (byteAt r.bytes 0 % 16 = x.1)), n := x.2.1, stamp := some x.2.2, words := base }) {}
    let s1 := inst.2.2.foldl (State.replayIndex l recE k0) (inst.1.newEpoch false (nextEpoch s.clk.now))
    { s1 with
      rcr := { s1.rcr with replay := { ({} : Replay) with
        episode := e, parts := parts, events := run.filter Rcd.safeEvent, gapEnd := decide (run.length < recs.length),
        progress := if parts.cells.any (fun x => ! x.2.rest.isEmpty) then 1 else if run.length < recs.length then 3 else 2 } } }

/-! ### Releases and commits -/

def State.rpart (s : State) (p : Nat) : RPart := s.rcr.replay.parts.get {} p
def State.setRpart (s : State) (p : Nat) (c : RPart) : State :=
  { s with rcr := { s.rcr with replay := { s.rcr.replay with parts := s.rcr.replay.parts.set {} p c } } }

/-- The recorded release that partition p replays next. -/
def State.recorded (s : State) (p : Nat) : Option RelRec :=
  match (s.rpart p).rest with
  | [] => none
  | r :: _ => some (readRelease r.bytes (s.rpart p).words)

/-- A release of partition p in Replay: key, stamp and input-bound words come from the recording, and the SAFE events up to that stamp
take place (R460). -/
def State.replayRelease (s : State) (p : Nat) : State :=
  match s.recorded p with
  | none => s
  | some r =>
    let k := if r.retry then r.failed else r.key
    let s1 := ((s.replayEvents ((s.rpart p).stamp.getD 0)).latchOthers p k).latchImage p k ((s.planeInputs p).map (fun w => (w, (r.words.get none w).getD {})))
    s1.setPart p { s1.part p with
      phase := .ready, attempt := 1, key := k, failedKey := 0, stamp := (s.rpart p).stamp.getD s.clk.now, relAt := s.clk.now,
      relK := s.instantK p + 1, edge := false, edgeSeen := false }

/-- The key of a retry in Replay: the recorded one where the recording has a retry. -/
def State.replayRetryKey (s : State) (p : Nat) : Option Key :=
  match s.recorded p with
  | some r => if r.retry then some r.key else none
  | none => none

/-- The comparison of R461 at a commit of partition p: what differs first (0 nothing, 1 tally, 2 W8, 3 checkpoint). -/
def State.replayKind (s : State) (p : Nat) (r : RelRec) : Nat :=
  let q := s.part p
  let w8Ok : Bool := match r.w8 with
    | none => true
    | some x => match q.workG.get none 8 with
      | some c => decide (c.val = x.1 ∧ c.tag = x.2)
      | none => false
  let cpOk : Bool := match r.sig with
    | none => true
    | some v => decide (v = q.sigG)
  if q.sigG / 2 ^ 32 % 65536 ≠ r.tally then 1 else if ! w8Ok then 2 else if ! cpOk then 3 else 0

/-- After a replayed commit of partition p: the first divergence is logged and recorded, further ones are counted (R461). -/
def State.replayCommit (s : State) (p : Nat) : State :=
  match s.recorded p with
  | none => s
  | some r =>
    let kind := s.replayKind p r
    let c := s.rpart p
    let n := (c.n + 1) % 2 ^ 32
    let s1 := s.setRpart p { c with
      rest := c.rest.tail, n := n, stamp := c.stamp.map (fun t => t + s.lotD.pPeriod p), words := r.words, key := r.key,
      check := if kind = 0 ∧ r.sig.isSome then n else c.check }
    let y := s1.rcr.replay
    let ended := y.parts.cells.all (fun e => e.2.rest.isEmpty)
    let y1 : Replay := { y with
      released := (y.released + 1) % 2 ^ 32,
      progress := if ended then (if y.gapEnd then 3 else 2) else y.progress,
      divergences := if kind = 0 then y.divergences else (y.divergences + 1) % 2 ^ 32,
      divPart := if kind ≠ 0 ∧ y.divKind = 0 then p else y.divPart,
      divSeq := if kind ≠ 0 ∧ y.divKind = 0 then n else y.divSeq,
      divCheck := if kind ≠ 0 ∧ y.divKind = 0 then c.check else y.divCheck,
      divKind := if kind ≠ 0 ∧ y.divKind = 0 then kind else y.divKind }
    let s2 : State := { s1 with rcr := { s1.rcr with replay := y1 } }
    if kind = 0 ∨ y.divKind ≠ 0 then s2 else s2.mlog 0x2A00 0x12 1 p n

end Sys2Proof.Machine
end

