-- ==== Sys2Proof/Machine/StateOps.lean ====
section
/-! DEFINITION. State changes as shared operations (R60 to R64, R191, R207, R224, R274, R287, R347): the exit from Validating, the
stop of a lot, and the commands that wait for a cycle boundary of the module. -/

namespace Sys2Proof.Machine

/-! ### OD defaults (R347) -/

/-- A new export selection changes the content of 0x2A00:09, and a new entry selection that of 0x6000:05 (R325). -/
def State.selectExport (s : State) (e : Nat) : State :=
  if s.rcr.sel = e then s else State.bumpGen { s with rcr := { s.rcr with sel := e } } 0x2A00 9
def State.selectEntry (s : State) (q : Nat) : State :=
  if s.log.select = q then s else State.bumpGen { s with log := { s.log with select := q } } 0x6000 5

/-- The rw entries return to the Default of their tables; HOST channels do so with the exit itself (R264). -/
def State.odReset (s : State) : State :=
  let s1 := (s.selectExport 0).selectEntry 0
  { s1 with
    sup := { s.sup with wakeDelay := 0 },
    tmu := { s.tmu with swatch := { s.tmu.swatch with select := 0 } },
    bist := { s.bist with fuseVal := 0 },
    otp := { s.otp with sel := 0, progData := 0 },
    cvus := (List.range 16).foldl (fun (t : Tab Cvu) n =>
      t.set {} n (if cvuUse n = 0 then {} else { t.get {} n with poly := 0, fold := 0 })) s.cvus }

/-- One default goes into its entry. A compare channel takes it whoever owns it, but for the mode of one that no entry lists, which stays
OFF (R263); what a fixed check-value unit computes with stays its own (R445; log entry 71). -/
def State.odDefault (s : State) (d : OdDefault) : State :=
  let v := d.value
  if d.index = 0x2000 then { s with sup := { s.sup with wakeDelay := v } }
  else if 0x2400 ≤ d.index ∧ d.index < 0x2500 then
    let c := d.index - 0x2400
    let t := s.tc c
    if s.lotD.chOwner c = 0 ∧ d.sub = 2 then s
    else s.setTc c (match d.sub with
      | 2 => { t with mode := v }
      | 3 => { t with link := v }
      | 4 => { t with master := v }
      | 7 => { t with source := v }
      | _ => { t with edge := v })
  else if d.index = 0x2500 then { s with tmu := { s.tmu with swatch := { s.tmu.swatch with select := v } } }
  else if d.index = 0x2900 then { s with otp := { s.otp with sel := v } }
  else if d.index = 0x2A00 then s.selectExport v
  else if 0x2B00 ≤ d.index ∧ d.index < 0x2B10 then
    let n := d.index - 0x2B00
    let c := s.cvu n
    s.setCvu n (match d.sub with
      | 1 => { c with poly := v }
      | 2 => { c with fold := v }
      | _ => if cvuUse n = 0 then { c with run := v, armed := false, ended := false } else c)
  else if d.index = 0x6000 then s.selectEntry v
  else s

/-- Every default of the lot. -/
def State.odDefaultsIn (s : State) : State := (odDefaults (s.lotD.sec 9)).foldl State.odDefault s.odReset

/-! ### The exit from Validating -/

/-- Entry to Commissioning or Run (R51, R64, R147): groups cut off, the drive free, the watchdog waiting for its first feed. -/
def State.enterRunning (s : State) (m : Mode) : State :=
  let s1 := { s with sup := { s.sup with
    driveRemoved := false, resume := if m = Mode.run then 6 else 5, wdRunning := false, wdArmed := false } }
  (s1.setMode m).entryCutOff

/-- Every unit starts afresh under the lot that is active from here on (R98, R191, R207, R274, R287). -/
def State.unitsStart (s : State) : State :=
  ((((s.freshEngine.sinStart false).soutStart).chansStart).speedsStart false).aaqStart false

/-- The exit from Validating into Commissioning or Run (R64, R347). -/
def State.leaveValidating (s : State) (m : Mode) : State :=
  let s1 := (s.unitsStart.odDefaultsIn).freshEpoch true
  ((({ s1 with cpl := { s1.cpl with wasActive := false } } : State).enterRunning m).startRole)

/-- The end of a Replay by END_REPLAY (R462): words, timers, channels and evaluators as at an exit from Validating, a new epoch, and
Commissioning; object values that the host has written stay, and so do the counts of the trunk stations, since it is no such exit. -/
def State.leaveReplay (s : State) : State :=
  let s1 := (s.frcEvent 10 (256 * s.rcr.replay.episode)).dropAttempts
  let s2 : State := { s1 with rcr := { s1.rcr with replay := { s1.rcr.replay with progress := 0, events := [] } } }
  (((s2.unitsStart).freshEpoch false).enterRunning .commissioning).startRole

/-! ### Leaving a lot -/

/-- The module leaves the states that release partitions, its lot still applied: no attempt, no trunk, no drive, no role of a pair (R147,
R172, R207, R349, R390). -/
def State.leaveRunning (s : State) : State :=
  let s1 := s.dropAttempts.holdOpen.trunkStop
  let s2 : State := { s1 with
    sup := { s1.sup with pend := .none, wdRunning := false, wdArmed := false, driveRemoved := true }, cpl := { s1.cpl with gpark := none } }
  if s2.lotD.pair then s2.setRole .undecided else s2

/-- Validating is left without a lot, or a lot cannot be reloaded: no lot is active (R57, R74, R172, R207, R333, log entry 34). -/
def State.stopLot (s : State) : State := (s.leaveRunning.lotEnds).setRole .solo

/-- Configuring begins: an empty image. 0x1F55:01 keeps what it shows (log entry 71). -/
def State.enterConfiguring (s : State) : State :=
  ({ s with lot := { s.lot with image := [], loaded := none, wrong := 0 } } : State).setMode .configuring

/-! ### Calibration at Parked entry (R260) -/

/-- The ratio with 32 fractional bits. -/
def rhoOf (c1 c2 : Nat) : Nat := (c1 + c2) * 2 ^ 32 / 8192

/-- More than 500 ppm from 1,525.878 906 25, or counts more than 2 ppm apart. -/
def calibrationFails (c1 c2 : Nat) : Bool :=
  decide ((c1 : Int) + c2 - 12500000 > 6250 ∨ (12500000 : Int) - c1 - c2 > 6250)
    || decide ((max c1 c2 - min c1 c2) * 1000000 > c1 + c2)

/-! ### Commands that wait for the boundary (R52, R62, R63, R459) -/

/-- Parked is pending (R52). -/
def State.parkPending (s : State) : Bool := match s.sup.pend with
  | .parked _ => true
  | _ => false

/-- A HALT waits for the boundary (R52, R63). -/
def State.haltWaits (s : State) : Bool := match s.sup.cmd with
  | some c => decide (c.cmd = .halt)
  | none => false

/-- The module refuses the command with this code; the states that R60 does not list refuse with 0x0F00_0201, and so does every state
from PFS on (R63, log entry 63). -/
def State.cmdRefusal (s : State) (c : PendCmd) : Option Nat :=
  let wrong : Option Nat := some 0x0F000201
  let held := decide (s.cplRole = .standby ∨ s.cplRole = .isolated ∨ s.cplRole = .resync)
  if s.sup.pfsOrder ≠ 0 then wrong
  else match c.cmd with
  | .configure =>
    if s.sup.mode = .unconfigured then none
    else if s.sup.mode ≠ .commissioning then wrong
    else if s.anyOn then some 0x0F000203 else none
  | .run =>
    if s.sup.mode ≠ .commissioning ∨ (held ∧ c.at?.isNone) then wrong
    else if s.sle.dbg.state ≠ 0 ∨ s.jtagOn then some 0x0F000204
    else if ! s.lotD.production then some 0x0F000207 else none
  | .commission => if s.sup.mode ≠ .run ∨ (held ∧ c.at?.isNone) then wrong else none
  | .park =>
    let member := s.lotD.cascade && decide (s.lotD.member ≠ 0)
    if (s.sup.mode ≠ .run ∧ s.sup.mode ≠ .commissioning) ∨ ((held ∨ member) ∧ c.at?.isNone) ∨ s.parkPending then wrong
    else if s.anyOn then some 0x0F000210
    else if s.otp.job.isSome ∨ s.fusing ∨ s.haltWaits then some 0x0F000211
    else if calibrationFails c.count1 c.count2 then some 0x0F000212 else none
  | .replay =>
    if s.sup.mode ≠ .commissioning then wrong
    else if s.anyOn then some 0x0F000203
    else
      let e := s.episode s.rcr.sel
      if e.state ≠ 1 ∧ e.state ≠ 2 then some 0x0F000703
      else if e.lotId ≠ s.lotD.id ∨ e.sha ≠ s.lotD.digest then some 0x0F000702
      else if s.lotD.pair ∨ s.lotD.cascade then some 0x0F000704 else none
  | .endReplay => if s.sup.mode ≠ .replay then wrong else none
  | .halt => if s.sup.mode = .off then wrong else none
  | .reset => if s.sup.mode = .off ∨ s.sup.mode = .run then wrong else none

/-- Parked is pending from here, the ratio measured at this entry kept (R52, R260). -/
def State.setParked (s : State) (rho : Nat) : State :=
  { s with sup := { s.sup with pend := .parked s.clk.now }, clk := { s.clk with rho := rho } }

/-- Parked entry begins (R52): pending for 250 ms from here. -/
def State.parkBegins (s : State) (c : PendCmd) : State := s.setParked (rhoOf c.count1 c.count2)

/-- The modules that a master or an active takes into Parked with it (R404): members, and 8 for the partner. -/
def State.parkGroup (s : State) : List Nat :=
  (if s.lotD.cascade && decide (s.lotD.member = 0) then (List.range s.lotD.members).map (· + 1) else [])
    ++ (if decide (s.cplRole = .active) && s.xlUp && s.cpl.peer.live then [8] else [])

/-- PARK goes out to the group (R404): to every member, and over the cross-link. -/
def State.parkTell (s : State) (t0 : Nat) : State :=
  let s1 := if s.lotD.cascade && decide (s.lotD.member = 0) then s.caControl 255 5 t0 else s
  if s1.cplRole = .active then s1.xlControl 5 t0 else s1

/-- A group's entry: begun here, answered once every module has answered. -/
def State.groupPark (s : State) (c : PendCmd) : State :=
  let s1 := s.parkBegins c
  ({ s1 with cpl := { s1.cpl with gpark := some ⟨s.clk.now, s.parkGroup, s.clk.real, true, c.tag⟩ } } : State).parkTell s.clk.now

/-- The first boundary of the module at or after a tick (R157). -/
def State.boundaryFrom (s : State) (t : Nat) : Nat :=
  match s.lotD.feeding, s.sle.epoch with
  | some p, some e =>
    let o := e + s.lotD.pOffset p
    let per := max 1 (s.lotD.pPeriod p)
    if t ≤ o then o else o + (t - o + per - 1) / per * per
  | _, _ => t

/-- A pending entry ends without Parked (R53). -/
def State.dropPark (s : State) : State :=
  ({ s with sup := { s.sup with pend := .none }, cpl := { s.cpl with gpark := none } } : State).mlog 0x2000 0x05 1 1 0

/-- ABANDON PARK goes to the ring and to the partner (R404). -/
def State.parkOff (s : State) : State :=
  let s1 := if s.lotD.cascade then s.caControl 255 7 0 else s
  if s.lotD.pair then s1.xlControl 7 0 else s1

/-- A PARK write that still waits for the group's answers when an output demand abandons the entry gets the refusal that R52 gives for a
demand, where no rule names its answer (DESIGN CHOICE, log entry 74). -/
def State.parkDenied (s : State) (g : Option GroupPark) : State :=
  match g with
  | some g => if g.first then s.answerTag g.tag (.abort 0x0F000210) else s
  | none => s

/-- Entry is abandoned (R53), and every other module of a group is told (R404). -/
def State.abandonPark (s : State) : State := s.dropPark.parkOff.parkDenied s.cpl.gpark

/-- A command takes effect (R60, R63). -/
def State.applyCmd (s : State) (c : PendCmd) : State :=
  match c.cmd with
  | .configure =>
    if s.sup.mode = .unconfigured then s.enterConfiguring
    else s.leaveRunning.enterConfiguring
  | .run => s.enterRunning .run
  | .commission => s.enterRunning .commissioning
  | .park => s.parkBegins c
  | .replay =>
    let e := s.rcr.sel
    let s1 := (({ s.dropAttempts.holdOpen with sup := { s.sup with pend := .none, wdRunning := false, wdArmed := false } } : State).setMode .replay).freshEngine
    (s1.replayStart e).frcEvent 10 (1 + 256 * e)
  | .endReplay =>
    s.leaveReplay
  | .halt => s.enterHalt 0
  | .reset => s.moduleReset c.boot

/-- The waiting command at a cycle boundary of the module: checked once more, answered, applied (R63). -/
def State.applyWaiting (s : State) : State :=
  match s.sup.cmd with
  | none => s
  | some c =>
    let due : Bool := match c.at? with
      | none => true
      | some t => decide (t ≤ s.clk.now)
    if ! due then s
    else
      let s1 : State := { s with sup := { s.sup with cmd := none } }
      match s.cmdRefusal c with
      | some code =>
        let s2 : State := { s1 with sup := { s1.sup with pend := if c.cmd = Cmd.replay then .none else s1.sup.pend } }
        s2.answerTag c.tag (.abort code)
      | none =>
        if c.cmd = Cmd.park ∧ c.at?.isNone ∧ ! s1.parkGroup.isEmpty then s1.groupPark c
        else (s1.answerTag c.tag .done).applyCmd c

end Sys2Proof.Machine
end

