-- ==== Sys2Proof/Machine/Recorder.lean ====
section
/-! DEFINITION. The recorder's commands (R341, R452 to R458), the log's entry select (R344), the alarm contact and the ports' links
(R335, R469, R473). -/

namespace Sys2Proof.Machine

/-- A write of 1 to 0x2A00:07 (R341, R457, R463), with its answer. -/
def State.freezeAsk (s : State) : State :=
  if s.sup.mode = .replay then s.refuse 0x0F000705
  else if s.cycleEpisode.isNone ∧ s.rcr.open_.isNone ∧ (s.episodeSlot false).isNone then s.refuse 0x0F000701
  else (s.frcFreeze 3 255).done

/-- FREEZE_COMMAND. -/
def execFreezeCommand (s : State) : Host.Outcome State Fault Refusal :=
  .next (if s.domOn 2 then s.freezeAsk else s.refuse 0x06060000)

/-- EPISODE_POST_TRIGGER_END: the post-trigger time of the open episode has run out (R456). -/
def execEpisodePostTriggerEnd (s : State) : Host.Outcome State Fault Refusal :=
  .next (
    match s.rcr.open_ with
    | none => s
    | some (e, t) =>
      if s.clk.real ≥ t then
        let s1 := s.frcCheckpoint
        ({ s1 with rcr := { s1.rcr with open_ := none } } : State).episodeEnd e
      else s)

/-- A write of 0x2A00:08 (R458). -/
def State.exportAsk (s : State) (e : Nat) : State :=
  if e > 63 then s.refuse 0x06090031
  else (({ s with rcr := { s.rcr with sel := e } } : State).bumpGen 0x2A00 9).done

/-- EXPORT_SELECT. -/
def execExportSelect (e : Byte) (s : State) : Host.Outcome State Fault Refusal := .next (s.exportAsk e.toNat)

/-- A write of 0x6000:04 (R325, R344). -/
def State.entryAsk (s : State) (seq : Nat) : State :=
  (({ s with log := { s.log with select := seq } } : State).bumpGen 0x6000 5).done

/-- ENTRY_SELECT. -/
def execEntrySelect (seq : BitVec 32) (s : State) : Host.Outcome State Fault Refusal := .next (s.entryAsk seq.toNat)

/-- METER_WINDOW_END: a window of 10 ms ends; one of more than 1,000 bytes spends 10 ms of budget (R453). -/
def execMeterWindowEnd (s : State) : Host.Outcome State Fault Refusal :=
  .next (
    let r := s.rcr
    if s.clk.real ≥ r.winAt + 10 * msTicks then
      { s with rcr := { r with
        winAt := s.clk.real / (10 * msTicks) * (10 * msTicks), winBytes := 0,
        budget := if r.winBytes > 1000 then r.budget - 10 else r.budget } }
    else s)

/-- BURST_BUDGET_REFILL: a whole second of at most 90,000 bytes refills 1 ms, up to 8,000 ms (R453). -/
def execBurstBudgetRefill (s : State) : Host.Outcome State Fault Refusal :=
  .next (
    let r := s.rcr
    if s.clk.real ≥ r.secAt + sTicks then
      { s with rcr := { r with
        secAt := s.clk.real / sTicks * sTicks, secBytes := 0, budget := if r.secBytes ≤ 90000 then min 8000 (r.budget + 1) else r.budget } }
    else s)

/-- Stream bytes that may go into NAND: the last release record may still become a CHECKPOINT (R448, log entry 51). -/
def Rec.ready (r : Rec) : Nat := match r.lastRel with
  | some x => min r.total x.1
  | none => r.total

/-- NAND_PAGE_WRITE: the CP writes a page once 4,080 bytes of the stream are waiting. -/
def execNandPageWrite (s : State) : Host.Outcome State Fault Refusal :=
  .next (if s.domOn 2 ∧ s.rcr.ready ≥ s.rcr.written + pageBytes then s.nandWrite else s)

/-! ### The error register, the alarm contact, links -/

/-- 0x260B:08 (R58): bit 0 temperature, bit 1 US limit, bit 2 bulk reserve below 20 ms. -/
def State.pwrWarnings (s : State) : Nat :=
  (if s.pwr.tempWarn then 1 else 0) + (if s.usShown = .limit ∨ s.usShown = .retryWait then 2 else 0) + (if s.bulkReserve < 20 then 4 else 0)

/-- A latched fault of bit 7 of the error register. -/
def State.anyLatched (s : State) : Bool :=
  s.sin.chans.cells.any (fun e => decide (e.2.fault ≠ 0) || e.2.chatter) || s.sin.pairs.cells.any (fun e => decide (e.2.state = .fault))
  || s.sout.outs.cells.any (fun e => decide (e.2.code ≠ 0)) || s.sout.grps.cells.any (fun e => decide (e.2.code ≠ 0))
  || s.tmu.speeds.cells.any (fun e => decide (e.2.fault ≠ 0)) || s.tmu.motions.cells.any (fun e => e.2.violated)
  || s.aaq.pairs.cells.any (fun e => e.2.fault)

/-- 0x1001:00 (R335). -/
def State.errorRegister (s : State) : Nat :=
  let b2 := decide (s.pwrWarnings / 2 ≠ 0) || (List.range 2).any (fun g =>
    let c := (s.grp g).cause
    decide ((s.grp g).state ≠ .unused) && decide (c ≠ 0 ∧ c ≠ 1 ∧ c ≠ 6))
  let b3 := s.pwr.tempWarn
  let absent := s.lotD.cascade && decide (s.lotD.member = 0) && (List.range s.lotD.members).any (fun m => ! (s.csrc (m + 1)).present)
  let b4 := decide (s.hpo.quality ≠ 0) || (s.lotD.hasTrunk && s.lotD.stations.any (fun e => ! s.health e.addr)) || absent
  let b7 := s.anyLatched
  (if b2 || b3 || b4 || b7 || decide (s.sup.causes ≠ 0) then 1 else 0) + (if b2 then 4 else 0) + (if b3 then 8 else 0)
    + (if b4 then 16 else 0) + (if b7 then 128 else 0)

/-- AUX_CONTACT_UPDATE: closed in Commissioning or Run with an error register of 0 (R473). -/
def execAuxContactUpdate (s : State) : Host.Outcome State Fault Refusal :=
  .next { s with sup := { s.sup with auxClosed := decide (s.sup.mode = .commissioning ∨ s.sup.mode = .run) && decide (s.errorRegister = 0) } }

/-- The link of host port `bit` (0 HA, 1 HB) after auto-negotiation: a disabled port, and HST off, have none (R331, R469); in Parked only
the kept port has one (R330). -/
def State.hostLink (s : State) (bit : Nat) (up : Bool) : Bool :=
  let keep := if s.hpo.keptPort = 2 then 1 else 0
  up && s.domOn 3 && bitOf s.hpo.portEnable bit && (decide (s.sup.mode ≠ .parked) || decide (bit = keep))

/-- PORT_LINK_CHANGE: auto-negotiation has brought a link up, or it is gone; TA and TB have one while TRK is on and the module runs a
trunk (R348, R469). -/
def execPortLinkChange (port : NetPort) (up : Bool) (s : State) : Host.Outcome State Fault Refusal :=
  .next (
    match port with
    | .ha => { s with hpo := { s.hpo with linkA := s.hostLink 0 up } }
    | .hb => { s with hpo := { s.hpo with linkB := s.hostLink 1 up } }
    | .ta => { s with trk := { s.trk with linkA := up && s.domOn 4 && s.lotD.hasTrunk } }
    | .tb => { s with trk := { s.trk with linkB := up && s.domOn 4 && s.lotD.hasTrunk } })

end Sys2Proof.Machine
end

