-- ==== Sys2Proof/Machine/BootOps.lean ====
section
/-! DEFINITION. Domains that go off, the flush, Boot's last step, Parked and wake as shared operations (R35, R36, R39, R46, R52 to
R57, R66, R82, R261, R308). -/

namespace Sys2Proof.Machine

/-! ### Domains that go off (R38, R39, R308) -/

/-- A record that is being executed completes, but its answer is never sent: a waiting command, a group's Parked entry and a job of
the programming controller forget the record that brought them (R308). -/
def State.dropTags (s : State) : State :=
  { s with
    sup := { s.sup with cmd := s.sup.cmd.map (fun c => { c with tag := none }) },
    cpl := { s.cpl with gpark := s.cpl.gpark.map (fun g => { g with tag := none }) },
    otp := { s.otp with byRecord := false }, bist := { s.bist with fuseByRecord := false } }

/-- The partner is released: outstanding records and kept answers are discarded (R308). -/
def State.partnerRelease (s : State) : State :=
  if s.hpo.partner.isNone ∧ s.hpo.out.isEmpty ∧ s.hpo.kept.isEmpty then s
  else { s.dropTags with hpo := { s.hpo with
    active := 0, partner := none, nc := none, out := [], kept := [], held := [], etherOld := none,
    releases := if s.hpo.partner.isNone then s.hpo.releases else (s.hpo.releases + 1) % 2 ^ 32 } }

/-- What goes with a domain that is switched off (R39): the time base and the engine with ENG, the host words to STALE and the
partner with HST, the trunk with TRK, both links with LNK, the sources with their bank, the runs of the LF monitors with OUT. -/
def State.domDown (s : State) (d : Nat) (st : DomState) : State :=
  let s1 := s.setDom d { s.dom d with state := st, mv := 0 }
  match d with
  | 0 => { s1.dropAttempts with clk := { s1.clk with running := false } }
  | 2 =>
    let keep := s1.rcr.recs.filter (fun r => decide (r.pos + r.bytes.length ≤ s1.rcr.written))
    { s1 with rcr := { s1.rcr with recs := keep, total := s1.rcr.written, lastRel := none, keyOwed := true, open_ := none, gap := none, keyWaits := false } }
  | 3 =>
    let s2 := s1.partnerRelease
    { s2 with hpo := { s2.hpo with linkA := false, linkB := false, quality := if s2.hpo.quality = 0 then 2 else s2.hpo.quality } }
  | 4 => { s1 with trk := { s1.trk with linkA := false, linkB := false } }
  | 5 => { s1.linksLost with cpl := { s1.linksLost.cpl with
      link := 0, fold := [], peer := s1.cpl.peer.gone, badRun := 0, trip := 0, tripOpen := false, tripLow := none,
      ownBand := .openWire, ownCurrent := 0, ownSince := s1.clk.real, ownDrive := .clamp } }
  | 6 => s1.srcsOff [0, 1, 2, 3]
  | 7 => s1.srcsOff [4, 5, 6, 7]
  | 8 => (s1.setGrp 0 { s1.grp 0 with lf := {} }).setGrp 1 { s1.grp 1 with lf := {} }
  | _ => s1

/-- A list of domains off. -/
def State.domsDown (s : State) (ds : List Nat) (st : DomState) : State := ds.foldl (fun a d => a.domDown d st) s

/-! ### The flush of the staging DRAM (R35, R452) -/

/-- Everything staged goes into NAND, the last page padded. -/
def State.flushStaging (s : State) : State :=
  let n := pagesOf s.rcr.total - s.rcr.written / pageBytes
  let s1 := (List.range n).foldl (fun (a : State) _ => a.nandWrite) s
  { s1 with rcr := { s1.rcr with total := max s1.rcr.total s1.rcr.written, lastRel := none } }

/-! ### US (R45, R46) -/

/-- US is switched: on, unless it is on, in current limit or waiting for its next try already, or PFS has come (log entry 62). -/
def State.usSwitch (s : State) (on : Bool) : State :=
  if on && (decide (s.pwr.us ≠ .off) || decide (s.sup.pfsOrder ≠ 0)) then s
  else { s with pwr := { s.pwr with us := if on then .on else .off, usSince := s.clk.real } }

/-! ### Validating begins -/

/-- Validating of the stored or the loaded lot (R60, R74). The last refusal is cleared (log entry 71). -/
def State.enterValidating (s : State) (stored : Bool) : State :=
  State.setMode { s with lot := { s.lot with
    image := if stored then [] else s.lot.image, loaded := none, step := 1, refusal := 0, item := 0, fromStored := stored, wrong := 0 } }
    .validating

/-- Boot's step 7 (R60, R66, R82): a stored lot that is present is validated, also one that is marked invalid (log entry 71). -/
def State.bootDone (s : State) : State :=
  if s.sup.resumeTo = some .unconfigured ∨ s.lot.stored.isEmpty then
    ({ s with sup := { s.sup with resumeTo := none } } : State).setMode .unconfigured
  else s.enterValidating true

/-! ### Parked (R52 to R57) -/

/-- The bank (0 or 1) serves a wake input: it runs in sense mode (R55, R193). -/
def State.senseBank (s : State) (b : Nat) : Bool := (List.range 48).any (fun n => decide (n / 24 = b) && s.lotD.chWake n)

/-- The sources that stay on in Parked: those that feed wake channels (R193). The lot names the channels of a PULSED source; a STEADY
one may feed every channel of its bank that is not PULSED (log entry 19). -/
def State.wakeSource (s : State) (k : Nat) : Bool :=
  match s.lotD.srMode k with
  | 1 => (List.range 48).any (fun n => decide (n / 24 = k / 4) && s.lotD.chWake n && decide (s.lotD.chMode n ≠ 2))
  | 2 => (s.lotD.fed k).any s.lotD.chWake
  | _ => false

/-- Step 3 and 4 of Parked entry. A domain that a rail fault holds off stays as it is (R39). The state of a wake channel at the entry is
its filtered state f, where R193 does not say which (DESIGN CHOICE, log entry 74). The sweeps that are in progress are abandoned (R437). -/
def State.park (s : State) : State :=
  let s1 := (s.tmuDue.swatchNow 2).frcEvent 8 ((s.tmu.swatch.id + 1) % 2 ^ 32)
  let s2 := (((s1.dropAttempts).holdOpen).setMode .parked).flushStaging
  let s3 : State := { s2 with
    clk := { s2.clk with running := false, parkStop := s.clk.now, disc := .free, goodRun := 0, badRun := 0, lastSymbol := none, refEpoch := none },
    sup := { s2.sup with
      pend := .none, wakeDelayAtStop := s2.sup.wakeDelay, parkedFrom := some s.sup.mode, parkedLot := s.lotD.id, driveRemoved := true,
      wdRunning := false, wdArmed := false },
    cpl := { s2.cpl with wasActive := decide (s.cplRole = .active), gpark := none },
    sin := { s2.sin with wakeRef := (List.range 48).foldl (fun (a : BitVec 48) n =>
      if (s.chan n).f then a ||| BitVec.ofNat 48 (2 ^ n) else a) 0 },
    sle := { s2.sle with epoch := none, tmG := {}, tmO := {}, tmKey := {} } }
  let lit := (List.range 8).filter s.wakeSource
  let s4 := s3.partnerRelease
  let s5 := s4.domsDown ([8, 4, 5, 7, 6, 9, 2, 0].filter (fun d => ! (s4.dom d).heldOff)) .off
  let s5a := ((List.range 2).filter s.senseBank).foldl (fun a b => a.setDom (6 + b) (s.dom (6 + b))) s5
  let s6 := (s5a.setDom 1 { s5a.dom 1 with state := .retain })
  let s7 := lit.foldl (fun a k => a.setSrc k { a.src k with state := .on, pulseAt := none }) s6
  let s8 : State := { s7 with
    hpo := { s7.hpo with
      landed := false, keptPort := if s.hpo.active = 2 then 2 else 1, linkA := s7.hpo.linkA && decide (s.hpo.active ≠ 2), linkB := s7.hpo.linkB && decide (s.hpo.active = 2) },
    bist := { s7.bist with slices := {}, sweepFail := s7.bist.sweepFail &&& 0xF0, spareFail := [] } }
  if s8.pwr.usKeep then s8 else s8.usSwitch false

/-- The ticks that N slow ticks make up: N rho, rounded (R261). -/
def madeUpTicks (slowTicks rho : Nat) : Nat := (slowTicks * rho + 2 ^ 31) / 2 ^ 32

/-- The time base runs again, `m` ticks on from where it stopped. -/
def State.restart (s : State) (m : Nat) : State :=
  { s with clk := { s.clk with running := true, now := s.clk.parkStop + m, madeUp := m } }

/-- The restart of the time base (R261), then the channels (R262). -/
def State.makeUp (s : State) (slowTicks : Nat) : State := (s.restart (madeUpTicks slowTicks s.clk.rho)).chansWake

/-- SUP brings the domains up at a wake or at a halt in Parked; `but` stays off. -/
def State.parkedUp (s : State) (but : Option Nat) : State :=
  let s1 := match but with
    | some d => s.domDown d .fault
    | none => s
  s1.domsUp domOrder

/-- The lot can be reloaded (R56, R57): the stored image has the ID of the lot that was parked, and its sections their CRCs. -/
def State.lotReloads (s : State) : Bool :=
  decide (u64 s.lot.stored 8 = s.sup.parkedLot) && ! s.lot.stored.isEmpty && (checkDir s.lot.stored).isNone && (checkCrcs s.lot.stored).isNone

/-- The loader's unit behind the check of the stored image (R56, R445). -/
def State.reloadChecks (s : State) : State :=
  match (if (checkDir s.lot.stored).isNone then loaderRun s.lot.stored else none) with
  | some v => s.cvuRuns 4 v
  | none => s

/-- A rail fault in Parked is counted, timed and logged (R39, R58). -/
def State.parkedRail (s : State) (d : Nat) : State :=
  let v := s.dom d
  (s.setDom d { v with faults := (v.faults + 1) % 2 ^ 32, lastFault := s.clk.now }).mlog (0x2600 + d) 0x01 2 0 3

/-- Safe Halt from Parked once the domains and the time base are up (R57): the lot is reloaded where it can be, SIN started. The host
words have no source any more (R319). -/
def State.haltUp (s : State) (cause : Nat) : State :=
  let s2 := if s.lotReloads then s else s.stopLot
  let s3 : State := { s2 with
    nmt := { s2.nmt with land := {}, seen := {} }, hpo := { s2.hpo with quality := 3 }, cpl := { s2.cpl with sources := {} } }
  (((s3.stationsStart false).sinStart true).enterHalt cause)

/-- The domains, the time base and US come up at a wake or at a halt in Parked, and the stored lot is checked. -/
def State.unparked (s : State) (but : Option Nat) (slowTicks : Nat) : State := (((s.parkedUp but).makeUp slowTicks).usSwitch true).reloadChecks

/-- A Safe Halt cause in Parked (R57): the domains come up but for one whose rail fault is the cause, the time base is made up, Safe Halt
entered. -/
def State.parkedHalt (s : State) (cause : Nat) (but : Option Nat) (slowTicks : Nat) : State :=
  let s0 := match but with
    | some d => s.parkedRail d
    | none => s
  (s0.unparked but slowTicks).haltUp cause

/-- A re-read that has fallen due in Parked is made during the wake, with free values for what is read (R437). -/
def State.wakeReread (s : State) : State :=
  if s.rereadDue then (s.tick.criticalRead (freeReads s.fresh 512 32)).rereadLocks else s

/-- It finds a critical word of regions 0 and 1 UNRELIABLE (R67, R422). -/
def State.wakeFails (s : State) : Bool := s.rereadDue && (s.wakeReread.regionBad 0 || s.wakeReread.regionBad 1)

/-- A woken module with a reference to re-acquire before its new epoch is fixed: a member, and a pair module that was not Active
(R261). -/
def State.receives (s : State) : Bool :=
  (s.lotD.cascade && decide (s.lotD.member ≠ 0)) || (s.lotD.pair && ! s.cpl.wasActive)

/-- A wake (R55, R56): domains, time base, lot and retention, and a re-read that is due; then the state that the module parked from, with a
new epoch, which a module that receives fixes later (R261). -/
def State.wakeUp (s : State) (slowTicks : Nat) (retained : Bool) : State :=
  if ! s.lotReloads ∨ ! retained then s.parkedHalt 13 none slowTicks
  else if (s.unparked none slowTicks).wakeFails then (s.unparked none slowTicks).wakeReread.haltUp 12
  else
    let m := s.sup.parkedFrom.getD .commissioning
    let s1 := (s.unparked none slowTicks).wakeReread
    let s2 := (((((s1.sinStart true).soutStart).speedsStart true).aaqStart true))
    let s3 : State := { s2 with
      nmt := { s2.nmt with land := {}, planeG := {}, planeO := {}, seen := {}, beat := none, capBeat := none },
      sle := { s2.sle with
        parts := s2.sle.parts.cells.foldl (fun (t : Tab Part) e =>
          t.set {} e.1 { e.2 with
            phase := .idle, prev := none, relK := 0, edge := false, edgeSeen := false, lastKey := 0,
            maxResp := 0, minSlack := 1000, retries := 0, alarms := 0, suspensions := 0 }) {},
        tmG := {}, tmO := {}, tmKey := {} },
      rcr := { s2.rcr with keyOwed := true, lastIn := {}, lastW8 := none, lastRel := none },
      cpl := { s2.cpl with sources := {} },
      hpo := { s2.hpo with quality := 3 } }
    let s4 := if s3.receives then s3 else s3.freshEpoch false
    let r := s4.sup.resume
    let s5 := s4.enterRunning m
    (({ s5 with sup := { s5.sup with resume := r } } : State).startRole)

end Sys2Proof.Machine
end

