-- ==== Sys2Proof/Machine/Power.lean ====
section
/-! DEFINITION. The commands of power and boot (R22 to R24, R32 to R46, R60, R66 to R68, R83, R435, R436, R484). -/

namespace Sys2Proof.Machine

/-- The input is at or above the start threshold of R32. -/
def mainsStart (m : MainsInput) : Bool := decide (m.volts ≥ if m.dc then 110 else 80)

/-- The input is below the stop threshold of R32: the converter draws no power from it. -/
def mainsStop (m : MainsInput) : Bool := decide (m.volts < if m.dc then 100 else 70)

/-- The input is there and Boot begins after a power cycle. -/
def State.powerUp (s : State) (boot : BootRead) : State :=
  State.bootStart { s with pwr := { s.pwr with present := true, mains := .normal, interr := false } } boot

/-- POWER_ON (R32, R60, R66): the input has reached the start threshold, the AON rail is within 3.20 to 3.40 V and the power-on reset
is released. -/
def execPowerOn (input : MainsInput) (aonMv : Nat) (boot : BootRead) (s : State) : Host.Outcome State Fault Refusal :=
  .next (
    if s.sup.mode = .off ∧ s.sup.pfsOrder ≠ 3 ∧ mainsStart input ∧ 3200 ≤ aonMv ∧ aonMv ≤ 3400 then s.powerUp boot else s)

/-- A unit that is found at fault needs a spare: a unit that no usable spare serves, and a spare that serves one (R438). -/
def State.needsSpare (s : State) (u : RepairUnit) : Bool :=
  let (kind, n) := unitOf u
  if n ≥ firstSpare kind then s.bist.assigned kind (n - firstSpare kind) else ! s.bist.serves kind n

/-- One fault of the start-up BIST: repaired by a spare, or counted as not repairable where it needs one and none is usable (R68). -/
def State.startUpFault (a : State × Bool) (u : RepairUnit) : State × Bool :=
  if a.1.needsSpare u ∧ (a.1.bist.usable (unitOf u).1).isEmpty then (a.1, false) else (a.1.unitFails u, a.2)

/-- Every repair that is requested takes effect before step 6 completes (R68). -/
def State.takeWanted (s : State) : State := s.bist.wanted.foldl State.takeRepair s

/-- The domains of the units that the start-up BIST tests have supply: no rail fault holds one off (log entry 63). -/
def State.unitsUp (s : State) : Bool := [0, 1, 6, 7, 8, 9].all s.domOn

/-- The start-up loop-back test of every input and speed channel (R436). -/
def State.startUpLoops (s : State) (inputs : BitVec 48) (speeds : BitVec 8) : State :=
  let s1 := (List.range 48).foldl (fun (a : State) n => a.setChan n { a.chan n with loop := if inputs.getLsbD n then 1 else 0 }) s
  (List.range 8).foldl (fun (a : State) n => a.setSpeed n { a.speed n with loop := if speeds.getLsbD n then 1 else 0 }) s1

/-- Tests 0 to 5 that fail in the start-up BIST: those named, and those that find a unit at fault (R430, R431). -/
def startUpBad (f : StartUpFindings) (t : Nat) : Bool :=
  f.failed.getLsbD t || f.faults.any (fun u => decide (kindTest (unitOf u).1 = t))
    || (decide (t = 0) && decide (f.rate < 240000)) || (decide (t = 4) && (decide (f.inputs ≠ 0) || decide (f.speeds ≠ 0)))

/-- Nothing is found that spares cannot repair (R68). -/
def startUpOk (f : StartUpFindings) : Bool :=
  decide (f.failed = 0) && decide (f.inputs = 0) && decide (f.speeds = 0) && f.outputsOff && decide (f.rate ≥ 240000)

/-- START_UP_BIST_COMPLETE (R66, R68, R127, R413, R435, R436): the rest of the OTP, repairs, the reference count of test 6, the seed
of the key generator, US and T0 to T7 switched on (each source then runs as its entry of the active lot says, R172; log entry 71); then
Boot's step 7, or Safe Halt with cause 5. -/
def execStartUpBistComplete (seed : BitVec 31) (rcCount slowCount : Nat) (found : StartUpFindings) (otp : OtpReads) (s : State) :
    Host.Outcome State Fault Refusal :=
  .next (
    if s.sup.mode = .boot ∧ s.sup.bistRunning ∧ s.sup.pfsOrder = 0 then
      let r0 := (sortUnits found.faults).foldl State.startUpFault ((s.restOtp otp).startUpLoops found.inputs found.speeds, s.unitsUp)
      let r := (r0.1.takeWanted, r0.2)
      let rcOk := decide (900000 ≤ rcCount ∧ rcCount ≤ 1100000)
      let slOk := decide (1000 * ((slowCount : Int) - 32768).natAbs ≤ slowCount)
      let s0 : State := { r.1 with bist := { r.1.bist with rate := found.rate, rateSp := 980, rateTemp := max s.pwr.t1 s.pwr.t2, rateLow := 0 } }
      let s1 := (List.range 6).foldl (fun a t => a.bistPart t (! startUpBad found t) true) s0
      let s2 := s1.bistPart 6 rcOk true
      let s3 : State := { s2 with
        sle := { s2.sle with lfsr := if seed = 0 then 1 else seed }, sin := { s2.sin with srcOn := true },
        sup := { s2.sup with bistRunning := false, rcRef := rcCount, rcBad := 0, slowBad := if slOk then 0 else 1, rcDev := 0 } }
      let s4 := ((s3.mlog 0x2800 0x02 0 0 s3.bist.failed.toNat).rebuildReport).usSwitch true
      if startUpOk found && r.2 && rcOk then s4.bootDone else s4.enterHalt 5
    else s)

/-- STRAP_REREAD: once a second; two readings in a row that differ from Boot's decode, or are invalid (R24). -/
def execStrapReread (straps : Straps) (s : State) : Host.Outcome State Fault Refusal :=
  .next (
    if s.sup.mode = .off then s
    else
      let d := strapDecode straps
      let n := if d.addr.isNone ∨ d ≠ s.sup.straps then s.sup.strapBad + 1 else 0
      let s1 : State := { s with sup := { s.sup with strapBad := n } }
      if n ≥ 2 ∧ s1.sup.mode ≠ .parked then s1.enterHalt 7 else s1)

/-- NRST: 10 us or more resets, below 1 us nothing; between, in full or not at all (R83). From PFS on the shutdown completes (R36). -/
def execNrst (lowNs : Nat) (boot : BootRead) (s : State) : Host.Outcome State Fault Refusal :=
  .next (
    if s.sup.mode = .off ∨ s.sup.pfsOrder ≠ 0 ∨ lowNs < 1000 then s
    else if lowNs ≥ 10000 then s.moduleReset boot
    else if Config.shortReset s.fresh then s.tick.moduleReset boot
    else s.tick)

/-! ### Mains (R34 to R36, R484) -/

/-- INTERRUPTION: the input has been below its stop threshold for 3 ms; `power` is the input power before it (R32). -/
def execInterruption (input : MainsInput) (power : Nat) (s : State) : Host.Outcome State Fault Refusal :=
  .next (
    if ! mainsStop input then s
    else if s.sup.mode ≠ .off ∧ s.pwr.present then
      let p := { s.pwr with
        present := false, interr := true, mains := if s.pwr.mains = .normal then .interrupted else s.pwr.mains, preP := power, recharging := false,
        interruptions := (s.pwr.interruptions + 1) % 2 ^ 32 }
      State.mlog { s with pwr := p } 0x260B 0x01 1 0 1
    else if s.sup.mode = .off then { s with pwr := { s.pwr with present := false } }
    else s)

/-- The input has been present again for 3 ms. -/
def Pwr.back (p : Pwr) (now : Nat) : Bool := p.present && decide (now ≥ p.backAt + 3 * msTicks)

/-- INTERRUPTION_END: the input has been present again for 3 ms; PFW, the higher code, stays until the bulk reaches 360 V. -/
def execInterruptionEnd (s : State) : Host.Outcome State Fault Refusal :=
  .next (
    if s.pwr.back s.clk.real ∧ s.pwr.interr then
      let s1 : State := { s with pwr := { s.pwr with interr := false, mains := if s.pwr.mains = .interrupted then .normal else s.pwr.mains } }
      if s.pwr.mains = .interrupted then s1.mlog 0x260B 0x01 0 0 0 else s1
    else s)

/-- PFW: the bulk falls below 330 V; the CP starts to flush. -/
def execPfw (bulkV : Nat) (s : State) : Host.Outcome State Fault Refusal :=
  .next (
    if s.sup.mode ≠ .off ∧ bulkV < 330 ∧ (s.pwr.mains = .normal ∨ s.pwr.mains = .interrupted) then
      State.mlog { s with pwr := { s.pwr with mains := .pfw, bulkV := bulkV } } 0x260B 0x01 1 0 2
    else s)

/-- PFW_CLEAR: the bulk reaches 360 V again; an interruption whose input has not been back for 3 ms is the highest code then. -/
def execPfwClear (bulkV : Nat) (s : State) : Host.Outcome State Fault Refusal :=
  .next (
    if s.pwr.mains = .pfw ∧ bulkV ≥ 360 then
      let m : Mains := if s.pwr.interr && ! s.pwr.back s.clk.real then .interrupted else .normal
      State.mlog { s with pwr := { s.pwr with mains := m, bulkV := bulkV, recharging := s.pwr.recharging && decide (bulkV < 390) } }
        0x260B 0x01 0 0 (if m = .normal then 0 else 1)
    else s)

/-- MAINS_RETURN: the input is there again; before PFS the PFC recharges the bulk. -/
def execMainsReturn (input : MainsInput) (s : State) : Host.Outcome State Fault Refusal :=
  .next (
    if mainsStart input ∧ ! s.pwr.present then
      { s with pwr := { s.pwr with present := true, backAt := s.clk.real, recharging := decide (s.pwr.mains ≠ .pfs) } }
    else s)

/-- A BLOCK READ of the recorder's export: PFS ends it (R463). -/
def exportRead (q : Rec0) : Bool := decide (q.type = 0x14 ∧ q.addr / 4096 = 0x2A00)

/-- What PFS does at once (R35): no cycle is committed any more, outputs and group switches are off, US and the sources too; a
waiting command is refused; the recorder freezes; the OWN loop goes to its released band (R390), and of a fuse repair only the entry that
is being blown completes (R446). -/
def State.pfsNow (s : State) (bulkV : Nat) : State :=
  let s1 := ((((s.frcFreeze 2 255).dropAttempts.holdOpen).refuseWaiting).srcsOff (List.range 8)).releaseOwn
  let s2 : State := { s1 with
    pwr := { s1.pwr with mains := .pfs, bulkV := bulkV },
    sup := { s1.sup with pfsOrder := 1, pend := .none, driveRemoved := true, wdRunning := false, wdArmed := false },
    sle := { s1.sle with epoch := none },
    sin := { s1.sin with srcOn := false },
    bist := { s1.bist with fuseLeft := s1.bist.fuseLeft.take 1 },
    hpo := { s1.hpo with out := s1.hpo.out.filter (fun o => ! exportRead o.rec0) },
    cpl := { s1.cpl with gpark := none } }
  (s2.usSwitch false).mlog 0x260B 0x01 2 0 3

/-- PFS: the bulk falls below 250 V. A mains failure in Parked ends Parked through PFS too (R55). -/
def execPfs (bulkV : Nat) (s : State) : Host.Outcome State Fault Refusal :=
  .next (if s.sup.mode ≠ .off ∧ s.sup.pfsOrder = 0 ∧ bulkV < 250 then s.pfsNow bulkV else s)

/-- STAGING_FLUSH_COMPLETE: after PFW, and as step 5 of the power-fail order (R35, R452). -/
def execStagingFlushComplete (s : State) : Host.Outcome State Fault Refusal :=
  .next (
    if s.sup.pfsOrder = 1 ∨ s.pwr.mains = .pfw then
      let s1 := if s.domOn 2 then s.flushStaging else s
      { s1 with sup := { s1.sup with pfsOrder := if s1.sup.pfsOrder = 1 then 2 else s1.sup.pfsOrder } }
    else s)

/-- The module is Off. -/
def State.turnOff (s : State) (order : Nat) : State :=
  let s1 := s.powerLost
  { s1 with sup := { s1.sup with pfsOrder := order } }

/-- DOMAINS_OFF: step 6, the domains off in reverse order; the module is Off with the AON rail kept (R36). -/
def execDomainsOff (s : State) : Host.Outcome State Fault Refusal :=
  .next (if s.sup.pfsOrder = 2 ∧ s.sup.mode ≠ .off then s.turnOff 3 else s)

/-- PFS_RESTART: the input is at or above the start threshold after step 6; SUP resets itself and Boot begins (R36). -/
def execPfsRestart (input : MainsInput) (boot : BootRead) (s : State) : Host.Outcome State Fault Refusal :=
  .next (if s.sup.mode = .off ∧ s.sup.pfsOrder = 3 ∧ mainsStart input then s.powerUp boot else s)

/-- AON_LOSS: the bulk falls below 100 V and the AON rail with it; from any state the module is Off (R36, R60). -/
def execAonLoss (bulkV : Nat) (s : State) : Host.Outcome State Fault Refusal :=
  .next (
    if bulkV < 100 then
      let s1 := s.turnOff 0
      { s1 with pwr := { s1.pwr with bulkV := bulkV, aonMv := 0, mains := .normal } }
    else s)

/-- AON_RAIL_FAULT: outside 3.10 to 3.50 V for 1 ms with the bulk above PFS (R37). In Parked, PARKED_HALT brings the halt. -/
def execAonRailFault (mv : Nat) (s : State) : Host.Outcome State Fault Refusal :=
  .next (
    if s.sup.mode ≠ .off ∧ s.sup.pfsOrder = 0 ∧ (mv < 3100 ∨ mv > 3500) then
      let s1 : State := { s with pwr := { s.pwr with aonMv := mv } }
      if s1.sup.mode = .parked then s1 else s1.enterHalt 8
    else s)

/-! ### Domains (R39) -/

/-- The domains whose reaction is "restart once". -/
def State.restartsOnce (s : State) (d : Nat) : Bool := decide (d = 2 ∨ d = 3 ∨ d = 4) || (decide (d = 5) && ! s.lotD.cascade && ! s.lotD.pair)

/-- The fault of a domain's rail, with `core` telling the ENG core rail from the ENG 1.8 V rail. -/
def State.railFaultNow (s : State) (d : Nat) (core : Bool) : State :=
  let v := s.dom d
  let s1 := s.setDom d { v with faults := (v.faults + 1) % 2 ^ 32, lastFault := s.clk.now }
  if s1.restartsOnce d then
    let again : Bool := match v.restartAt with
      | some t => decide (s.clk.real - t ≤ 3600 * sTicks)
      | none => false
    let s2 := s1.domDown d (if again then .locked else .fault)
    (s2.setDom d { s2.dom d with restartAt := some s.clk.real }).mlog (0x2600 + d) 0x01 2 0 (if again then 4 else 3)
  else ((s1.domDown d .fault).mlog (0x2600 + d) 0x01 2 0 3).enterHalt (if d = 0 ∧ core then 9 else 11)

/-- RAIL_FAULT: an excursion over 10 us out of a rail window. In Parked, HST restarts once and PARKED_HALT brings a halt. -/
def execRailFault (d : Fin 10) (core : Bool) (s : State) : Host.Outcome State Fault Refusal :=
  .next (if s.domOn d ∧ (s.sup.mode ≠ .parked ∨ s.restartsOnce d) ∧ s.sup.mode ≠ .off then s.railFaultNow d core else s)

/-- A domain in FAULT comes on again. -/
def State.domRestart (s : State) (d : Nat) : State := State.domUp (s.setDom d { s.dom d with state := .off }) d

/-- DOMAIN_RESTART: 100 ms after a fault that restarts once. -/
def execDomainRestart (d : Fin 10) (s : State) : Host.Outcome State Fault Refusal :=
  .next (
    let v := s.dom d
    let due : Bool := match v.restartAt with
      | some t => decide (s.clk.real - t ≥ 100 * msTicks)
      | none => false
    if v.state = .fault ∧ due ∧ s.restartsOnce d ∧ s.sup.mode ≠ .off ∧ (s.sup.mode ≠ .parked ∨ d.val = 3) then
      (s.domRestart d).mlog (0x2600 + d) 0x01 1 0 1
    else s)

/-! ### Trim (R40 to R42) -/

/-- The cases in which the setpoint is fixed at 0.98 V. -/
def State.trimFixedNow (s : State) : Bool :=
  s.pwr.trimFixed || decide (s.sup.mode = .boot ∨ s.sup.mode = .validating ∨ s.sup.mode = .replay) || decide (s.sle.dbg.state = 2)
    || s.pwr.locHold || decide (s.clk.real < s.pwr.locHoldUntil) || s.pwr.rateHold || decide (s.clk.real < s.pwr.rateHoldUntil)

/-- The setpoint after a window with minimum slack a / b of a period. -/
def trimStep (sp a b : Nat) : Nat :=
  if 100 * a < 20 * b then 980 else if 100 * a < 35 * b then min 980 (sp + 10) else if 100 * a > 50 * b then max 820 (sp - 10) else sp

/-- A slack in 1/1,000 of a period, as 0x2600:12 shows it: rounded down (log entry 62). -/
def slackMils (f : Nat × Nat) : Nat := if f.2 = 0 then 0 else 1000 * f.1 / f.2

/-- TRIM_WINDOW: every 16 ms (R41). A window in which no release commits has no minimum: the setpoint is held and 0x2600:12 keeps what
it shows, which R41 leaves open (DESIGN CHOICE, log entry 74). -/
def execTrimWindow (s : State) : Host.Outcome State Fault Refusal :=
  .next (
    if s.domOn 0 ∧ s.clk.now ≥ s.pwr.winStart + 16 * msTicks then
      let m := s.pwr.winSlack
      let sp := if s.trimFixedNow then 980 else match m with
        | none => s.pwr.setpoint
        | some x => trimStep s.pwr.setpoint x.1 x.2
      { s with pwr := { s.pwr with setpoint := sp, minSlack := (m.map slackMils).getD s.pwr.minSlack, winSlack := none, winStart := s.clk.now } }
    else s)

/-! ### US (R45) -/

/-- US_OVERLOAD_OFF: 100 ms in current limit. The channel's readings say since when (R291); while ANA is off PDM alone decides, and the
row is its decision (log entry 62). -/
def execUsOverloadOff (s : State) : Host.Outcome State Fault Refusal :=
  .next (
    if (s.pwr.us = .limit ∨ (s.pwr.us = .on ∧ ! s.domOn 9)) ∧ s.clk.real - s.pwr.usSince ≥ 100 * msTicks then
      State.mlog { s with pwr := { s.pwr with us := .retryWait, usSince := s.clk.real } } 0x260A 0x01 1 0 3
    else s)

/-- US_RETRY: every 2 s while the overload lasts. -/
def execUsRetry (s : State) : Host.Outcome State Fault Refusal :=
  .next (
    if s.pwr.us = .retryWait ∧ s.clk.real - s.pwr.usSince ≥ 2 * sTicks then
      State.mlog { s with pwr := { s.pwr with us := .on, usSince := s.clk.real } } 0x260A 0x01 0 0 1
    else s)

end Sys2Proof.Machine
end

