-- ==== Sys2Proof/Machine/Aaq.lean ====
section
/-! DEFINITION. AAQ_CONVERSION: the analog inputs and the checks of the internal channels (R43, R45, R51, R178, R220, R291 to R302). -/

namespace Sys2Proof.Machine

/-- A reading as an unsigned entry shows it. -/
def reading (v : Int) : Nat := min 65535 v.toNat

/-- Safe Halt with a cause that is found again and again: it is entered, or recorded, once. -/
def State.haltOnce (s : State) (c : Nat) : State :=
  if s.sup.mode = .safeHalt ∧ s.sup.causes.getLsbD c then s else s.enterHalt c

/-- Entries 8 to 23: the pin voltage of Qn in mV against the comparators (R220). -/
def State.aaqPin (s : State) (n : Nat) (v : Int) : State :=
  let o := s.out n
  let off := (o.pinLow && decide (v ≥ 6500)) || (o.pinHigh && decide (v ≤ ((s.grp (outGrp n)).mv : Int) - 2700))
  let bad := if off then min 3 (o.disagree + 1) else 0
  let s1 := s.setOut n { o with mv := reading v, disagree := bad, agree := if off then 0 else min 3 (o.agree + 1) }
  if bad ≥ 3 ∧ o.code ≠ 7 then (s1.outFault n 7).outRefresh s1.cplRole else s1

/-- The decision that a voltage lies below `t` mV disagrees with a reading by more than 0.5 V. -/
def belowOff (below : Bool) (t v : Int) : Bool := if below then decide (v > t + 500) else decide (v < t - 500)

/-- A decision of the LF comparators, once they have sampled, disagrees with a reading in mV by more than 0.5 V: warning, sag, collapse,
overvoltage, Good (R48, R51). -/
def LfMon.off (m : LfMon) (v : Int) : Bool :=
  m.seen && (belowOff m.warn 19200 v || belowOff m.sag.since.isSome 16800 v || belowOff m.collapse.since.isSome 12000 v
    || belowOff (! m.ovolt.since.isSome) 30000 v
    || (if m.good then decide (v < 18700 ∨ v > 30500) else decide (v > 19700 ∧ v < 29500)))

/-- Entries 24 and 25: LF in mV against the monitors' decisions; three consecutive readings that disagree cut the group off (R51). -/
def State.aaqLf (s : State) (g : Nat) (v : Int) : State :=
  let q := s.grp g
  let bad := if q.lf.off v then min 3 (q.disagree + 1) else 0
  let s1 := s.setGrp g { q with mv := reading v, disagree := bad }
  if bad ≥ 3 ∧ (q.disagree < 3 ∨ ! q.latch) then (s1.cutOff g 5).outRefresh s1.cplRole else s1

/-- The tick of SOUT's urgent request in a running dark pulse: the sample 20 us before its end (R211). -/
def State.urgentTick (s : State) (t : TestPulse) : Option Nat :=
  match t.of with
  | .dark d => some (t.start + (s.lotD.testWidth (.dark d) - 20) * usTicks)
  | .group _ => none

/-- AAQ may serve a request of tick u now, the result within 2 us; one that came during a restarted conversion waits for its end (R294). -/
def State.urgentWindow (s : State) (u : Nat) : Bool :=
  s.domOn 9 && decide ((if s.aaq.urgentAt = some u then u else max u s.aaq.restartEnd) ≤ s.clk.now)
    && decide (s.clk.now ≤ max u s.aaq.restartEnd + 100)

/-- The tick of the request for the pin of output n that AAQ serves now. -/
def State.urgentFor (s : State) (n : Nat) : Option Nat :=
  match s.sout.test with
  | some t => match t.of, s.urgentTick t with
    | .dark d, some u =>
      if s.urgentWindow u ∧ (s.lotD.darkOuts d).contains n ∧ ! t.urgent.any (fun r => decide (r.1 = n)) then some u else none
    | _, _ => none
  | none => none

/-- A request waits unserved: it goes before every entry of the table (Table: Coinciding ADC events). -/
def State.urgentOpen (s : State) : Bool :=
  match s.sout.test with
  | some t => t.urgent.isEmpty && (match s.urgentTick t with
    | some u => s.urgentWindow u
    | none => false)
  | none => false

/-- The urgent conversion of a pin: its value is shown at 0x2200+n:15 and decides code 7 at the end of the pulse (R211). -/
def State.urgentPin (s : State) (n u : Nat) (v : Int) : State :=
  let s1 := s.aaqUrgent u
  let s2 := s1.setOut n { s1.out n with mv := reading v }
  { s2 with sout := { s2.sout with test := s2.sout.test.map (fun (t : TestPulse) => { t with urgent := t.urgent ++ [(n, reading v)] }) } }

/-- The current of US is at its limit, which engages from 2.75 to 3.25 A (R44): the current is measured with the voltage. -/
def State.usAtLimit (s : State) : Bool := decide ((Config.usCurrent s.fresh).toNat ≥ 2750 + Config.usLimit.toNat % 501)

/-- Entry 26: US in mV; with its current at the limit or its voltage below 18 V it is in current limit (R45). -/
def State.aaqUs (s : State) (v : Int) : State :=
  let lim := decide (v < 18000) || s.usAtLimit
  let now : UsState := if lim ∧ s.pwr.us = .on then .limit else if ! lim ∧ s.pwr.us = .limit then .on else s.pwr.us
  State.measured { s with pwr := { s.pwr with usMv := reading v, us := now, usSince := if now = s.pwr.us then s.pwr.usSince else s.clk.real } }

/-- The source's pulse or its blanking window runs (R300). -/
def State.srcBlank (s : State) (k : Nat) : Bool :=
  match (s.src k).pulseAt with
  | some t => decide (t ≤ s.clk.now) && decide (s.clk.now < t + 500 * (s.lotD.srWidth k + s.lotD.maxRet k))
  | none => false

/-- Entries 27 to 34: the voltage of source k in mV; three retained readings below 18 V are fault 3 (R178, R300). -/
def State.aaqSource (s : State) (k : Nat) (v : Int) : State :=
  if s.srcBlank k then s
  else
    let live := s.srcLive k && s.srcRuns k && ! (s.src k).low
    let n := if live ∧ v < 18000 then min 3 (s.aaq.srcLow.get 0 k + 1) else 0
    let s1 := s.setSrc k { s.src k with mv := reading v }
    if n ≥ 3 then State.sourceFails { s1 with aaq := { s1.aaq with srcLow := s1.aaq.srcLow.set 0 k 0 } } k 3
    else { s1 with aaq := { s1.aaq with srcLow := s1.aaq.srcLow.set 0 k n } }

/-- A reading in 0.01 uV deviates by more than 0.5 % from its calibrated value (R301). -/
def vrefOff (v : Int) (cal : Nat) : Bool := decide ((v - cal).natAbs * 200 > cal)

/-- Entry 35: VREF_A in 0.01 uV. -/
def State.aaqVrefA (s : State) (v : Int) : State :=
  { s with aaq := { s.aaq with vrefA := (v / 10000).toNat, devA := vrefOff v (s.vrefCal false) } }

/-- A reference fault begins or ends (R301). -/
def State.refFault (s : State) (a b : Bool) : State :=
  if a = s.aaq.refA ∧ b = s.aaq.refB then s
  else
    (State.mlog { s with aaq := { s.aaq with refA := a, refB := b } } 0x2348 0x06 (if a || b then 2 else 0) 0
      ((if a then 1 else 0) + (if b then 2 else 0))).aiRefresh

/-- Entry 36: VREF_B in 0.01 uV, and the check of both (R301), which is test 5 (R435). -/
def State.aaqVrefB (s : State) (v : Int) : State :=
  let da := s.aaq.devA
  let db := vrefOff v (s.vrefCal true)
  let q := s.aaq
  let q1 : Aaq := { q with
    vrefB := (v / 10000).toNat,
    badBoth := if da && db then q.badBoth + 1 else 0,
    badA := if da && ! db then q.badA + 1 else 0,
    badB := if db && ! da then q.badB + 1 else 0,
    goodA := if da then 0 else min 10 (q.goodA + 1),
    goodB := if db then 0 else min 10 (q.goodB + 1) }
  let s1 := ({ s with aaq := q1 } : State).bistPart 5 (! da && ! db) true
  let s2 := s1.refFault (decide (q1.badA ≥ 2) || (q.refA && decide (q1.goodA < 10))) (decide (q1.badB ≥ 2) || (q.refB && decide (q1.goodB < 10)))
  if q1.badBoth ≥ 2 then s2.haltOnce 6 else s2

/-- The warning at 115 degC and its end below 110 degC at 3 readings (R43). -/
def State.tempWarning (s : State) (second : Bool) : State :=
  let p := s.pwr
  let low := decide (p.t1 < 1100 ∧ p.t2 < 1100)
  let n := if ! low then 0 else if second then min 3 (p.tempLowRun + 1) else p.tempLowRun
  let s1 : State := { s with pwr := { p with tempLowRun := n } }
  if p.t1 ≥ 1150 ∨ p.t2 ≥ 1150 then
    (if p.tempWarn then s1
     else let s2 : State := { s1 with pwr := { s1.pwr with tempWarn := true, tempLowRun := 0 } }
          s2.mlog 0x260B 0x08 1 0 s2.pwrWarnings)
  else if p.tempWarn ∧ n ≥ 3 then
    let s2 : State := { s1 with pwr := { s1.pwr with tempWarn := false } }
    s2.mlog 0x260B 0x08 0 0 s2.pwrWarnings
  else s1

/-- Entries 37 and 38: die temperatures in 0.1 degC (R43). -/
def State.aaqTemp (s : State) (second : Bool) (v : Int) : State :=
  let s0 : State := { s with pwr := { s.pwr with t1 := if second then s.pwr.t1 else v, t2 := if second then v else s.pwr.t2 } }
  let apart := decide ((s0.pwr.t1 - s0.pwr.t2).natAbs > 100)
  let since := holdFrom apart s0.pwr.tempDiffSince s0.clk.now
  let s1 := State.tempWarning { s0 with pwr := { s0.pwr with tempDiffSince := since } } second
  if v ≥ 1250 ∨ heldFor since s.clk.now sTicks then s1.haltOnce 10 else s1

/-- Nominal of a domain's main rail in mV (Table: Switched domains); the ENG core rail has its own window. -/
def railNominal (d : Nat) : Nat :=
  match d with
  | 1 => 900
  | 5 => 1800
  | 6 => 3300
  | 7 => 3300
  | 8 => 3300
  | 9 => 1800
  | _ => 1000

/-- A rail reading in mV outside its window of R300. -/
def railOutside (d : Nat) (v : Int) : Bool :=
  if d = 0 then decide (v < 760 ∨ v > 1070) else decide ((v - railNominal d).natAbs * 100 > 7 * railNominal d)

/-- Entries 39 to 48: the main rail of domain d in mV. -/
def State.aaqRail (s : State) (d : Nat) (v : Int) : State :=
  let s1 := s.setDom d { s.dom d with mv := reading v }
  let n := if s.domOn d ∧ railOutside d v then min 3 (s.aaq.railBad.get 0 d + 1) else 0
  let s2 : State := { s1 with aaq := { s1.aaq with railBad := s1.aaq.railBad.set 0 d (if n ≥ 3 then 0 else n) } }
  if n ≥ 3 then s2.railFaultNow d (decide (d = 0)) else s2

/-- PDM's comparators and a bulk reading in V differ by more than 15 V (R300). -/
def State.bulkOff (s : State) (v : Int) : Bool :=
  match s.pwr.mains with
  | .pfw => decide (v > 375 ∨ v < 235)
  | .pfs => decide (v > 265)
  | _ => decide (v < 315)

/-- Entry 49: the bulk bus in V (R300). -/
def State.aaqBulk (s : State) (v : Int) : State :=
  let low := if v < 245 then min 2 (s.aaq.bulkLow + 1) else 0
  let off := if s.bulkOff v then min 4 (s.aaq.bulkApart + 1) else 0
  let s1 : State := { s with pwr := { s.pwr with bulkV := reading v }, aaq := { s.aaq with bulkLow := low, bulkApart := off } }
  let s2 := if off = 3 then s1.mlog 0x260B 0x04 1 0 (reading v) else s1
  if low ≥ 2 ∧ s2.sup.pfsOrder = 0 then s2.pfsNow (reading v) else s2

/-- Entry 50: the offset between MF and DGND in mV (R302). -/
def State.aaqOffset (s : State) (v : Int) : State :=
  let m := v.natAbs
  let q := s.aaq
  let run := if m ≥ 500 then min 10 (q.gndRun + 1) else 0
  let lowSince := holdFrom (decide (m < 250)) q.gndLow s.clk.now
  let begins := decide (run ≥ 10) && ! q.gnd
  let ends := q.gnd && heldFor lowSince s.clk.now sTicks
  let warnDue := decide (m ≥ 250) && (match q.gndWarn with
    | some t => decide (s.clk.now - t ≥ 60 * sTicks)
    | none => true)
  let s1 : State := { s with aaq := { q with
    offset := v, gndRun := run, gndLow := lowSince, gnd := (q.gnd || begins) && ! ends,
    gndWarn := if warnDue then some s.clk.now else q.gndWarn } }
  let s2 := if warnDue then s1.mlog 0x2348 0x05 1 0 (m % 65536) else s1
  if begins then (s2.mlog 0x2348 0x07 2 0 1).aiRefresh
  else if ends then (s2.mlog 0x2348 0x07 0 0 0).aiRefresh else s2

/-- The effect of one conversion. -/
def State.aaqConvert (s : State) (e raw : Nat) (v : Int) : State :=
  if e < 8 then s.aiConvert e raw v
  else if e < 24 then s.aaqPin (e - 8) v
  else if e < 26 then s.aaqLf (e - 24) v
  else if e = 26 then s.aaqUs v
  else if e < 35 then s.aaqSource (e - 27) v
  else if e = 35 then s.aaqVrefA v
  else if e = 36 then s.aaqVrefB v
  else if e = 37 then s.aaqTemp false v
  else if e = 38 then s.aaqTemp true v
  else if e < 49 then s.aaqRail (e - 39) v
  else if e = 49 then s.aaqBulk v
  else s.aaqOffset v

/-- AAQ_CONVERSION (R292, R294): an urgent request of SOUT for the entry's pin is served first; otherwise entry e is due and its slot has
come, and no request waits. Its raw code, and its value in the unit of the entry (log entry 6). -/
def execAaqConversion (e : Fin 64) (raw : BitVec 16) (value : Int) (s : State) : Host.Outcome State Fault Refusal :=
  .next (
    let urgent := if 8 ≤ e.val ∧ e.val < 24 then s.urgentFor (e.val - 8) else none
    if let some u := urgent then s.urgentPin (e.val - 8) u value
    else if s.convertible e.val ∧ ! s.urgentOpen then
      State.aaqConvert { s with aaq := { s.aaq with rounds := s.aaq.rounds.set 0 e.val (s.clk.now / 5000 + 1) } } e.val raw.toNat value
    else s)

end Sys2Proof.Machine
end

