-- ==== Sys2Proof/Machine/Accept.lean ====
section
/-! DEFINITION. Acceptance of a dye lot and its confirmation (R60, R61, R74 to R78). -/

namespace Sys2Proof.Machine

/-- What the checks need of this module (R69, R72, R348, R424). -/
def State.acceptEnv (s : State) (l : Lot) : AcceptEnv :=
  ⟨s.slotDigest l.keySlot, s.silicon, s.otp.firmware, s.sample, s.sup.straps.addr, s.pairBinding⟩

/-- A refusal shown at 0x1F55:02 and :03 and logged (R74). -/
def State.showRefusal (s : State) (code item : Nat) : State :=
  ({ s with lot := { s.lot with refusal := code, item := item } } : State).mlog 0x1F55 0x02 2 item code

/-- A refusal that ends acceptance: the loaded image is discarded and Configuring entered; a stored lot is marked invalid and
Unconfigured entered (R60, R74). It is an exit from Validating too, with no lot (R191, R207, R347, log entry 34). -/
def State.endAcceptance (s : State) (code item : Nat) : State :=
  let s1 := s.showRefusal code item
  let s2 : State := { s1 with lot := { s1.lot with step := 0, loaded := none } }
  let s3 := s2.stopLot.odDefaultsIn
  if s.lot.fromStored then
    State.setMode { s3 with lot := { s3.lot with storedInvalid := true } } .unconfigured
  else s3.enterConfiguring

/-- The resume state (R61). -/
def State.resumeMode (s : State) : Mode := if s.sup.resume = 6 then .run else .commissioning

/-- A lot becomes the active one and the module leaves Validating. -/
def State.activate (s : State) (l : Lot) (m : Mode) : State :=
  let s1 : State := { s with
    lot := { s.lot with active := some l, loaded := none, step := 8 },
    cpl := { s.cpl with load := if l.pair then l.linkLoad.1.1 / l.linkLoad.1.2 else 0 } }
  s1.leaveValidating m

/-- The program rows that the dry run fetches (R102): the ECC finding of each fault's row. -/
def State.dryEcc (s : State) (l : Lot) (faults : List EngineFault) : State :=
  (faults.filter (fun e => l.pInUse e.part && decide (e.wop < l.pCount e.part))).foldl (fun a e =>
    if a.sup.mode = .safeHalt then a else a.fetchEcc (l.pFirst e.part + e.wop) e.fetch.ecc) s

/-- The loader's unit behind step 2, where acceptance has come to the section CRCs (R74, R445). -/
def State.loaderChecks (s : State) (img : List Byte) (e : AcceptEnv) : State :=
  match (match acceptImage img e with
    | some r => if r.1 < 2 ∨ (checkDir img).isSome then none else loaderRun img
    | none => loaderRun img) with
  | some v => s.cvuRuns 4 v
  | none => s

/-- ACCEPTANCE_COMPLETE: steps 0 to 6 have run (R74); `faults` is what the engine's own faults did in the dry run (R142). A stored lot
goes on to the resume state, a loaded one to step 7. -/
def execAcceptanceComplete (faults : List EngineFault) (s0 : State) : Host.Outcome State Fault Refusal :=
  .next (
    if s0.sup.mode = .validating ∧ s0.lot.step ≠ 7 ∧ s0.sup.pfsOrder = 0 then
      let img := if s0.lot.fromStored then s0.lot.stored else s0.lot.image
      let l := Lot.ofImage img
      let s1 := s0.loaderChecks img (s0.acceptEnv l)
      let s := if (acceptStatic img (s0.acceptEnv l)).isNone then s1.dryEcc l faults else s1
      if s.sup.mode = .safeHalt then s
      else match acceptAll img (s0.acceptEnv l) faults with
      | some r => s.endAcceptance r.2.1 r.2.2
      | none =>
        if s.lot.fromStored then s.activate l s.resumeMode
        else { s with lot := { s.lot with loaded := some l, step := 7, wrong := 0, confirmSince := s.clk.real } }
    else s0)

/-- A write of 0x1F62 (R76); from PFS on it does nothing (R63, log entry 63). -/
def State.confirm (s : State) (v : Nat) (tag : Option Byte) : State :=
  if s.sup.pfsOrder ≠ 0 then s.answerTag tag (.abort 0x0F000201)
  else match s.lot.loaded with
  | none => s.answerTag tag (.abort 0x0F000164)
  | some l =>
    if s.sup.mode ≠ .validating ∨ s.lot.step ≠ 7 then s.answerTag tag (.abort 0x0F000164)
    else if v = l.fingerprint then
      let s1 := s.answerTag tag .done
      State.activate { s1 with lot := { s1.lot with stored := s.lot.image, storedInvalid := false } } l .commissioning
    else if s.lot.wrong ≥ 2 then (s.answerTag tag (.abort 0x0F000162)).endAcceptance 0x0F000162 0
    else
      let s1 := (s.answerTag tag (.abort 0x0F000161)).showRefusal 0x0F000161 0
      { s1 with lot := { s1.lot with wrong := s.lot.wrong + 1 } }

/-- CONFIRMATION. -/
def execConfirmation (value : BitVec 32) (s : State) : Host.Outcome State Fault Refusal :=
  .next (if s.domOn 2 then s.confirm value.toNat none else s)

/-- CONFIRMATION_TIMEOUT: 10 min after step 6 (Table: Acceptance steps). -/
def execConfirmationTimeout (s : State) : Host.Outcome State Fault Refusal :=
  .next (
    if s.sup.mode = .validating ∧ s.lot.step = 7 ∧ s.sup.pfsOrder = 0 ∧ s.clk.real ≥ s.lot.confirmSince + 600 * sTicks then s.endAcceptance 0x0F000163 0 else s)

end Sys2Proof.Machine
end

