-- ==== Sys2Proof/Machine/Deliver.lean ====
section
/-! DEFINITION. What EVS does with the rest of the module at a release and at a commit: boundaries (R157), keys and planes (R95,
R127, R381, R402, R460), what the consumers of a commit take (R140), the watchdog (R146, R147), the debug halt's cut-off (R149). -/

namespace Sys2Proof.Machine

/-! ### Boundaries (R157) -/

/-- A boundary of the module: the end of a pair's module cycle, the recorder's cycle, the waiting command (R63, R400, R456). -/
def State.moduleBoundary (s : State) : State :=
  let s1 : State := { s.pairCycle with rcr := { s.pairCycle.rcr with cycleTrig := none } }
  s1.applyWaiting

/-! ### The watchdog (R146, R147) -/

/-- Expiry: SUP removes the drive by its own wires, then Safe Halt is entered with cause 3. -/
def State.watchdogExpire (s : State) : State :=
  ({ s with sup := { s.sup with driveRemoved := true, wdRunning := false } } : State).enterHalt 3

/-- A Resync that does not yet count cycles: no deadline applies to it (R402). -/
def State.resyncing (s : State) : Bool := decide (s.cplRole = .resync) && decide (s.cpl.resync ≠ .counting)

/-- The watchdog waits for no commit: in such a Resync, and in a Replay whose feeding partition has no recorded release any more (R402,
R461). -/
def State.unhurried (s : State) : Bool :=
  s.resyncing
    || (decide (s.sup.mode = .replay) && (match s.lotD.feeding with
      | some p => (s.rpart p).rest.isEmpty
      | none => true))

/-- The watchdog runs and no feed is armed at a release instant of the feeding partition (R146). A release that waits for its IMAGE, or
for a resync to catch up, feeds, and so does the end of a recording (log entry 12). -/
def State.feedMissing (s : State) : Bool := s.sup.wdRunning && ! s.sup.wdArmed && ! s.unhurried

/-- SUP takes a feed with count n: the first after a start with any count, else the count that follows (R146, R147). -/
def State.takeFeed (s : State) (n : Nat) : State :=
  if s.sup.wdRunning ∧ n ≠ (s.sup.wdCount + 1) % 65536 then s.watchdogExpire
  else { s with sup := { s.sup with wdRunning := true, wdArmed := false, wdFedAt := s.clk.real, wdCount := n } }

/-- The feed at a release instant of the feeding partition (R146): an armed feed is delivered with its count, or SUP treats the missing
feed as expiry. -/
def State.watchdogFeed (s : State) : State :=
  if s.sup.wdArmed ∨ (s.sup.wdRunning ∧ s.unhurried) then
    let n := (s.sle.feed + 1) % 65536
    State.takeFeed { s with sle := { s.sle with feed := n } } n
  else if s.sup.wdRunning then s.watchdogExpire
  else s

/-! ### The latch strobe (R95, R119, R127, R156) -/

/-- Partition p is opened at this instant under key k. -/
def State.openRelease (s : State) (p : Nat) (k : Key) (phase : Phase) : State :=
  let q := s.part p
  s.setPart p { q with
    phase := phase, attempt := 1, key := k, failedKey := 0, stamp := s.clk.now, relAt := s.clk.now,
    relK := s.instantK p + 1, edge := false, edgeSeen := q.edge }

/-- A release of a module that evaluates on its own landings; an Active sends what the standby needs. -/
def State.ownRelease (s : State) (p : Nat) : State :=
  let q := s.part p
  let w5 := s.w5 q
  let k := s.newKey p 0
  let s1 := ((k.1.latchOthers p k.2).latchOwn p k.2 w5).openRelease p k.2 .ready
  (s1.sendImage p).sendPairWords p

/-- A release of a standby, or of a module in Resync that counts: its plane waits for the IMAGE (R381). -/
def State.imageRelease (s : State) (p : Nat) : State :=
  let k := s.newKey p 0
  (((k.1.latchOthers p k.2).openRelease p k.2 .image).tryImage p).sendPairWords p

/-- The instant of a partition that a resync has not caught up with: the grid goes on without it, and its release is evaluated later. -/
def State.skipRelease (s : State) (p : Nat) : State := s.setPart p { s.part p with relK := s.instantK p + 1 }

/-- The key, the plane and the stamp of a release of partition p, by mode and role. -/
def State.latchRelease (s : State) (p : Nat) : State :=
  let s1 := (s.frcRelease).repairsAtStrobe p
  if s1.sup.mode = .replay then s1.replayRelease p
  else match s1.cplRole with
    | .standby => s1.imageRelease p
    | .resync => match s1.cpl.resync with
      | .counting => s1.imageRelease p
      | .identity => s1.ownRelease p
      | .requested => s1.ownRelease p
      | _ => (s1.skipRelease p).sendPairWords p
    | _ => s1.ownRelease p

/-- The key of a retry (R127, R460). -/
def State.retryKey (s : State) (p : Nat) (failed : Key) : State × Key :=
  match (if s.sup.mode = .replay then s.replayRetryKey p else none) with
  | some k => (s, k)
  | none => s.newKey p failed

/-! ### What a commit delivers (R140) -/

/-- An output word that holds NONSAFE at commit is logged (R89). -/
def State.logNonsafe (s : State) (p : Nat) : State :=
  (s.part p).workG.cells.foldl (fun a e => match e.2 with
    | some c => if safeOutput a.lotD e.1 && tagNS c.tag then a.mlog (0x3000 + e.1) 2 2 0 c.tag.toNat else a
    | none => a) s

/-- SOUT and TMU take W8, the SAFE channels their arm lanes, CPL its words and its RESULT; in Replay the comparison. -/
def State.deliver (s : State) (p : Nat) : State :=
  let q := s.part p
  let s0 := s.logNonsafe p
  let s1 : State := match q.workG.get none 8 with
    | some c => (s0.takeW8 c.val (deliverQ c.tag) s.cplRole).motionTake (s0.takeW8 c.val (deliverQ c.tag) s.cplRole).sout.w8
    | none => s0
  let s2 := (s1.armLanes p).sendWords p
  if s2.sup.mode = .replay then s2.replayCommit p else s2.sendResult p

/-! ### The debug halt (R149, R150) -/

/-- Both groups in use are cut off: cause 6 at the halt, and they start cut off at the resume (R224). -/
def State.debugCutOff (s : State) : State := s.holdOpen

end Sys2Proof.Machine
end

