-- ==== Sys2Proof/Machine/Sched.lean ====
section
/-! DEFINITION. Releases, the commit gate and the debug halt (chapters 06 and 07): keys, latching, commit, rollback and retry,
pre-emption, the watchdog feed, halt, step and resume. -/

namespace Sys2Proof.Machine

/-! ### The release (R156, R157, R164) -/

/-- A deadline miss: the open attempt is rolled back and never committed, and Safe Halt is entered with cause 2 (R164). -/
def State.deadlineMiss (s : State) (p : Nat) : State :=
  (s.setPart p { s.part p with phase := .idle, workG := {}, workO := {}, timG := {}, timO := {} }).enterHalt 2

/-- The open attempt of p is dropped. -/
def State.dropAttempt (s : State) (p : Nat) : State :=
  s.setPart p { s.part p with phase := .idle, workG := {}, workO := {}, timG := {}, timO := {} }

/-- The deadline of p's open attempt has passed (R164): a resync that has caught up starts again, one that has not goes on (R402). -/
def State.deadlinePassed (s : State) (p : Nat) : State :=
  if s.cplRole = .resync then (if s.resyncing then s else (s.dropAttempt p).resyncRestart) else s.deadlineMiss p

/-- At an instant at which p's previous release has not committed: a standby whose IMAGE is missing leaves the pair and drops the
release (R381, R383), a resync starts again or catches up (R402), any other module has missed the deadline. -/
def State.overdue (s : State) (p : Nat) : State :=
  match (s.part p).phase with
  | .idle => s
  | .image =>
    if s.cplRole = .standby then
      let s2 := (s.dropAttempt p).isolate
      if s2.lotD.feeding = some p then { s2 with sup := { s2.sup with wdArmed := true } } else s2
    else if s.cplRole = .resync then (s.dropAttempt p).resyncRestart
    else s.deadlineMiss p
  | _ => s.deadlinePassed p

/-- PARTITION_RELEASE (R156): at a release instant of p, once. A boundary of the module takes place first where p is the
feeding partition (R157). In a debug halt no release starts, and the grid with its boundaries goes on (Table: Coinciding events). -/
def execPartitionRelease (p : Fin 16) (s : State) : Host.Outcome State Fault Refusal :=
  .next (
    if s.released ∧ s.sle.dbg.state < 2 ∧ s.lotD.pInUse p ∧ s.isInstant p ∧ (s.part p).relK ≤ s.instantK p then
      let feeding := decide (s.lotD.feeding = some p.val)
      let unfed := decide (feeding = true) && s.feedMissing
      let s0 := (s.missingResult p).overdue p
      let s1 := if feeding ∧ s0.released then s0.watchdogFeed else if unfed then s0.watchdogExpire else s0
      let s2 := if feeding then s1.moduleBoundary else s1
      if s2.released ∧ s2.isInstant p then
        let s3 := s2.releaseBoundary p
        if (s3.part p).phase = .idle then ((s3.latchRelease p).kick).catchUp
        else (s3.skipRelease p).sendPairWords p
      else s2
    else if s.released ∧ s.lotD.pInUse p ∧ s.isInstant p ∧ (s.part p).relK ≤ s.instantK p then
      let s1 := s.skipRelease p
      if s.lotD.feeding = some p.val then s1.moduleBoundary else s1
    else s)

/-- PASS_RESUME (R159): the suspended or waiting pass of p goes on where it stopped, once the engine is free and p goes
first. -/
def execPassResume (p : Fin 16) (s : State) : Host.Outcome State Fault Refusal :=
  .next (
    if s.sle.cur = none ∧ s.best = some p.val ∧ s.sle.dbg.state < 2 ∧ ! s.instantOpen then
      (if (s.part p).phase = .ready then s.schedule else s.setCur (some p.val))
    else s)

/-! ### The commit gate (R138 to R141) -/

/-- The timers that the attempt evaluated agree in both copies (R138). -/
def Part.timersAgree (q : Part) : Bool :=
  q.timG.cells.all (fun e => match e.2, q.timO.get none (timerSlot q.key e.1) with
    | some g, some o => decide (g.e = timerMax - o.e ∧ g.p = ! o.p)
    | _, _ => false) && q.timersO.all (fun e => (q.timG.get none e.1).isSome)

/-- The attempt matches: equal signatures and equal timer states (R138). -/
def Part.matches? (q : Part) : Bool := decide (q.sigG = q.sigO) && q.timersAgree

/-- t_retry in twelfths of a tick: 2 N / 240 M s + 2 us is (5 N + 1200) / 12 ticks (R139). -/
def tRetry12 (n : Nat) : Nat := 5 * n + 1200

/-- Write the working words and timers of partition p into the committed banks, at one instant (R97, R140). -/
def State.commitWords (s : State) (p : Nat) : State :=
  let q := s.part p
  let g := q.workG.cells.foldl (fun t e => match e.2 with
    | some c => t.set (s.initG e.1) e.1 c
    | none => t) s.nmt.comG
  let o := q.workO.cells.foldl (fun t e => match e.2 with
    | some c => t.set (s.initO e.1) e.1 c
    | none => t) s.nmt.comO
  let tg := q.timG.cells.foldl (fun t e => match e.2 with
    | some c => t.set (timerStart (s.lotD.preset e.1)) e.1 c
    | none => t) s.sle.tmG
  let s1 := s.putTimersO q.key q.timersO
  { s1 with nmt := { s.nmt with comG := g, comO := o }, sle := { s1.sle with tmG := tg } }

/-- The lesser of the minimum so far and a release's slack, as fractions (R41). -/
def lesserSlack (m : Option (Nat × Nat)) (f : Nat × Nat) : Nat × Nat :=
  match m with
  | none => f
  | some g => if f.1 * g.2 < g.1 * f.2 then f else g

/-- Response, slack, alarms and counters of a committed release (R163, R165, R169). -/
def State.commitStats (s : State) (p : Nat) : State :=
  let q := s.part p
  let per := s.lotD.pPeriod p
  let took := s.clk.now - q.relAt
  let left12 := 12 * (q.relAt + per - s.clk.now) - tRetry12 (s.lotD.pCount p)
  let slack := if per = 0 then 0 else left12 * 1000 / (12 * per)
  let late := decide (10 * took > 9 * per)
  let q1 := { q with
    phase := .idle, seq := (q.seq + 1) % 2 ^ 32, prev := some q.stamp, lastKey := q.key, first := false, edgeSeen := false,
    lastResp := 20 * took, maxResp := max q.maxResp (20 * took), lastSlack := slack, minSlack := min q.minSlack slack,
    retries := if q.attempt = 2 then q.retries + 1 else q.retries,
    alarms := if late then q.alarms + 1 else q.alarms }
  let s1 := s.setPart p q1
  let s2 := { s1 with
    pwr := { s1.pwr with winSlack := some (lesserSlack s1.pwr.winSlack (left12, 12 * per)) },
    sle := { s1.sle with retriesCommitted := if q.attempt = 2 then s1.sle.retriesCommitted + 1 else s1.sle.retriesCommitted } }
  if late then
    ((s2.mlog (0x2020 + p) 0x0D 1 0 q1.alarms).mlog (0x2020 + p) 0x07 1 0 q1.lastResp).mlog 0x2600 0x11 1 0 s2.pwr.setpoint
  else s2

/-- An output demand that rises while Parked entry is pending abandons the entry (R53), for the group too (R404). -/
def State.parkDemand (s : State) (p : Nat) : State :=
  match s.sup.pend with
  | .parked _ => if s.lotD.pWrites p 8 ∧ s.anyOn then s.abandonPark else s
  | _ => s

/-- Commit of partition p (R140): words and timers, statistics, and what the consumers take; a trunk cycle that has started at this very
tick goes out with it (R364). -/
def State.commit (s : State) (p : Nat) : State :=
  let retry := decide ((s.part p).attempt = 2)
  let s1 := (s.frcCommit p).commitWords p
  let s2 := s1.deliver p
  let s3 := s2.commitStats p
  let s4 := if s3.lotD.feeding = some p ∧ s3.released then { s3 with sup := { s3.sup with wdArmed := true } } else s3
  let s5 := s4.setPart p { s4.part p with workG := {}, workO := {}, timG := {}, timO := {} }
  (((s5.frcTriggers p retry).parkDemand p).catchUp).trunkResend

/-- Count and record a mismatch, request lane localisation, hold the trim (R139, R142, R152, R42). -/
def State.mismatch (s : State) (p : Nat) : State :=
  let q := s.part p
  let s1 := { s with
    sle := { s.sle with
      mismatches := (s.sle.mismatches + 1) % 2 ^ 32, lastMisPart := some p, lastMisAt := s.clk.now,
      misKey1 := if q.attempt = 1 then q.key.toNat else s.sle.misKey1,
      misKey2 := if q.attempt = 1 then 0 else q.key.toNat,
      locState := 1, locOpen := true, locCount := s.sle.locCount + 1 },
    pwr := { s.pwr with locHold := true, setpoint := 980 } }
  (s1.mlog 0x2800 0x20 1 p s1.sle.mismatches).frcEvent 3
    (p + q.seq.succ % 2 ^ 32 * 256 + (if q.attempt = 1 then q.key.toNat * 2 ^ 40 else q.failedKey.toNat * 2 ^ 40 + q.key.toNat * 2 ^ 48))

/-- Rollback and, where the deadline leaves t_retry, one retry under another key; otherwise Safe Halt with cause 1 (R139). -/
def State.rollback (s : State) (p : Nat) : State :=
  let s1 := s.mismatch p
  let q := s1.part p
  let left := q.relAt + s.lotD.pPeriod p - s.clk.now
  if q.attempt = 1 ∧ (s.resyncing ∨ 12 * left ≥ tRetry12 (s.lotD.pCount p)) then
    let d := s1.retryKey p q.key
    d.1.setPart p { q with phase := .ready, attempt := 2, failedKey := q.key, key := d.2, workG := {}, workO := {}, timG := {}, timO := {} }
  else
    (s1.setPart p { q with phase := .idle, workG := {}, workO := {}, timG := {}, timO := {} }).enterHalt 1

/-- The end of an attempt is a suspension point (R159): a retry that a ready partition of a higher class pushes aside is counted. -/
def State.pushedAside (s : State) (p : Nat) : State :=
  match s.best with
  | some b =>
    if (s.part p).phase = .ready ∧ (s.part p).attempt = 2 ∧ s.lotD.pClass b < s.lotD.pClass p then
      s.setPart p { s.part p with suspensions := (s.part p).suspensions + 1 }
    else s
  | none => s

/-- COMMIT_GATE (R138): it decides the attempt that stands at its gate. A commit in the count of the partition's next release
instant is a deadline miss (Table: Coinciding events). The end of the attempt is a suspension point (R159). -/
def execCommitGate (s : State) : Host.Outcome State Fault Refusal :=
  .next (
    match s.sle.cur with
    | none => s
    | some p =>
      if (s.part p).phase = .gate ∧ s.sle.dbg.state < 2 ∧ s.stopOf p = none then
        let s1 :=
          if s.isInstant p ∧ s.clk.now ≠ (s.part p).relAt ∧ ! s.resyncing then s.deadlinePassed p
          else if (s.part p).matches? then s.commit p
          else s.rollback p
        let s2 := if s1.sle.dbg.atGate = some p then { s1 with sle := { s1.sle with dbg := { s1.sle.dbg with atGate := none, due := true } } } else s1
        let s3 := s2.pushedAside p
        if s3.released then { s3 with sle := { s3.sle with cur := none } }.kick else { s3 with sle := { s3.sle with cur := none } }
      else s)

/-! ### The debug halt (R148 to R150) -/

/-- The halt takes effect: drive removed, groups cut off, watchdog suspended, rail at 0.98 V (R149, R42). -/
def State.debugHalt (s : State) : State :=
  let d := s.sle.dbg
  let s1 := { s with
    sle := { s.sle with dbg := { d with state := 2, due := false, atGate := none } },
    sup := { s.sup with driveRemoved := true, wdRunning := false },
    pwr := { s.pwr with setpoint := 980 } }
  s1.debugCutOff.mlog 0x2000 0x10 1 0 2

/-- A requested halt waits for the commit gate of p's attempt (R148). -/
def State.haltAtGate (s : State) (p : Nat) : State :=
  { s with sle := { s.sle with dbg := { s.sle.dbg with state := 1, part := none, idx := 0, atGate := some p } } }

/-- HALT_REQUEST (R148): a JTAG session in Commissioning asks for a halt. During a ground pass at WOP i it takes effect after
WOP i of both passes; during an overdye pass after the commit gate; with no pass running at once. -/
def State.haltRequest (s : State) : State :=
  if s.sle.dbg.state = 0 then
    match s.sle.cur with
    | none => ({ s with sle := { s.sle with dbg := { s.sle.dbg with state := 1, part := none, idx := 0 } } } : State).debugHalt
    | some p =>
      let q := s.part p
      let n := s.lotD.pCount p
      if q.gi < n then
        { s with sle := { s.sle with dbg := { s.sle.dbg with
            state := 1, part := some p, idx := s.lotD.pFirst p + q.gi, stopAt := some q.gi } } }
      else s.haltAtGate p
  else s

/-- The requested halt is due: both passes stand after WOP i, or the commit gate has decided (R148). -/
def State.haltDue (s : State) : Bool :=
  decide (s.sle.dbg.state = 1) &&
  (s.sle.dbg.due || (match s.sle.dbg.stopAt, s.sle.cur with
    | some i, some p => decide (s.sle.dbg.part = some p ∧ (s.part p).gi > i ∧ (s.part p).oi > i)
    | _, _ => false))

/-- DEBUG_HALT_EFFECT (R149). -/
def execDebugHaltEffect (s : State) : Host.Outcome State Fault Refusal :=
  .next (if s.haltDue then s.debugHalt else s)

/-- One WOP of a single step with what its fetch brings (R102): an uncorrectable row ends the halt in Safe Halt. -/
def State.stepWop (s : State) (p row : Nat) (ps : Pass) (f : Fetch) : State :=
  if s.sle.dbg.state ≠ 2 then s
  else match f.ecc with
    | .uncorrectable => s.fetchEcc row .uncorrectable
    | e => (s.fetchEcc row e).doWop p ps (s.lotD.wop row) f.flip

/-- One single step: ground WOP i + 1, then overdye WOP i + 1 (R149). -/
def State.singleStep (s : State) (fg fo : Fetch) : State :=
  match s.sle.dbg.state, s.sle.dbg.part, s.sle.dbg.stopAt with
  | 2, some p, some i =>
    if i + 1 < s.lotD.pCount p then
      let row := s.lotD.pFirst p + i + 1
      let s1 := (s.stepWop p row .ground fg).stepWop p row .overdye fo
      let q := s1.part p
      let s2 := s1.setPart p { q with gi := i + 2, oi := i + 2 }
      if s1.sle.dbg.state ≠ 2 then s1
      else { s2 with sle := { s2.sle with dbg := { s2.sle.dbg with idx := row, stopAt := some (i + 1) } } }
    else s
  | _, _, _ => s

/-- Resume (R150): the halted attempt goes on to its gate; both groups start cut off; the watchdog starts again at its first
feed (R147). -/
def State.resumeHalt (s : State) : State :=
  if s.sle.dbg.state = 2 then
    let d := s.sle.dbg
    let s1 := { s with
      sle := { s.sle with dbg := { d with state := 0, part := none, idx := 0, stopAt := none } },
      sup := { s.sup with driveRemoved := false, wdArmed := false } }
    let s2 := match d.part with
      | some p =>
        let q := s1.part p
        if q.gi ≥ s1.lotD.pCount p ∧ q.oi ≥ s1.lotD.pCount p then s1.setPart p { q with phase := .gate } else s1
      | none => s1
    let s3 := s2.debugCutOff
    State.mlog { s3 with sout := { s3.sout with holdBoth := true } } 0x2000 0x10 0 0 0
  else s

end Sys2Proof.Machine
end

