-- ==== Sys2Proof/Machine/Cascade.lean ====
section
/-! DEFINITION. CPL's commands: cascade frames, the cross-link and its frames, control messages, the OWN and TRIP loops, time
discipline (R258, R259, R370 to R408). -/

namespace Sys2Proof.Machine

/-! ### Cascade frames (R373 to R377) -/

/-- A cascade frame as it arrives. -/
structure CFrame where
  type : Nat
  src : Nat
  dst : Nat
  hop : Nat
  seq : Nat
  body : List Byte
  ok : Bool
deriving DecidableEq, Repr

/-- The fields of a frame and whether its check is correct. -/
def readCFrame (b : List Byte) : CFrame :=
  let head := b.take (b.length - 4)
  ⟨u8 b 0, u8 b 1, u8 b 2, u8 b 3, u32 b 4, head.drop 8, decide (b.length ≥ 12) && decide (b.drop (b.length - 4) = caCheck head)⟩

/-- The frame goes on cut-through with its hop count lowered, unless that has reached 0 (R373); its check moves with it, so that a wrong one stays wrong. -/
def State.caForward (s : State) (b : List Byte) : State :=
  let f := readCFrame b
  if f.src = s.memberNo ∨ f.hop ≤ 1 then s
  else
    let old := b.take (b.length - 4)
    let new := old.take 3 ++ [BitVec.ofNat 8 (f.hop - 1)] ++ old.drop 4
    let fix := Nat.xor (leNat (b.drop (b.length - 4))) (Nat.xor (leNat (caCheck old)) (leNat (caCheck new)))
    s.pushCa (new ++ leBytes 4 fix)

/-- A source number that the lot expects (R377). -/
def State.expected (s : State) (m : Nat) : Bool := decide (m ≤ s.lotD.members ∧ m ≠ s.lotD.member)

/-- A valid frame from a source: present from now; two sources under one number are told by their hop counts (R376, R377). -/
def State.caHeard (s : State) (f : CFrame) : State :=
  let c := s.csrc f.src
  let dup := c.present && decide (c.hop ≠ f.hop)
  let s1 := s.setCsrc f.src { c with
    lastValid := some s.clk.real, present := true, hop := f.hop, dupAt := if dup then some s.clk.real else c.dupAt }
  let s2 := if dup then (s1.mlog 0x2700 0x21 2 f.src 2).faultSource f.src else s1
  if s2.expected f.src then s2 else s2.mlog 0x2700 0x21 2 f.src 1

/-- Two sources under one number have been heard within 1 s. -/
def State.duplicated (s : State) (m : Nat) : Bool :=
  match (s.csrc m).dupAt with
  | some t => decide (s.clk.real - t < sTicks)
  | none => false

/-- A frame comes in: forwarded where it is not for this module alone, discarded where its hop count is 0 or its check wrong, else
handed on (R373, R376). Without an active lot a module forwards, and takes nothing. -/
def State.caTake (s : State) (b : List Byte) (type : Nat) (k : State → CFrame → State) : State :=
  if ! s.caPort then s
  else
    let f := readCFrame b
    let s1 := if f.dst = s.memberNo then s else s.caForward b
    if f.hop = 0 then s
    else if ! f.ok then { s1 with cpl := { s1.cpl with discarded := s1.cpl.discarded + 1 } }
    else if ! s.caOn ∨ f.type ≠ type ∨ f.src = s.lotD.member then s1
    else
      let s2 := s1.caHeard f
      if f.dst = s.lotD.member ∨ f.dst = 0xFF then k s2 f else s2

/-- The sequence is later than the last one accepted. -/
def seqLater (last : Option Nat) (n : Nat) : Bool :=
  match last with
  | none => true
  | some l => decide (1 ≤ (n + 2 ^ 32 - l) % 2 ^ 32 ∧ (n + 2 ^ 32 - l) % 2 ^ 32 < 2 ^ 31)

/-- The CASCADE in word of a source and an index. -/
def Lot.cascadeIn (l : Lot) (m i : Nat) : Option Nat := (l.cascadeWords false m).find? (fun w => decide (l.bParam w / 16 = i))

/-- Land one entry of a WORDS frame (R376). -/
def State.landEntry (s : State) (m : Nat) (e : List Byte) : State :=
  match s.lotD.cascadeIn m (u8 e 0) with
  | none => s
  | some w =>
    let t : Tag := e.getD 1 0
    s.land w ⟨if tagQ t = 3 then 0 else bytesLanes (e.drop 4), s.lotD.force w (mkTag (tagNS t) 2 (tagQ t)), 0⟩

/-- The words of a WORDS frame. -/
def State.takeWords (s : State) (f : CFrame) : State :=
  let c := s.csrc f.src
  if f.dst = 0xFF ∨ ! seqLater c.seq f.seq then s
  else
    let s1 := s.setCsrc f.src { c with seq := some f.seq, fault := s.duplicated f.src }
    if s1.duplicated f.src then s1 else (blocks 20 f.body).foldl (fun a e => a.landEntry f.src e) s1

/-- WORDS: a frame of type 0x11 arrives at CI (R373 to R376). -/
def execWords (bytes : List Byte) (s : State) : Host.Outcome State Fault Refusal := .next (s.caTake bytes 0x11 State.takeWords)

/-- KEEPALIVE: a frame of type 0x12; WORDS INVALID puts the source's words to FAULT (R375, R376). -/
def execKeepalive (bytes : List Byte) (s : State) : Host.Outcome State Fault Refusal :=
  .next (s.caTake bytes 0x12 (fun a f => if bitOf (u8 f.body 2) 0 then a.faultSource f.src else a))

/-- CASCADE_SOURCE_TIMEOUT: 1 ms without a valid frame from source m (R376). -/
def execCascadeSourceTimeout (m : Fin 8) (s : State) : Host.Outcome State Fault Refusal :=
  .next (
    let c := s.csrc m
    let due : Bool := match c.lastValid with
      | some t => c.present && decide (s.clk.real - t ≥ msTicks)
      | none => false
    if s.caOn ∧ due then
      let s1 := s.faultSource m
      let s2 := s1.setCsrc m { s1.csrc m with present := false }
      if s2.lotD.member = 0 ∧ s2.expected m then
        ({ s2 with cpl := { s2.cpl with breaks := (s2.cpl.breaks + 1) % 2 ^ 32 } } : State).mlog 0x2700 0x22 2 m (s2.cpl.breaks + 1)
      else s2
    else s)

/-- A measurement that is due once a second. -/
def State.everySecond (s : State) (last : Option Nat) : Bool :=
  match last with
  | none => true
  | some t => decide (s.clk.real - t ≥ sTicks)

/-- RING_LATENCY_MEASURE (R377). -/
def execRingLatencyMeasure (ns : Nat) (s : State) : Host.Outcome State Fault Refusal :=
  .next (if s.caOn ∧ s.everySecond s.cpl.ringAt then { s with cpl := { s.cpl with ringNs := ns % 2 ^ 32, ringAt := some s.clk.real } } else s)

/-- The states in which the words that a module sends hold (R375). -/
def State.wordsValid (s : State) : Bool := decide (s.sup.mode = .commissioning ∨ s.sup.mode = .run) && decide (s.sle.dbg.state < 2)

/-- KEEPALIVE_SEND: every 250 us, in every state (R375). -/
def execKeepaliveSend (s : State) : Host.Outcome State Fault Refusal :=
  .next (
    let due : Bool := match s.cpl.keepAt with
      | none => true
      | some t => decide (s.clk.real - t ≥ 250 * usTicks)
    if s.caPort ∧ due then
      State.caSend { s with cpl := { s.cpl with keepAt := some s.clk.real } } 0x12 0xFF
        [BitVec.ofNat 8 s.sup.mode.code, BitVec.ofNat 8 s.cplRole.code, if s.wordsValid then 0 else 1, 0, 0, 0, 0, 0]
    else s)

/-! ### The cross-link (R378, R379) -/

/-- The answer to a training: the first 8 bytes of the HMAC over the side A nonce, then the side B nonce. -/
def State.trainingAnswer (s : State) (own peer : List Byte) : List Byte :=
  let key := (s.unscrambled 9 4).flatMap (leBytes 8)
  let a := decide (s.sup.straps.addr.getD 0 < 8)
  (hmacSha256 key (if a then own ++ peer else peer ++ own)).take 8

/-- CROSS_LINK_TRAINING: both nonces and the partner's answer; this module sends its own nonce and its own answer (R378). -/
def execCrossLinkTraining (ownNonce peerNonce answer : List Byte) (s : State) : Host.Outcome State Fault Refusal :=
  .next (
    if s.pairPort ∧ s.cpl.link ≠ 2 then
      let mac := s.trainingAnswer ownNonce peerNonce
      let s0 := (s.pushXl ownNonce).pushXl mac
      if answer = mac then
        let s1 : State := { s0 with cpl := { s0.cpl with link := 2, fold := mac, lastGood := s.clk.real, badRun := 0, peer := s.cpl.peer.gone } }
        s1.mlog 0x2700 0x10 0 0 2
      else { s0 with cpl := { s0.cpl with link := 1 } }
    else s)

/-- The link goes down: the standby is isolated, a resync begins again, the partner is heard no more (R378, R380, R383, R402). -/
def State.linkDown (s : State) : State :=
  let s1 := ({ s with cpl := { s.cpl with link := 1, fold := [], badRun := 0, peer := s.cpl.peer.gone } } : State).pairFault
  let s2 := (s1.isolate).mlog 0x2700 0x10 1 0 1
  if s2.cplRole = .resync then s2.ownLatches.enterResync else s2.seizeLoop

/-- CROSS_LINK_DOWN: 1 ms without a good frame, or 3 wrong checks in a row (R378). -/
def execCrossLinkDown (badChecks : Nat) (s : State) : Host.Outcome State Fault Refusal :=
  .next (if s.cpl.link = 2 ∧ (s.clk.real - s.cpl.lastGood ≥ msTicks ∨ s.cpl.badRun + badChecks ≥ 3) then s.linkDown else s)

/-- A cross-link frame arrives: a wrong check is counted, three in a row take the link down; a good frame is handed on with
partition, sequence and body. -/
def State.xlTake (s : State) (b : List Byte) (type : Nat) (k : State → Nat → Nat → List Byte → State) : State :=
  if ! s.xlUp then s
  else
    let head := b.take (b.length - 4)
    let body := head.drop 8
    if decide (b.length ≥ 12) && decide (b.drop (b.length - 4) = xlCheck s.cpl.fold head) && decide (u16 b 2 = body.length) then
      let s1 : State := { s with cpl := { s.cpl with lastGood := s.clk.real, badRun := 0 } }
      if u8 b 0 = type then k s1 (u8 b 1) (u32 b 4) body else s1
    else
      let s1 : State := { s with cpl := { s.cpl with badRun := s.cpl.badRun + 1 } }
      if s1.cpl.badRun ≥ 3 then s1.linkDown else s1

/-- An IMAGE for partition p (R381, R402); in every role but Active and Solo, that of the feeding partition brings the active's W4
(R227). -/
def State.takeImage (s0 : State) (p seq : Nat) (body : List Byte) : State :=
  let whole := decide (p < 16) && decide (body.length = 10 + 20 * u16 body 8)
  let s := if whole && decide (s0.lotD.feeding = some p ∧ s0.cplRole ≠ .active ∧ s0.cplRole ≠ .solo)
    then s0.readbackCheck (readImage seq body).words else s0
  let keep := whole && (match s.cplRole with
    | .standby => true
    | .resync => (s.cpart p).full
    | _ => false)
  if ! keep then s
  else
    let c := s.cpart p
    let s1 := s.setCpart p { c with images := c.images.filter (fun j => decide (j.seq ≠ seq)) ++ [readImage seq body] }
    if s1.cplRole = .resync ∧ s1.imageBuffer > 262144 then s1.resyncRestart
    else ((s1.tryImage p).kick).catchUp

/-- IMAGE (R379 to R381). -/
def execImage (bytes : List Byte) (s : State) : Host.Outcome State Fault Refusal := .next (s.xlTake bytes 1 State.takeImage)

/-- RESULT (R382). -/
def execResult (bytes : List Byte) (s : State) : Host.Outcome State Fault Refusal :=
  .next (s.xlTake bytes 2 (fun a p seq body =>
    if p < 16 ∧ body.length = 34 then (a.setCpart p { a.cpart p with peer := some (readResult seq body) }).compareResults p else a))

/-- What a partner's STATUS says is kept; an Active that hears a second Active pulls TRIP (R388, R393, R394, R402). -/
def State.takeStatus (s : State) (body : List Byte) : State :=
  let r := u8 body 1
  let act := decide (r = 1)
  let p : Peer := {
    seen := true, live := true, state := u8 body 0, role := r, ready := decide (u8 body 2 = 1), cause := u8 body 3, disc := u8 body 4,
    lotId := u64 body 8, sha := slice body 16 32, actRun := if act && decide (s.cplRole = .active) then s.cpl.peer.actRun + 1 else 0,
    activeAt := if act then some s.clk.real else s.cpl.peer.activeAt }
  let s1 : State := { s with cpl := { s.cpl with peer := p } }
  if s1.cplRole = .active ∧ p.actRun ≥ 2 then s1.pullTrip.enterHalt 15
  else ((s1.decideRole.rejoin).resyncTry).seizeLoop

/-- STATUS. -/
def execStatus (bytes : List Byte) (s : State) : Host.Outcome State Fault Refusal :=
  .next (s.xlTake bytes 3 (fun a _ _ body => if body.length = 48 then a.takeStatus body else a))

/-- STATUS_SEND: every 50,000 ticks (R379). -/
def execStatusSend (s : State) : Host.Outcome State Fault Refusal :=
  .next (
    let due : Bool := match s.cpl.statusAt with
      | none => true
      | some t => decide (s.clk.real - t ≥ 50000)
    if s.xlUp ∧ due then
      let disc : Byte := match s.clk.disc with
        | .free => 0
        | .acquiring => 1
        | .locked => 2
        | .holdover => 3
      State.xlCounted { s with cpl := { s.cpl with statusAt := some s.clk.real } } 3
        ([BitVec.ofNat 8 s.sup.mode.code, BitVec.ofNat 8 s.cplRole.code, if s.cplReady then 1 else 0,
          BitVec.ofNat 8 (s.sup.firstCause.getD 255), disc, 0, 0, 0] ++ leBytes 8 s.lotD.id
          ++ (if s.lotD.digest.isEmpty then List.replicate 32 0 else s.lotD.digest))
    else s)

/-- A FULL IMAGE for partition p (R402): committed state and t_prev are installed, and its IMAGE waits to be evaluated. -/
def State.takeFullImage (s : State) (p seq : Nat) (body : List Byte) : State :=
  if s.cplRole = .resync ∧ s.cpl.resync = .gathering ∧ p < 16 ∧ s.lotD.pInUse p then
    let c := readCommitted s.lotD p body (10 + 20 * u16 body 8)
    if body.length ≠ c.2.2.2 then s
    else
      let s1 := s.installPart p ((seq + 2 ^ 32 - 1) % 2 ^ 32) c.1 c.2.1 c.2.2.1
      let s2 := s1.setPart p { s1.part p with stamp := c.2.2.1, phase := .idle }
      let s3 := s2.setCpart p { s2.cpart p with full := true, images := [readImage seq body] }
      if s3.lotD.inUse.all (fun q => (s3.cpart q).full) then
        State.catchUp { s3 with cpl := { s3.cpl with resync := .catching } }
      else s3
  else s

/-- FULL_IMAGE. -/
def execFullImage (bytes : List Byte) (s : State) : Host.Outcome State Fault Refusal := .next (s.xlTake bytes 5 State.takeFullImage)

/-- The partner's view of its partner words lands in the PAIR words that name them (R380). -/
def State.takePairWords (s : State) (body : List Byte) : State :=
  (readEntries body 0 (body.length / 20)).foldl (fun a e =>
    ((List.range 2048).filter (fun w => decide (w ≥ 16) && decide (a.lotD.bType w = 9) && decide (a.lotD.bPartner w = e.1))).foldl
      (fun b w => b.land w ⟨if tagQ e.2.tag = 3 then 0 else e.2.val, b.lotD.force w (mkTag (tagNS e.2.tag) 6 (tagQ e.2.tag)), 0⟩) a) s

/-- PAIR_WORDS. -/
def execPairWords (bytes : List Byte) (s : State) : Host.Outcome State Fault Refusal :=
  .next (s.xlTake bytes 6 (fun a _ _ body => a.takePairWords body))

/-- CROSS_LINK_ROUND_TRIP: measured once a second; half of it is the link allowance (R258). -/
def execCrossLinkRoundTrip (ns : Nat) (s : State) : Host.Outcome State Fault Refusal :=
  .next (if s.xlUp ∧ s.everySecond s.cpl.tripTimeAt then
    { s with clk := { s.clk with linkAllowanceNs := ns / 2 }, cpl := { s.cpl with tripTimeAt := some s.clk.real } } else s)

/-! ### Control messages (Table: Control messages) -/

/-- A CONTROL frame with this code and argument comes in: over the cross-link, where it is a good frame (R378), or over the ring, where it
is forwarded, discarded or taken as every cascade frame is (R373, R376). -/
def State.ctlTake (s : State) (via : CtlVia) (code arg : Nat) (k : State → State) : State :=
  match via with
  | .crossLink => if s.xlUp then k { s with cpl := { s.cpl with lastGood := s.clk.real, badRun := 0 } } else s
  | .cascade src dst hop seq =>
    s.caTake (caFrame 0x13 src.toNat dst.toNat hop.toNat seq.toNat (controlBody code arg)) 0x13 (fun a _ => k a)

/-- A CONTROL frame of the pair: the ring carries none of these messages to any effect. -/
def State.pairCtl (s : State) (via : CtlVia) (code arg : Nat) (k : State → State) : State :=
  s.ctlTake via code arg (fun a => if via = .crossLink then k a else a)

/-- The module that a message comes from, as a group entry names it: a member, or 8 for the partner (R404). -/
def viaSender (via : CtlVia) : Nat := match via with
  | .crossLink => 8
  | .cascade src _ _ _ => src.toNat

/-- A halt that the partner asks for: at a WOP of a partition, or where no WOP is named at the commit gate of a partition that has an
open attempt; else as a request of this module's own (R148, R151, log entry 55). -/
def State.partnerHalt (s : State) (p wop : Nat) : State :=
  let first := s.lotD.pFirst p
  if wop ≠ 0xFFFF ∧ first ≤ wop ∧ wop < first + s.lotD.pCount p then
    { s with sle := { s.sle with dbg := { s.sle.dbg with state := 1, part := some p, idx := wop, stopAt := some (wop - first) } } }
  else if p < 16 ∧ (s.part p).phase ≠ .idle then s.haltAtGate p
  else s.haltRequest

/-- CONTROL_HALT (R151): the partner of a halting module halts at the same partition and WOP index; index 0xFFFF names no WOP. -/
def execControlHalt (via : CtlVia) (p : Fin 256) (wop : BitVec 16) (s : State) : Host.Outcome State Fault Refusal :=
  .next (s.pairCtl via 1 (p + 256 * wop.toNat) (fun a =>
    if a.sup.mode = .commissioning ∧ a.sle.dbg.state = 0 then a.partnerHalt p wop.toNat else a))

/-- STEP_RESUME: the partner's step or resume (R151). -/
def execStepResume (via : CtlVia) (isResume : Bool) (fg fo : Fetch) (s : State) : Host.Outcome State Fault Refusal :=
  .next (s.pairCtl via 2 (if isResume then 1 else 0) (fun a =>
    if a.sup.mode = .commissioning ∧ a.sle.dbg.state = 2 then (if isResume then a.resumeHalt.kick else a.singleStep fg fo) else a))

/-- The active's command waits for the boundary that it names (R403). -/
def State.partnerCommand (s : State) (code boundary : Nat) : State :=
  if s.cplRole = .standby ∨ s.cplRole = .isolated ∨ s.cplRole = .resync then
    if code = 3 then { s with sup := { s.sup with cmd := some { cmd := .run, tag := none, at? := some boundary } } }
    else if code = 4 then { s with sup := { s.sup with cmd := some { cmd := .commission, tag := none, at? := some boundary } } }
    else s
  else s

/-- CONTROL_COMMAND: the active's RUN or COMMISSION with its boundary (R403). -/
def execControlCommand (via : CtlVia) (code : Byte) (boundary : BitVec 56) (s : State) : Host.Outcome State Fault Refusal :=
  .next (s.pairCtl via 4 (code.toNat + 256 * boundary.toNat) (fun a => a.partnerCommand code.toNat boundary.toNat))

/-- This module's answer to PARK: 0 or the low half of a refusal code. -/
def State.parkReply (s : State) (code : Nat) : State :=
  if s.lotD.member ≠ 0 then s.caControl 0 6 (code % 65536) else s.xlControl 6 (code % 65536)

/-- PARK(t0) of the first module, with this module's own calibration and the wake delay (R404): R52 decides; a partner master asks its own
members before it answers. -/
def State.partnerPark (s : State) (t0 count1 count2 wakeDelay : Nat) : State :=
  let c : PendCmd := { cmd := .park, tag := none, count1 := count1, count2 := count2, at? := some t0 }
  match s.cmdRefusal c with
  | some code => s.parkReply code
  | none =>
    let s1 := s.parkBegins c
    let s2 : State := { s1 with sup := { s1.sup with pend := .parked t0, wakeDelay := wakeDelay % 2 ^ 32 } }
    if s2.lotD.cascade ∧ s2.lotD.member = 0 ∧ s2.lotD.members ≠ 0 then
      let s3 : State := { s2 with cpl := { s2.cpl with
        gpark := some ⟨t0, (List.range s2.lotD.members).map (· + 1), s2.clk.real, false, none⟩ } }
      s3.caControl 255 5 t0
    else s2.parkReply 0

/-- CONTROL_PARK (R404). -/
def execControlPark (via : CtlVia) (t0 : BitVec 64) (count1 count2 wakeDelay : Nat) (s : State) : Host.Outcome State Fault Refusal :=
  .next (s.ctlTake via 5 t0.toNat (fun a => a.partnerPark t0.toNat count1 count2 wakeDelay))

/-- An answer to PARK from module m: the first refusal ends the entry everywhere; the last acceptance answers the PARK (R404). -/
def State.parkAnswered (s : State) (m code : Nat) : State :=
  match s.cpl.gpark with
  | none => s
  | some g =>
    if ! g.waiting.contains m then s
    else if code = 0 then
      let rest := g.waiting.filter (fun x => decide (x ≠ m))
      if rest.isEmpty then
        let s1 : State := { s with cpl := { s.cpl with gpark := none } }
        if g.first then s1.answerTag g.tag .done else s1.parkReply 0
      else { s with cpl := { s.cpl with gpark := some { g with waiting := rest } } }
    else
      let s1 := s.dropPark.parkOff
      if g.first then s1.answerTag g.tag (.abort (0x0F000000 + code)) else s1.parkReply code

/-- PARK_ANSWER (R404). -/
def execParkAnswer (via : CtlVia) (code : BitVec 16) (s : State) : Host.Outcome State Fault Refusal :=
  .next (s.ctlTake via 6 code.toNat (fun a => a.parkAnswered (viaSender via) code.toNat))

/-- ABANDON_PARK (R404): every module abandons the entry. What came over the cross-link goes on into the ring, and what came over the ring
to the partner. -/
def execAbandonPark (via : CtlVia) (s : State) : Host.Outcome State Fault Refusal :=
  .next (s.ctlTake via 7 0 (fun a =>
    match a.sup.pend with
    | .parked _ =>
      let s1 := a.dropPark
      let s2 := if via = .crossLink then (if s1.lotD.cascade then s1.caControl 255 7 0 else s1)
        else if s1.lotD.pair then s1.xlControl 7 0 else s1
      s2.parkDenied a.cpl.gpark
    | _ => a))

/-- DISAGREEMENT: the standby has found one (R400); the active counts it where its own comparison has not. -/
def execDisagreement (via : CtlVia) (p : Fin 16) (seq : BitVec 32) (s : State) : Host.Outcome State Fault Refusal :=
  .next (s.pairCtl via 8 (p + 256 * seq.toNat) (fun a =>
    if a.cplRole = .active ∧ (a.cpart p).compared ≠ seq.toNat + 1 then
      (a.setCpart p { a.cpart p with compared := seq.toNat + 1 }).disagree p seq.toNat
    else a))

/-- The active names t_s, its first module boundary at least 10 ms ahead (R402). -/
def State.nameResync (s : State) : State :=
  if s.cplRole = .active ∧ s.released then
    let t := s.boundaryFrom (s.clk.now + 10 * msTicks)
    let ps := s.cpl.parts.cells.foldl (fun (a : Tab CPart) e => a.set {} e.1 { e.2 with full := false }) s.cpl.parts
    State.xlControl { s with cpl := { s.cpl with ts := t, parts := ps } } 10 t
  else s

/-- RESYNC_REQUEST (R402). -/
def execResyncRequest (via : CtlVia) (s : State) : Host.Outcome State Fault Refusal := .next (s.pairCtl via 9 0 State.nameResync)

/-- RESYNC_START: the module waits for the FULL IMAGEs (R402). -/
def execResyncStart (via : CtlVia) (ts : BitVec 64) (s : State) : Host.Outcome State Fault Refusal :=
  .next (s.pairCtl via 10 ts.toNat (fun a =>
    if a.cplRole = .resync ∧ a.cpl.resync = .requested then
      { a with cpl := { a.cpl with resync := .gathering, ts := ts.toNat, parts := {} } }
    else a))

/-! ### The loops and the roles (R389 to R395) -/

/-- A module that is not Active logs an open wire and a reading outside every band (R398). -/
def State.ownBandLog (s : State) : State :=
  let b := s.cpl.ownBand
  if b = .openWire ∨ b = .outside then s.mlog 0x2700 0x12 2 0 (if b = .openWire then 0 else 255) else s

/-- What a newly qualified OWN band does to the role. -/
def State.ownBandEffect (s : State) : State :=
  let b := s.cpl.ownBand
  match s.cplRole with
  | .active =>
    if b = .openWire then s.mlog 0x2700 0x12 2 0 0
    else if b = .holding then s
    else ({ s with sup := { s.sup with driveRemoved := true } } : State).enterHalt 15
  | .undecided => s.ownBandLog.decideRole
  | .solo => s
  | .resync => s.ownBandLog
  | _ => if bandFree b then s.seizeLoop else s.ownBandLog

/-- The band of one sample: loop current in uA, voltage at the source's terminals in mV (Table: OWN loop bands). -/
def bandAt (x : Nat × Nat) : OwnBand :=
  if x.1 < 1500 then .openWire
  else if 3000 ≤ x.1 ∧ x.1 ≤ 5000 then .released
  else if 8500 ≤ x.1 ∧ x.1 ≤ 11500 then .holding
  else if 17000 ≤ x.1 ∧ x.1 ≤ 23000 ∧ 4000 ≤ x.2 ∧ x.2 ≤ 8000 then .unpowered
  else .outside

/-- The band that the last 4 samples qualify: all of them lie in it (R389). -/
def bandOfSamples (xs : List (Nat × Nat)) : Option OwnBand :=
  match xs with
  | [a, b, c, d] => if bandAt a = bandAt d ∧ bandAt b = bandAt d ∧ bandAt c = bandAt d then some (bandAt d) else none
  | _ => none

/-- OWN_BAND_CHANGE: the last four samples of the loop; 0x2700:11 shows the last in 10 uA (R389). -/
def execOwnBandChange (samples : List (Nat × Nat)) (s : State) : Host.Outcome State Fault Refusal :=
  .next (
    if ! s.domOn 5 then s
    else
      let s1 : State := { s with cpl := { s.cpl with ownCurrent := (samples.getD 3 (0, 0)).1 / 10 % 65536 } }
      match bandOfSamples samples with
      | none => s1
      | some band =>
        if band = s.cpl.ownBand then s1
        else
          let s2 : State := { s1 with cpl := { s1.cpl with
            ownBand := band, ownSince := if bandFree band && bandFree s.cpl.ownBand then s.cpl.ownSince else s.clk.real } }
          if s2.lotD.pair then s2.ownBandEffect else s2)

/-- ROLE_DECISION_TIMEOUT: side B has seen a free loop and no Active for 2 s (R394). -/
def execRoleDecisionTimeout (s : State) : Host.Outcome State Fault Refusal :=
  .next (
    let noActive : Bool := match s.cpl.peer.activeAt with
      | some t => decide (s.clk.real - t ≥ 2 * sTicks)
      | none => true
    if s.cplRole = .undecided ∧ s.released ∧ s.domOn 5 ∧ bandFree s.cpl.ownBand ∧ s.clk.real - s.cpl.ownSince ≥ 2 * sTicks ∧ noActive then
      s.becomeActive
    else s)

/-- TRIP_PULLED: the last four samples of the loop in uA; at 15 mA or more in all of them a module that is not pulling opens both group
switches, has its drive removed and enters Safe Halt 15 (R392). -/
def execTripPulled (samples : List Nat) (s : State) : Host.Outcome State Fault Refusal :=
  .next (
    if s.domOn 5 ∧ s.cpl.trip = 0 ∧ samples.length = 4 ∧ samples.all (fun ua => decide (ua ≥ 15000)) then
      let s1 : State := { s with cpl := { s.cpl with trip := 2, tripOpen := false, tripLow := none }, sup := { s.sup with driveRemoved := true } }
      ((s1.mlog 0x2700 0x13 2 0 2).holdOpen).enterHalt 15
    else s)

/-- TRIP_OPEN_WIRE: a sample of the loop in uA; below 0.5 mA for 1 s is an open wire, which ends with a sample of 0.5 mA (R392). -/
def execTripOpenWire (ua : Nat) (s : State) : Host.Outcome State Fault Refusal :=
  .next (
    if ! s.domOn 5 then s
    else if ua ≥ 500 then { s with cpl := { s.cpl with tripLow := none, tripOpen := false } }
    else
      let since := s.cpl.tripLow.getD s.clk.real
      let s1 : State := { s with cpl := { s.cpl with tripLow := some since } }
      if s.clk.real - since ≥ sTicks ∧ ! s.cpl.tripOpen then
        ({ s1 with cpl := { s1.cpl with tripOpen := true } } : State).mlog 0x2700 0x13 2 1 0
      else s1)

/-- TRIP_PULL_END: this module's pull has lasted 100 ms, or the partner's has ended (R392). -/
def execTripPullEnd (s : State) : Host.Outcome State Fault Refusal :=
  .next (
    if (s.cpl.trip = 1 ∧ s.clk.real - s.cpl.tripAt ≥ 100 * msTicks) ∨ s.cpl.trip = 2 then { s with cpl := { s.cpl with trip := 0 } } else s)

/-! ### Time discipline (R156, R258, R259, R261) -/

/-- The link is the one that this module's reference sends on: the master for a member, the Active for the other pair module; before a
lot is active the ROLE strap and the bound cross-link tell (R24, R258). -/
def State.isReference (s : State) (link : SyncLink) : Bool :=
  match link with
  | .cascade _ =>
    if s.lot.active.isSome then s.caOn && decide (s.lotD.member ≠ 0) else s.domOn 5 && decide (s.sup.straps.role = some 1)
  | .crossLink =>
    s.xlUp && (if s.lot.active.isSome then s.lotD.pair && decide (s.lotD.member = 0) && decide (s.cplRole ≠ .active)
      else decide (s.sup.straps.role ≠ some 1))

/-- The rate correction that brings an offset of `o` ns towards zero: against its sign, within 200 ppm in 0.001 ppm (R258). -/
def rateFor (o : Int) (free : Int) : Int :=
  let m := min 200000 free.natAbs
  if o > 0 then -(m : Int) else if o < 0 then (m : Int) else 0

/-- One sync symbol in a module that holds the offset `o` in ns. -/
def Clk.symbol (c : Clk) (o : Int) (epoch : Bool) (rate : Int) : Clk :=
  let good := decide (-50 ≤ o ∧ o ≤ 50)
  let bad := decide (o > 1000 ∨ o < -1000)
  let g := if good then c.goodRun + 1 else 0
  let b := if bad then c.badRun + 1 else 0
  let d : Disc := match c.disc with
    | .free => if epoch then .holdover else .acquiring
    | .acquiring => if g ≥ 64 then .locked else if b ≥ 2 ∧ epoch then .holdover else .acquiring
    | .locked => if b ≥ 2 then .holdover else .locked
    | .holdover => if g ≥ 64 then .locked else .holdover
  { c with
    offsetNs := o, goodRun := g, badRun := b, disc := d,
    rateCorr := if d = .holdover then c.rateCorr else rateFor o rate }

/-- The epoch of the reference arrives with the discipline: a module that follows it takes it, in force or ahead of its exit, and its
release grid starts again from it (R156, R381, log entry 69). -/
def State.takeEpoch (s : State) (epoch : Option Nat) : State :=
  match epoch with
  | none => s
  | some e =>
    let s1 : State := { s with clk := { s.clk with refEpoch := some e } }
    if s.released ∧ s.sup.mode ≠ .replay ∧ s.sle.epoch.isSome ∧ s.sle.epoch ≠ some e then
      s1.newEpoch false e
    else s1

/-- A woken module that receives fixes its new epoch once it is locked to its reference (R261). -/
def State.epochAfterWake (s : State) : State :=
  if s.released ∧ s.sle.epoch.isNone then s.freshEpoch false else s

/-- A member sends the symbol on, its own residence time added (R258). -/
def State.forwardSymbol (s : State) (link : SyncLink) (carried ns : Nat) : State :=
  match link with
  | .cascade _ => { s with clk := { s.clk with forwarded := some (carried, ns) } }
  | .crossLink => s

/-- SYNC_SYMBOL: carried value in ticks, the residence times gathered and this module's own in ns, the reference's epoch where it has
one; the allowance goes by the link (R258, R259). -/
def execSyncSymbol (link : SyncLink) (carried residenceNs ownNs : Nat) (epoch : Option Nat) (s : State) : Host.Outcome State Fault Refusal :=
  .next (
    if s.clk.running ∧ s.isReference link then
      let allowance := match link with
        | .cascade hops => 8 * hops
        | .crossLink => s.clk.linkAllowanceNs
      let ref : Int := 20 * carried + residenceNs + allowance
      let step := decide (s.clk.disc = .free) && s.sle.epoch.isNone
      let now := if step then (ref / 20).toNat else s.clk.now
      let c := { s.clk with now := now, lastSymbol := some s.clk.real }
      let s1 := s.tick
      let s2 : State := { s1 with clk := c.symbol (20 * now - ref) s.sle.epoch.isSome (Config.rateCorrection s.fresh) }
      let s3 := (s2.takeEpoch epoch).forwardSymbol link carried (residenceNs + ownNs)
      if s3.clk.disc = .locked then s3.epochAfterWake else s3
    else s)

/-- DISCIPLINE_HOLDOVER: no symbol for 1 ms (R259). A woken module whose reference is silent fixes its epoch on its own (R372, log
entry 69). -/
def execDisciplineHoldover (s : State) : Host.Outcome State Fault Refusal :=
  .next (
    let due := decide (s.clk.real - s.clk.lastSymbol.getD s.sup.modeSince ≥ msTicks)
    if due ∧ (s.clk.disc = .acquiring ∨ s.clk.disc = .locked) then
      (State.mlog { s with clk := { s.clk with disc := .holdover, goodRun := 0, badRun := 0 } } 0x2500 0x02 1 0 3).epochAfterWake
    else if due then s.epochAfterWake
    else s)

/-- SYNC_SYMBOL_SEND: a reference sends its time every 125 us on CO and on the cross-link (R258). -/
def execSyncSymbolSend (s : State) : Host.Outcome State Fault Refusal :=
  .next (
    if s.clk.running ∧ ((s.caOn ∧ s.lotD.member = 0) ∨ (s.xlUp ∧ s.cplRole = .active)) ∧ s.clk.now ≥ s.clk.lastSync + 125 * usTicks then
      { s with clk := { s.clk with lastSync := s.clk.now } }
    else s)

end Sys2Proof.Machine
end

