-- ==== Sys2Proof/Machine/Debug.lean ====
section
/-! DEFINITION. The JTAG session and its debug commands (R62, R148 to R151, R422, R423). -/

namespace Sys2Proof.Machine

/-- The pair modules evaluate in step (R151). -/
def State.pairInStep (s : State) : Bool :=
  s.xlUp && (decide (s.cplRole = .standby) || (decide (s.cplRole = .active) && decide (s.cpl.peer.role = 2)))

/-- A halt goes to the partner with partition and WOP index; index 0xFFFF names the commit gate of the partition, partition 0xFF no pass.
Modules out of step: TRIP (R151, log entry 55). -/
def State.haltPartner (s : State) : State :=
  if ! s.lotD.pair then s
  else if ! s.pairInStep then s.pullTrip
  else
    let d := s.sle.dbg
    s.xlControl 1 (match d.part, d.stopAt, d.atGate with
      | some p, some _, _ => p + 256 * d.idx
      | _, _, some p => p + 256 * 0xFFFF
      | _, _, _ => 0xFF + 256 * 0xFFFF)

/-- HALT_REQUEST: a JTAG session in Commissioning asks for a halt (R148). -/
def execHaltRequest (s : State) : Host.Outcome State Fault Refusal :=
  .next (if s.jtagOn ∧ s.sup.mode = .commissioning ∧ s.sle.dbg.state = 0 then s.haltRequest.haltPartner else s)

/-- STEP: one WOP in both passes, at the partner too (R149, R151). -/
def execStep (fg fo : Fetch) (s : State) : Host.Outcome State Fault Refusal :=
  .next (
    if s.jtagOn ∧ s.sle.dbg.state = 2 then
      (if s.lotD.pair then (s.singleStep fg fo).xlControl 2 0 else s.singleStep fg fo)
    else s)

/-- RESUME: the halted attempt goes on to its gate (R150, R151). -/
def execResume (s : State) : Host.Outcome State Fault Refusal :=
  .next (
    if s.jtagOn ∧ s.sup.mode = .commissioning ∧ s.sle.dbg.state = 2 then
      (if s.lotD.pair then s.resumeHalt.kick.xlControl 2 1 else s.resumeHalt.kick)
    else s)

/-- JTAG_SESSION: a session begins in Commissioning, where the OTP does not lock JTAG, or ends (R62, R423). -/
def execJtagSession (active : Bool) (s : State) : Host.Outcome State Fault Refusal :=
  .next (
    if active then
      (if s.sup.mode = .commissioning ∧ s.jtagAllowed then { s with sup := { s.sup with jtag := true } } else s)
    else { s with sup := { s.sup with jtag := false } })

/-- WATCHDOG_EXPIRY: the window of SUP's watchdog has run out (R145, R147). -/
def execWatchdogExpiry (s : State) : Host.Outcome State Fault Refusal :=
  .next (
    if s.sup.wdRunning ∧ s.sle.dbg.state < 2 ∧ (s.clk.real - s.sup.wdFedAt) * 100 ≥ s.lotD.wdWindow * usTicks * 90 then s.watchdogExpire
    else s)

end Sys2Proof.Machine
end

