-- ==== Sys2Proof/Machine/OdRead.lean ====
section
/-! DEFINITION. What the entries of the object dictionary read (the object tables of R58, R65, R68, R100, R152, R169, R195 to R197,
R229, R230, R251, R288 to R290, R305, R306, R331, R334 to R344). Every value is a number; a signed one in two's complement. -/

namespace Sys2Proof.Machine

/-- A truth value as an entry shows it. -/
def bit (b : Bool) : Nat := if b then 1 else 0

/-- A signed number in two's complement of `n` bytes, clipped to them. -/
def signed (n : Nat) (v : Int) : Nat :=
  let top : Int := 256 ^ n / 2
  let w := if v ≥ top then top - 1 else if v < -top then -top else v
  (w % (256 ^ n : Nat)).toNat

/-- A number clipped to `n` bytes; a counter is not clipped but counts modulo its width (log entry 7). -/
def clip (n v : Nat) : Nat := min v (256 ^ n - 1)

/-- An optional number, and what stands for none. -/
def orNone (none_ : Nat) (o : Option Nat) : Nat := o.getD none_

/-! ### Entries that show the lot (R333) -/

/-- The subindices that show lot values: they read their Default while no lot is active. -/
def lotEntry (index sub : Nat) : Bool :=
  let within (a b : Nat) : Bool := decide (a ≤ sub ∧ sub ≤ b)
  if index = 0x2000 then decide (sub = 0x0A ∨ sub = 0x0B ∨ sub = 0x18 ∨ sub = 0x1C ∨ sub = 0x1D)
  else if index = 0x1E00 then decide (sub = 0x1D ∨ sub = 0x1E)
  else if 0x2020 ≤ index ∧ index < 0x2030 then within 1 5 || decide (sub = 0x0B)
  else if 0x2100 ≤ index ∧ index < 0x2130 then within 1 9
  else if 0x2140 ≤ index ∧ index < 0x2158 then within 1 3
  else if 0x2160 ≤ index ∧ index < 0x2168 then within 1 6
  else if 0x2200 ≤ index ∧ index < 0x2210 then within 1 0x0B
  else if 0x2220 ≤ index ∧ index < 0x2222 then within 1 5
  else if 0x2300 ≤ index ∧ index < 0x2308 then within 1 5 || within 0x20 0x25
  else if 0x2310 ≤ index ∧ index < 0x2314 then within 1 0x10
  else if 0x2340 ≤ index ∧ index < 0x2348 then within 1 6 || within 0x20 0x23
  else if 0x2400 ≤ index ∧ index < 0x2500 then decide (sub = 9) || (decide (sub = 1) && decide (index < 0x24F8))
  else if index = 0x2700 then decide (sub = 0x16 ∨ sub = 0x20)
  else if 0x3000 ≤ index ∧ index < 0x3800 then within 3 5
  else if 0x5000 ≤ index ∧ index < 0x6000 then within 1 8
  else false

/-! ### Host port, identity, lot objects, keys -/

/-- The highest slot that the lot binds with a binding type, plus 1 (0x1E00:1D, :1E). -/
def Lot.slots (l : Lot) (type : Nat) : Nat :=
  (List.range 2048).foldl (fun a w => if w ≥ 16 ∧ l.bType w = type then max a (l.bParam w + 1) else a) 0

def State.rdIdentity (s : State) (index sub : Nat) : Nat :=
  match index with
  | 0x1001 => s.errorRegister
  | 0x1009 => s.silicon
  | 0x100A => s.otp.firmware
  | 0x1018 => (match sub with
    | 1 => s.vendor
    | 2 => 0x2144
    | 3 => s.silicon * 65536 + s.otp.firmware
    | _ => s.serial)
  | _ => 0x21440000

def State.rdHost (s : State) (sub : Nat) : Nat :=
  let h := s.hpo
  match sub with
  | 1 => h.etherType
  | 2 => h.portEnable
  | 3 => leNat s.macBytes
  | 0x10 => h.active
  | 0x11 => bit h.linkA + 2 * bit h.linkB
  | 0x12 => orNone 0 h.partner
  | 0x13 => h.period
  | 0x14 => h.quality
  | 0x15 => h.seq
  | 0x16 => h.tLast
  | 0x17 => h.accepted
  | 0x18 => h.discarded
  | 0x19 => h.linkFails
  | 0x1A => h.gaps
  | 0x1B => h.busy
  | 0x1C => (h.out.filter (fun o => ! o.echo)).length
  | 0x1D => s.lotD.slots 5
  | 0x1E => s.lotD.slots 6
  | 0x1F => h.respStart
  | 0x20 => h.respMax
  | _ => h.releases

def State.rdLot (s : State) (index sub : Nat) : Nat :=
  let l : Lot := s.lot.loaded.getD {}
  match index with
  | 0x1F51 => s.lotD.id
  | 0x1F52 => l.id
  | 0x1F53 => l.tool
  | 0x1F54 => l.created
  | 0x1F55 => (match sub with
    | 1 => s.lot.step
    | 2 => s.lot.refusal
    | _ => s.lot.item)
  | 0x1F60 => if s.lot.loaded.isSome then l.fingerprint else 0
  | 0x1F61 => if s.lot.active.isSome then s.lotD.fingerprint else 0
  | 0x1F63 => if s.sup.resume = 5 then 1 else if s.sup.resume = 6 then 2 else 0
  | 0x1F90 => 1
  | 0x1F93 => s.slotState
  | 0x1F94 => s.pairBinding
  | _ => s.otp.exportsSigned

/-! ### 0x2000, 0x2020 -/

/-- The partition whose running signatures 0x2000:13 and :14 show (R152). -/
def State.sigPart (s : State) : Option Nat := s.sle.cur <|> s.sle.dbg.part

/-- 0x2000:1E (R337). -/
def State.jams (s : State) : Nat :=
  (List.range 48).foldl (fun a n => a + (if (s.chan n).jam then 2 ^ n else 0)) 0 + (if s.sin.trunk.jam then 2 ^ 63 else 0)

def State.rd2000 (s : State) (sub : Nat) : Nat :=
  match sub with
  | 0x01 => s.sup.mode.code
  | 0x03 => orNone 255 s.sup.firstCause
  | 0x04 => s.sup.causes.toNat
  | 0x05 => (match s.sup.pend with
    | .none => 0
    | .parked _ => 1
    | .armed _ => 2
    | .replay => 3)
  | 0x06 => s.sup.wakeDelay
  | 0x07 => s.cpl.role.code
  | 0x08 => s.sup.bootCount
  | 0x09 => (s.clk.real - s.sup.modeSince) / msTicks
  | 0x0A => if s.sup.wdRunning then s.lotD.wdWindow else 0
  | 0x0B => orNone 255 s.lotD.feeding
  | 0x0C => s.sup.wdCount
  | 0x10 => s.sle.dbg.state
  | 0x11 => orNone 255 s.sle.dbg.part
  | 0x12 => s.sle.dbg.idx
  | 0x13 => (match s.sigPart with
    | some p => (s.part p).sigG
    | none => 0)
  | 0x14 => (match s.sigPart with
    | some p => (s.part p).sigO
    | none => 0)
  | 0x18 => s.lotD.load
  | 0x19 => 193800
  | 0x1A => orNone 0 s.sle.epoch
  | 0x1B => s.creditNow / 1000
  | 0x1C => s.lotD.hrType * 2 ^ 24 + s.lotD.hrChan * 2 ^ 16 + s.lotD.hrWord
  | 0x1D => (List.range 48).foldl (fun a n => a + (if s.lotD.chWake n then 2 ^ n else 0)) 0
  | _ => s.jams

def State.rdPart (s : State) (p sub : Nat) : Nat :=
  let l := s.lotD
  let q := s.part p
  let used := l.pInUse p
  match sub with
  | 1 => if used then l.pClass p else 255
  | 2 => l.pPeriod p / usTicks
  | 3 => l.pOffset p / usTicks
  | 4 => l.pFirst p
  | 5 => l.pCount p
  | 6 => q.seq
  | 7 => q.lastResp
  | 8 => q.maxResp
  | 9 => q.lastSlack
  | 0x0A => q.minSlack
  | 0x0B => if used then l.respEstimateNs p else 0
  | 0x0C => q.retries
  | 0x0D => q.alarms
  | _ => q.suspensions

/-! ### Inputs and sources -/

def State.rdChan (s : State) (n sub : Nat) : Nat :=
  let l := s.lotD
  let c := s.chan n
  match sub with
  | 0x01 => l.chMode n
  | 0x02 => l.chCurrent n
  | 0x03 => 100 * l.chFilter n
  | 0x04 => orNone 255 (l.chSource n)
  | 0x05 => 10 * l.chRet n
  | 0x06 => l.chChatter n
  | 0x07 => l.chProof n
  | 0x08 => l.chReset n
  | 0x09 => l.chFlags n
  | 0x10 => bit c.raw
  | 0x11 => bit c.f
  | 0x12 => bit (s.delivered n)
  | 0x13 => c.code
  | 0x14 => bit c.chatter
  | 0x15 => c.missed
  | 0x16 => c.stamp
  | 0x17 => c.transitions
  | 0x18 => c.faults
  | _ => c.loop

def PairState.code : PairState → Nat
  | .idle => 0
  | .closing => 1
  | .active => 2
  | .opening => 3
  | .fault => 4

/-- 0x2140+p: the pair evaluators (R196). Bit 2 of :14 reads 0 outside FAULT, where the table does not say (log entry 72). -/
def State.rdInPair (s : State) (p sub : Nat) : Nat :=
  let l := s.lotD
  let q := s.inPair p
  match sub with
  | 0x01 => bit (l.prUsed p)
  | 0x02 => l.prDisc p
  | 0x03 => l.prReset p
  | 0x10 => q.state.code
  | 0x11 => q.code
  | 0x12 => clip 4 q.elapsed
  | 0x13 => clip 4 q.largest
  | 0x14 => if q.state = .fault then bit q.both0 + 2 * bit q.both1 + 4 * bit (s.chanCleared p && s.chanCleared (p + 24)) else 0
  | 0x15 => q.demands
  | _ => q.faults

def SrcState.code : SrcState → Nat
  | .off => 0
  | .on => 1
  | .limit => 2
  | .fault => 3
  | .retryWait => 4

def State.rdSrc (s : State) (k sub : Nat) : Nat :=
  let l := s.lotD
  let q := s.src k
  let pulsed := decide (l.srMode k = 2)
  match sub with
  | 0x01 => l.srMode k
  | 0x02 => 10 * l.srWidth k
  | 0x03 => 10 * l.srPeriod k
  | 0x04 => if pulsed then l.slotOff k else 0
  | 0x05 => if pulsed then l.slotLen k else 0
  | 0x06 => (l.fed k).foldl (fun a n => a + 2 ^ n) 0
  | 0x10 => (s.srcState k).code
  | 0x11 => q.code
  | 0x12 => (Config.sourceCurrent k s.fresh).toNat
  | 0x13 => q.mv
  | _ => q.faults

/-! ### Outputs and groups -/

/-- The current of an output in mA, with bit 15 while the output is on and its current lies below the open-load threshold (R201, R219). -/
def State.outCurrent (s : State) (n : Nat) : Nat :=
  let ma := (Config.outputCurrent n s.fresh).toNat % 32768
  ma + (if s.switchOn s.cplRole n ∧ (ma < 3 ∨ (ma < 8 ∧ Config.openLoadComparator n s.fresh)) then 32768 else 0)

def State.rdOut (s : State) (n sub : Nat) : Nat :=
  let l := s.lotD
  let o := s.out n
  let slot : Nat × Nat := match l.outSource n with
    | some t => (l.testSlot t).getD (0, 0)
    | none => (0, 0)
  match sub with
  | 0x01 => l.oMode n
  | 0x02 => l.oClass n
  | 0x03 => 10 * l.oWidth n
  | 0x04 => 100 * l.oPeriod n
  | 0x05 => 10 * l.oRec n
  | 0x06 => 10 * l.oSettle n
  | 0x07 => l.oPar n
  | 0x08 => l.oFlags n
  | 0x09 => 100 * l.oFilter n
  | 0x0A => slot.1
  | 0x0B => slot.2
  | 0x10 => bit (s.commanded n)
  | 0x11 => bit (s.switchOn s.cplRole n)
  | 0x12 => if s.w4.val.getLsbD n then 1 else 0
  | 0x13 => bit o.pinLow
  | 0x14 => o.code
  | 0x15 => o.mv
  | 0x16 => s.outCurrent n
  | 0x17 => o.lastTest
  | 0x18 => o.lastTestAt
  | 0x19 => o.seen
  | 0x1A => o.faults
  | 0x1B => (Config.driverTemperature n s.clk.real).toNat
  | _ => bit o.pairDis

def GrpState.code : GrpState → Nat
  | .unused => 0
  | .cutOff => 1
  | .fault => 2
  | .closing => 3
  | .closed => 4

/-- A group's record (R230). The reset source of an UNUSED group reads 0xFF, also under a lot, whose entry for it is all 0 (DESIGN CHOICE, log
entry 74: 0 would name X00). -/
def State.rdGrp (s : State) (g sub : Nat) : Nat :=
  let l := s.lotD
  let v := s.grp g
  let slot := (l.testSlot (.group g)).getD (0, 0)
  match sub with
  | 0x01 => if l.gUnused g then 255 else l.gReset g
  | 0x02 => 10 * l.gWidth g
  | 0x03 => 100 * l.gPeriod g
  | 0x04 => slot.1
  | 0x05 => slot.2
  | 0x10 => v.state.code + 128 * bit v.railOpen
  | 0x11 => v.cause
  | 0x12 => v.code
  | 0x13 => v.mv
  | 0x14 => (Config.groupCurrent g s.fresh).toNat
  | 0x15 => bit v.good + 2 * bit (s.allCleared g) + 4 * bit (decide (v.state = .closing))
  | 0x16 => v.lastTest
  | 0x17 => bit v.warn
  | 0x18 => v.cutOffs
  | _ => v.faults

/-! ### Speed, motion, analog -/

def State.rdSpeed (s : State) (n sub : Nat) : Nat :=
  let l := s.lotD
  let c := s.speed n
  match sub with
  | 0x01 => bit (l.spUsed n)
  | 0x02 => l.spEdge n
  | 0x03 => 500 * l.spWidth n
  | 0x04 => 100 * l.spAvg n
  | 0x05 => l.spReset n
  | 0x10 => clip 4 c.est
  | 0x11 => if c.m = 0 then 0 else 20 * c.span / c.m
  | 0x12 => c.stamps.headD 0
  | 0x13 => c.edges
  | 0x14 => bit (s.speedValid n)
  | 0x15 => ((List.range 4).find? (fun i => c.fault.getLsbD i)).getD 0
  | 0x16 => c.rejected
  | 0x17 => c.faults
  | 0x18 => c.loop
  | 0x20 => bit (l.spPair n)
  | 0x21 => l.spRatio n
  | 0x22 => l.spTolRel n
  | 0x23 => l.spTolAbs n
  | 0x24 => l.spPlaus n
  | 0x25 => l.spPairReset n
  | 0x26 => bit (s.spair n).fault
  | _ => clip 4 ((s.spair n).largest)

/-- 0x2310+m:18. -/
def State.motionState (s : State) (m : Nat) : Nat :=
  let q := s.motion m
  if s.lotD.moType m = 0 then 0 else if q.violated then 4 else if q.stopped then 3 else if q.ramp then 2 else 1

def State.rdMotion (s : State) (m sub : Nat) : Nat :=
  let l := s.lotD
  let q := s.motion m
  match sub with
  | 0x01 => l.moType m
  | 0x02 => l.moPair m
  | 0x03 => l.moRef m
  | 0x04 => l.moEnable m
  | 0x05 => l.moReset m
  | 0x06 => l.moVmax m
  | 0x07 => l.moVlow m
  | 0x08 => l.moK m
  | 0x09 => 10 * l.moStart m
  | 0x0A => l.moVss m
  | 0x0B => l.moVtol m
  | 0x0C => l.moA m
  | 0x0D => l.moTd m
  | 0x0E => 10 * l.moTmax m
  | 0x0F => l.moTss m
  | 0x10 => l.moTlim m
  | 0x18 => s.motionState m
  | 0x19 => clip 4 ((if l.moType m = 3 then s.moLow m else s.moHigh m) / 1000)
  | 0x1A => if q.ramp ∧ l.moType m = 1 then clip 4 (l.envelope50k m q.tr q.vr s.clk.now / 50000000) else 0
  | 0x1B => q.tr
  | 0x1C => clip 4 (q.vr / 1000)
  | 0x1D => q.cause
  | _ => q.violations

def State.rdAnalog (s : State) (n sub : Nat) : Nat :=
  let l := s.lotD
  let c := s.ach n
  match sub with
  | 0x01 => l.aiMode n
  | 0x02 => 100 * l.aiTa n
  | 0x03 => signed 4 (l.aiHigh n)
  | 0x04 => signed 4 (l.aiLow n)
  | 0x05 => l.aiHyst n
  | 0x06 => l.aiLead n
  | 0x10 => signed 4 c.value
  | 0x11 => c.raw
  | 0x12 => bit c.below + 2 * bit c.above + 4 * bit c.valid
  | 0x13 => c.cause
  | 0x14 => c.at_
  | 0x15 => c.invalids
  | 0x20 => bit (l.apUsed n)
  | 0x21 => l.apReset n
  | 0x22 => l.apTol n
  | 0x23 => 10 * l.apTime n
  | 0x24 => clip 4 (s.apair n).diff
  | 0x25 => bit (s.apair n).fault
  | _ => clip 4 (s.apair n).largest

def State.rd2348 (s : State) (sub : Nat) : Nat :=
  let q := s.aaq
  match sub with
  | 1 => clip 2 q.vrefA
  | 2 => clip 2 q.vrefB
  | 3 => signed 2 s.pwr.t1
  | 4 => signed 2 s.pwr.t2
  | 5 => signed 2 q.offset
  | 6 => bit q.refA + 2 * bit q.refB
  | 7 => bit q.gnd
  | 8 => q.urgent
  | _ => q.aborted

/-! ### Compare channels, time base, supply -/

def State.rdCompare (s : State) (c sub : Nat) : Nat :=
  let t := s.tc c
  match sub with
  | 0x01 => s.lotD.chOwner c
  | 0x02 => t.mode
  | 0x03 => t.link
  | 0x04 => t.master
  | 0x05 => t.target
  | 0x06 => t.period
  | 0x07 => t.source
  | 0x08 => t.edge
  | 0x09 => (match s.lotD.chEntry c with
    | some e => if e.owner = 1 then e.armWord * 65536 + e.armLane else 0xFFFFFFFF
    | none => 0xFFFFFFFF)
  | 0x0B => t.status
  | 0x0C => t.readValue
  | 0x0D => t.events
  | _ => t.clocks

def Disc.code : Disc → Nat
  | .free => 0
  | .acquiring => 1
  | .locked => 2
  | .holdover => 3

def State.rd2500 (s : State) (sub : Nat) : Nat :=
  match sub with
  | 0x01 => s.clk.now
  | 0x02 => s.clk.disc.code
  | 0x03 => signed 4 s.clk.offsetNs
  | 0x04 => signed 4 s.clk.rateCorr
  | 0x05 => s.clk.rho
  | 0x06 => s.clk.parkStop
  | 0x07 => s.clk.madeUp
  | 0x11 => s.tmu.swatch.state
  | 0x12 => s.tmu.swatch.id
  | 0x13 => s.tmu.swatch.tsw
  | 0x14 => s.tmu.swatch.select
  | _ => s.tmu.swatch.held.toNat

def DomState.code : DomState → Nat
  | .off => 0
  | .on => 1
  | .retain => 2
  | .fault => 3
  | .locked => 4

def State.rdDom (s : State) (d sub : Nat) : Nat :=
  let v := s.dom d
  match sub with
  | 0x01 => v.state.code
  | 0x02 => v.mv
  | 0x03 => (Config.railCurrent d s.fresh).toNat
  | 0x04 => s.energyAt d
  | 0x05 => v.faults
  | 0x06 => v.lastFault
  | 0x10 => bit s.pwr.trimFixed
  | 0x11 => s.pwr.setpoint
  | _ => s.pwr.minSlack

def UsState.code : UsState → Nat
  | .off => 0
  | .on => 1
  | .limit => 2
  | .retryWait => 3

/-- The derated rating of US in mA at an ambient temperature in 0.1 degC (R44): 2.5 A up to 55 degC, then 1/15 A per K
(the fall in whole mA, and the floor of 1.5 A above 70 degC, are the model's: log entry 62). -/
def usRating (ambient : Int) : Nat :=
  if ambient ≤ 550 then 2500 else max 1500 (2500 - (((ambient - 550).toNat * 20) / 3))

def State.rdUs (s : State) (sub : Nat) : Nat :=
  match sub with
  | 0x01 => s.usShown.code
  | 0x02 => s.pwr.usMv
  | 0x03 => (Config.usCurrent s.fresh).toNat
  | 0x04 => s.usEnergyAt
  | 0x05 => usRating (Config.ambient s.fresh).toInt
  | _ => bit s.pwr.usKeep

def Mains.code : Mains → Nat
  | .normal => 0
  | .interrupted => 1
  | .pfw => 2
  | .pfs => 3

def State.rdMains (s : State) (sub : Nat) : Nat :=
  match sub with
  | 0x01 => s.pwr.mains.code
  | 0x02 => (Config.inputVoltage s.clk.real).toNat
  | 0x03 => (Config.inputPower s.clk.real).toNat
  | 0x04 => s.pwr.bulkV
  | 0x05 => s.bulkReserve
  | 0x06 => s.pwr.interruptions
  | 0x07 => signed 2 (max s.pwr.t1 s.pwr.t2)
  | _ => s.pwrWarnings

/-! ### Pair and cascade, BIST, OTP, recorder -/

def OwnBand.code : OwnBand → Nat
  | .openWire => 0
  | .released => 1
  | .holding => 2
  | .unpowered => 3
  | .outside => 255

/-- 0x2700:10: up, training from power-up or a loss on where a secret is bound, else down (R378). -/
def State.linkState (s : State) : Nat := if s.cpl.link = 2 then 2 else if s.pairPort then 1 else 0

def State.rd2700 (s : State) (sub : Nat) : Nat :=
  let c := s.cpl
  match sub with
  | 0x01 => orNone 255 s.sup.straps.addr
  | 0x02 => (match s.sup.straps.addr with
    | some a => if a < 8 then 0 else 1
    | none => 255)
  | 0x03 => (match s.sup.straps.addr with
    | some a => a % 8
    | none => 255)
  | 0x04 => orNone 255 s.sup.straps.role
  | 0x10 => s.linkState
  | 0x11 => c.ownCurrent
  | 0x12 => OwnBand.code c.ownBand
  | 0x13 => c.trip
  | 0x14 => c.inStep
  | 0x15 => c.disagreements
  | 0x16 => c.load
  | 0x17 => c.peer.lotId
  | 0x18 => c.takeOvers
  | 0x20 => if s.lotD.cascade then 2 ^ (s.lotD.members + 1) - 2 else 0
  | 0x21 => (List.range 7).foldl (fun a m => a + (if (s.csrc (m + 1)).present then 2 ^ (m + 1) else 0)) 0
  | 0x22 => c.breaks
  | _ => c.ringNs

/-- 0x2800:01: start-up, localising, background in the states that run slices, else idle. -/
def State.bistState (s : State) : Nat :=
  if s.sup.bistRunning then 1 else if s.sle.locOpen then 3 else if s.sliceState then 2 else 0

def State.rd2800 (s : State) (sub : Nat) : Nat :=
  let b := s.bist
  match sub with
  | 0x01 => s.bistState
  | 0x02 => b.failed.toNat
  | 0x03 => b.inUse 1
  | 0x04 => b.inUse 2
  | 0x05 => b.inUse 3
  | 0x06 => b.inUse 4
  | 0x07 => b.unfused.length
  | 0x08 => b.fuseVal
  | 0x09 => b.fuseState
  | 0x20 => s.sle.mismatches
  | 0x21 => s.sle.retriesCommitted
  | 0x22 => orNone 255 s.sle.lastMisPart
  | 0x23 => s.sle.lastMisAt
  | 0x24 => s.sle.misKey1 + 256 * s.sle.misKey2
  | 0x25 => s.sle.locState
  | 0x26 => s.sle.locLane
  | 0x27 => s.unloc24
  | _ => b.lastSweep.get 0 (sub - 0x10)

def WordState.code : WordState → Nat
  | .unwritten => 0
  | .good => 1
  | .marginal => 2
  | .unreliable => 3

def State.rd2900 (s : State) (sub : Nat) : Nat :=
  let w := s.otpWord s.otp.sel
  match sub with
  | 0x01 => if s.otp.job.isSome ∨ s.fusing then 1 else if s.otpConds ≠ 7 then 2 else 0
  | 0x02 => s.otp.sel
  | 0x03 => if w.state = .unreliable then (Config.otpUnreliable s.otp.sel s.fresh).toNat else w.data
  | 0x04 => WordState.code w.state
  | 0x05 => s.otp.progData
  | 0x06 => s.otpConds
  | _ => s.otp.reread

def State.rdRegion (s : State) (r sub : Nat) : Nat :=
  match sub with
  | 1 => s.regionState r
  | 2 => s.otp.wlock.get 0 r
  | 3 => s.otp.rlock.get 0 r
  | 4 => s.regionWritten r
  | 5 => s.regionMarginal r
  | _ => (s.otpWord (32 * r + 31)).data / 2 ^ 32

/-- Bytes of the pages written in the last 24 h, those that the ring has reused since among them (0x2A00:03). -/
def State.nandDay (s : State) : Nat :=
  4096 * ((s.rcr.pages.map (·.at_) ++ s.rcr.reused).filter (fun t => decide (s.clk.real - t ≤ 24 * 3600 * sTicks))).length

def State.rd2A00 (s : State) (sub : Nat) : Nat :=
  let r := s.rcr
  match sub with
  | 0x01 => if ! s.frcOn then 0 else if s.sup.mode = .replay then 3 else if r.gap.isSome then 2 else 1
  | 0x02 => r.pages.length / 256
  | 0x03 => s.nandDay / 86400
  | 0x04 => r.budget
  | 0x05 => r.gaps
  | 0x06 => (r.episodes.cells.filter (fun e => decide (e.2.state ≠ 0))).length
  | 0x08 => r.sel
  | 0x0A => clip 2 ((Config.nandWrittenBefore + r.nand) * 1000 / 78890000000000)
  | 0x10 => r.replay.released
  | 0x11 => r.replay.progress
  | 0x12 => r.replay.divPart
  | 0x13 => r.replay.divSeq
  | 0x14 => r.replay.divKind
  | 0x15 => r.replay.divCheck
  | _ => r.replay.divergences

def State.rdEpisode (s : State) (e sub : Nat) : Nat :=
  let v := s.episode e
  match sub with
  | 1 => v.state
  | 2 => v.trigger
  | 3 => v.first
  | 4 => v.last
  | 5 => (v.toPage - v.fromPage) * 4096
  | 6 => v.lotId
  | 7 => v.cause
  | _ => bit v.truncated

def State.rdCvu (s : State) (n sub : Nat) : Nat :=
  match sub with
  | 1 => if cvuUse n = 0 then (s.cvu n).poly else cvuPoly n
  | 2 => s.cvuFold n
  | 3 => s.cvuValue n
  | _ => cvuUse n

/-! ### Node words, stations, the log -/

def State.rdWord (s : State) (w sub : Nat) : Nat :=
  match sub with
  | 1 => (s.view w).val.toNat
  | 2 => (s.view w).tag.toNat
  | 3 => s.lotD.bType w
  | 4 => orNone 255 (s.lotD.writer w)
  | _ => s.lotD.inUse.foldl (fun a p => a + (if s.lotD.pReads p w then 2 ^ p else 0)) 0

def State.rdStation (s : State) (a sub : Nat) : Nat :=
  let q := s.st a
  let e := s.lotD.station a
  let of (f : StEntry → Nat) : Nat := (e.map f).getD 0
  match sub with
  | 0x01 => bit e.isSome
  | 0x02 => of StEntry.img
  | 0x03 => of StEntry.off
  | 0x04 => of StEntry.width
  | 0x05 => of StEntry.wd
  | 0x06 => of StEntry.cls
  | 0x07 => of StEntry.conn
  | 0x08 => of StEntry.out
  | 0x10 => bit (s.health a)
  | 0x11 => q.quality
  | 0x12 => q.landed
  | 0x13 => q.crc
  | 0x14 => q.expiries
  | 0x15 => q.stamp
  | _ => q.seq

def State.rdLog (s : State) (sub : Nat) : Nat :=
  match sub with
  | 1 => 4096
  | 2 => s.log.seq
  | 3 => (s.log.entries.head?.map (·.seq)).getD 0
  | _ => s.log.select

/-! ### Every entry -/

/-- The value of an entry that is not a DOMAIN. -/
def State.odLive (s : State) (index sub : Nat) : Nat :=
  if index < 0x1E00 then s.rdIdentity index sub
  else if index = 0x1E00 then s.rdHost sub
  else if index < 0x2000 then s.rdLot index sub
  else if index = 0x2000 then s.rd2000 sub
  else if index < 0x2030 then s.rdPart (index - 0x2020) sub
  else if index < 0x2130 then s.rdChan (index - 0x2100) sub
  else if index < 0x2158 then s.rdInPair (index - 0x2140) sub
  else if index < 0x2168 then s.rdSrc (index - 0x2160) sub
  else if index < 0x2210 then s.rdOut (index - 0x2200) sub
  else if index < 0x2222 then s.rdGrp (index - 0x2220) sub
  else if index < 0x2308 then s.rdSpeed (index - 0x2300) sub
  else if index < 0x2314 then s.rdMotion (index - 0x2310) sub
  else if index < 0x2348 then s.rdAnalog (index - 0x2340) sub
  else if index = 0x2348 then s.rd2348 sub
  else if index < 0x2500 then s.rdCompare (index - 0x2400) sub
  else if index = 0x2500 then s.rd2500 sub
  else if index < 0x260A then s.rdDom (index - 0x2600) sub
  else if index = 0x260A then s.rdUs sub
  else if index = 0x260B then s.rdMains sub
  else if index = 0x2700 then s.rd2700 sub
  else if index = 0x2800 then s.rd2800 sub
  else if index = 0x2900 then s.rd2900 sub
  else if index < 0x2920 then s.rdRegion (index - 0x2910) sub
  else if index = 0x2A00 then s.rd2A00 sub
  else if index < 0x2A80 then s.rdEpisode (index - 0x2A40) sub
  else if index < 0x2B10 then s.rdCvu (index - 0x2B00) sub
  else if index < 0x3800 then s.rdWord (index - 0x3000) sub
  else if index < 0x6000 then s.rdStation (index - 0x5000) sub
  else s.rdLog sub

/-- The value of an entry, cut to its type; lot values read the Default while no lot is active (R333). -/
def State.odValue (s : State) (index sub : Nat) (r : OdRow) : Nat :=
  let v := if lotEntry index sub && s.lot.active.isNone then r.dflt else s.odLive index sub
  v % 256 ^ r.ty.size

/-- An entry whose value is a free value: the model's counter moves on when it is read (log entry 3). -/
def odFree (index sub : Nat) : Bool :=
  (decide (0x2160 ≤ index ∧ index < 0x2168) && decide (sub = 0x12))
  || (decide (0x2200 ≤ index ∧ index < 0x2210) && decide (sub = 0x16 ∨ sub = 0x1B))
  || (decide (0x2220 ≤ index ∧ index < 0x2222) && decide (sub = 0x14))
  || (decide (0x2600 ≤ index ∧ index < 0x260A) && decide (sub = 3 ∨ sub = 4))
  || (decide (index = 0x260A) && decide (3 ≤ sub ∧ sub ≤ 5))
  || (decide (index = 0x2900) && decide (sub = 3))

/-- A rule of the entry itself that refuses its read: word data in a read-locked region (R340). -/
def State.odReadRefusal (s : State) (index sub : Nat) : Option Nat :=
  if index = 0x2900 ∧ sub = 3 ∧ s.rlocked (s.otp.sel / 32) then some 0x0F000601 else none

end Sys2Proof.Machine
end

