-- ==== Sys2Proof/Machine/States.lean ====
section
/-! DEFINITION. The state commands of 0x2000:02 and the events of Parked, wake and halt release (R52 to R57, R60 to R65, R79 to R83,
R403, R404, R459). -/

namespace Sys2Proof.Machine

/-! ### Commands (R60, R63) -/

/-- A cycle boundary of the module will come (R157). -/
def State.hasBoundary (s : State) : Bool := s.released && s.lotD.feeding.isSome && s.sle.epoch.isSome

/-- Now is a release instant of the feeding partition, and that release has taken place already: a change that falls due now takes
effect at this boundary (R157). -/
def State.feedInstant (s : State) : Bool := match s.lotD.feeding with
  | some p => s.isInstant p
  | none => false
def State.atBoundary (s : State) : Bool := match s.lotD.feeding with
  | some p => s.isInstant p && decide ((s.part p).relK > s.instantK p)
  | none => false

/-- The code of 0x2000:02 of a command that an Active carries to its partner (R403). -/
def Cmd.carried : Cmd → Option Nat
  | .run => some 3
  | .commission => some 4
  | _ => none

/-- An Active names its next boundary to the standby with an accepted RUN or COMMISSION (R403). -/
def State.carry (s : State) (c : PendCmd) : State × PendCmd :=
  match c.cmd.carried with
  | some code =>
    if s.cplRole = .active ∧ s.xlUp then
      let b := s.boundaryFrom (s.clk.now + 1)
      (s.xlControl 4 (code + 256 * b), { c with at? := some b })
    else (s, c)
  | none => (s, c)

/-- A command that may have to wait for the boundary: judged on arrival; where partitions are released it takes effect, and is
answered, at the next boundary of the module, which may be this very instant, otherwise at once (R63, R157). -/
def State.submit (s : State) (c : PendCmd) : State :=
  match s.cmdRefusal c with
  | some code => s.answerTag c.tag (.abort code)
  | none =>
    if ! s.hasBoundary then (s.answerTag c.tag .done).applyCmd c
    else if s.sup.cmd.isSome then s.answerTag c.tag (.abort 0x0F000201)
    else
      let r := s.carry c
      let s1 := { r.1 with sup := { r.1.sup with cmd := some r.2, pend := if c.cmd = Cmd.replay then .replay else r.1.sup.pend } }
      if s.atBoundary then s1.applyWaiting else s1

/-- VALIDATE: accepted at once, whatever has been transferred (R60, R65). -/
def State.askValidate (s : State) (tag : Option Byte) : State :=
  if s.sup.mode = .configuring then (s.answerTag tag .done).enterValidating false else s.answerTag tag (.abort 0x0F000201)

/-- RESTORE (R60, R62): an image in transfer is discarded. -/
def State.askRestore (s : State) (tag : Option Byte) : State :=
  if s.sup.mode ≠ .unconfigured ∧ s.sup.mode ≠ .configuring then s.answerTag tag (.abort 0x0F000201)
  else if s.lot.stored.isEmpty ∨ s.lot.storedInvalid then s.answerTag tag (.abort 0x0F000208)
  else (s.answerTag tag .done).enterValidating true

/-- DISCARD (R60): the lot that was active before CONFIGURE stays applied until the next exit from Validating (R172). -/
def State.askDiscard (s : State) (tag : Option Byte) : State :=
  if s.sup.mode = .configuring then
    State.setMode { (s.answerTag tag .done) with lot := { s.lot with image := [], loaded := none } } .unconfigured
  else s.answerTag tag (.abort 0x0F000201)

/-- The causes that only a power cycle leaves: 5 to 9, 11 and 12 (Table: Safe Halt causes). -/
def powerCycleCauses : BitVec 32 := 0x1BE0#32

/-- The partner is off: its OWN interface conducts unpowered (R389). -/
def State.partnerOff (s : State) : Bool := decide (s.cpl.ownBand = .unpowered)

/-- The partner is out of Safe Halt, or holds it for causes 14 and 15 alone, as its STATUS tells (R401). -/
def State.partnerOut (s : State) : Bool :=
  s.cpl.peer.live && (decide (s.cpl.peer.state ≠ 7) || decide (s.cpl.peer.cause = 14 ∨ s.cpl.peer.cause = 15))

/-- The condition of Table: Safe Halt causes that must have cleared before LEAVE_HALT. -/
def State.causeCleared (s : State) (c : Nat) : Bool :=
  match c with
  | 1 => ! s.sle.locOpen
  | 10 => decide (s.pwr.t1 < 1050 ∧ s.pwr.t2 < 1050)
  | 14 => s.partnerOut || s.partnerOff
  | 15 => s.xlUp || s.partnerOff
  | _ => true

/-- LEAVE_HALT (R81): arms the release for 30 s, or releases at once where Safe Halt was entered without an active lot. -/
def State.askLeave (s : State) (tag : Option Byte) : State :=
  if s.sup.mode ≠ .safeHalt then s.answerTag tag (.abort 0x0F000201)
  else if s.sup.causes &&& powerCycleCauses ≠ 0 then s.answerTag tag (.abort 0x0F000205)
  else if (List.range 16).any (fun c => s.sup.causes.getLsbD c && ! s.causeCleared c) then s.answerTag tag (.abort 0x0F000206)
  else
    let s1 := s.answerTag tag .done
    if s1.lot.active.isNone then s1.releaseHalt
    else ({ s1 with sup := { s1.sup with pend := .armed (s.clk.real + 30 * sTicks) } } : State).mlog 0x2000 0x05 0 0 2

/-- What a RESET row without a Boot to follow carries. -/
def noBoot : BootRead := ⟨⟨[], []⟩, 3300, ⟨0, 0⟩⟩

/-- A value written to 0x2000:02 (R65), with the measured operands of PARK and RESET; PFS overrides every command (R63). -/
def State.command (s : State) (code : Nat) (tag : Option Byte) (count1 count2 : Nat) (boot : BootRead) : State :=
  if s.sup.pfsOrder ≠ 0 ∧ 1 ≤ code ∧ code ≤ 12 then s.answerTag tag (.abort 0x0F000201)
  else match code with
  | 1 => s.submit { cmd := .configure, tag := tag }
  | 2 => s.askValidate tag
  | 3 => s.submit { cmd := .run, tag := tag }
  | 4 => s.submit { cmd := .commission, tag := tag }
  | 5 => s.submit { cmd := .park, tag := tag, count1 := count1, count2 := count2 }
  | 6 => s.submit { cmd := .replay, tag := tag }
  | 7 => s.submit { cmd := .endReplay, tag := tag }
  | 8 => s.submit { cmd := .halt, tag := tag }
  | 9 => s.askLeave tag
  | 10 => s.askRestore tag
  | 11 => s.askDiscard tag
  | 12 => s.submit { cmd := .reset, tag := tag, boot := boot }
  | _ => s.answerTag tag (.abort 0x06090030)

/-- A command row takes place while the CP runs (R12, R330; log entry 4). -/
def State.commandRow (s : State) (code : Nat) (count1 count2 : Nat) (boot : BootRead) : Host.Outcome State Fault Refusal :=
  .next (if s.domOn 2 then s.command code none count1 count2 boot else s)

/-- CONFIGURE. -/
def execConfigure (s : State) : Host.Outcome State Fault Refusal := s.commandRow 1 0 0 noBoot
/-- VALIDATE. -/
def execValidate (s : State) : Host.Outcome State Fault Refusal := s.commandRow 2 0 0 noBoot
/-- RUN. -/
def execRun (s : State) : Host.Outcome State Fault Refusal := s.commandRow 3 0 0 noBoot
/-- COMMISSION. -/
def execCommission (s : State) : Host.Outcome State Fault Refusal := s.commandRow 4 0 0 noBoot
/-- PARK, with the two counts of the calibration that follows it (R260). -/
def execPark (count1 count2 : Nat) (s : State) : Host.Outcome State Fault Refusal := s.commandRow 5 count1 count2 noBoot
/-- REPLAY. -/
def execReplay (s : State) : Host.Outcome State Fault Refusal := s.commandRow 6 0 0 noBoot
/-- END_REPLAY. -/
def execEndReplay (s : State) : Host.Outcome State Fault Refusal := s.commandRow 7 0 0 noBoot
/-- HALT. -/
def execHalt (s : State) : Host.Outcome State Fault Refusal := s.commandRow 8 0 0 noBoot
/-- LEAVE_HALT. -/
def execLeaveHalt (s : State) : Host.Outcome State Fault Refusal := s.commandRow 9 0 0 noBoot
/-- RESTORE. -/
def execRestore (s : State) : Host.Outcome State Fault Refusal := s.commandRow 10 0 0 noBoot
/-- DISCARD. -/
def execDiscard (s : State) : Host.Outcome State Fault Refusal := s.commandRow 11 0 0 noBoot
/-- RESET, with what Boot then reads. -/
def execReset (boot : BootRead) (s : State) : Host.Outcome State Fault Refusal := s.commandRow 12 0 0 boot

/-- HALT_RELEASE_ARM_EXPIRY: the 30 s are over (R81). -/
def execHaltReleaseArmExpiry (s : State) : Host.Outcome State Fault Refusal :=
  .next (
    match s.sup.pend with
    | .armed u => if s.clk.real ≥ u then ({ s with sup := { s.sup with pend := .none } } : State).mlog 0x2000 0x05 0 0 0 else s
    | _ => s)

/-! ### Parked -/

/-- PARKED_ENTRY: at the first boundary of the module (R157) from 250 ms after the command took effect (Table: Parked entry, steps 3 and 4); in a group once every module has
answered (R404). -/
def execParkedEntry (s : State) : Host.Outcome State Fault Refusal :=
  .next (
    match s.sup.pend with
    | .parked t =>
      if s.cpl.gpark.isNone ∧ (s.sup.mode = .run ∨ s.sup.mode = .commissioning) ∧ s.sup.pfsOrder = 0 ∧ s.clk.now ≥ t + 250 * msTicks
          ∧ (! s.hasBoundary ∨ s.feedInstant) then s.park else s
    | _ => s)

/-- WAKE_DELAY_EXPIRY: the wake delay has run out on the slow oscillator of 32,768 Hz (R55). -/
def execWakeDelayExpiry (slowTicks : Nat) (retained : Bool) (s : State) : Host.Outcome State Fault Refusal :=
  .next (
    let d := s.sup.wakeDelayAtStop
    if s.sup.mode = .parked ∧ s.sup.pfsOrder = 0 ∧ d ≠ 0 ∧ slowTicks ≥ d * 32768 then s.wakeUp slowTicks retained else s)

/-- WAKE_INPUT_CHANGE: two consecutive samples of a wake input, 1 ms apart and without the filter, differ from its state at the entry
(R55, R193). -/
def execWakeInputChange (n : Fin 48) (mv1 mv2 : Nat) (slowTicks : Nat) (retained : Bool) (s : State) : Host.Outcome State Fault Refusal :=
  .next (
    let ref := s.sin.wakeRef.getLsbD n
    let a := inputLevel n ref mv1
    let b := inputLevel n a mv2
    if s.sup.mode = .parked ∧ s.sup.pfsOrder = 0 ∧ s.lotD.chWake n ∧ a ≠ ref ∧ b ≠ ref then s.wakeUp slowTicks retained else s)

/-- A domain that has a rail in Parked and whose fault is a Safe Halt cause: NOD, and a bank in sense mode (R39, R54, R55). -/
def State.parkedRailOk (s : State) (d : Nat) : Bool := decide (d = 1) || (decide (d = 6 ∨ d = 7) && s.domOn d)

/-- PARKED_HALT: a Safe Halt cause arises in Parked (R54, R57); `rail` is the domain of a rail fault, cause 11. -/
def execParkedHalt (cause : Fin 16) (rail : Fin 10) (slowTicks : Nat) (s : State) : Host.Outcome State Fault Refusal :=
  .next (
    if s.sup.mode = .parked ∧ s.sup.pfsOrder = 0 ∧ (cause.val ≠ 11 ∨ s.parkedRailOk rail) then
      s.parkedHalt cause (if cause.val = 11 then some rail.val else none) slowTicks
    else s)

end Sys2Proof.Machine
end

