-- ==== Sys2Proof/Machine/Swatch.lean ====
section
/-! DEFINITION. The swatch's commands (R275 to R278). -/

namespace Sys2Proof.Machine

/-- A swatch of this module begins: its ID, its time, its origin. The records of the swatch before it stay until it latches. -/
def State.swatchSet (s : State) (id origin t state : Nat) (late : Bool) : State :=
  { s with tmu := { s.tmu with swatch := { s.tmu.swatch with
    id := id % 2 ^ 32, origin := origin, tsw := t, late := late, state := state } } }

/-- The group is told of a swatch: the ring, and the partner (R277). -/
def State.swatchTell (s : State) (id t : Nat) : State :=
  let arg := id % 2 ^ 32 + t % 2 ^ 32 * 2 ^ 32
  let s1 := if s.lotD.cascade && decide (s.lotD.member = 0) then s.caControl 255 3 arg else s
  if s1.cplRole = .active then s1.xlControl 3 arg else s1

/-- A request at 0x2500:10 (R275, R277, R278), with its answer: a latch at once takes place after this tick's channel events, and the
recorder notes it (R270, R450). -/
def State.swatchAsk (s : State) (t : Nat) : State :=
  let w := s.tmu.swatch
  let id := (w.id + 1) % 2 ^ 32
  if s.swAlone then
    (if w.state = 1 then s.refuse 0x0F000303
     else if t > s.clk.now then (s.swatchSet id 0 t 1 false).done
     else (((s.tmuDue.swatchSet id 0 (if t = 0 then s.clk.now else t) w.state (decide (t ≠ 0))).swatchLatch).frcEvent 8 id).done)
  else if s.lotD.member ≠ 0 ∨ ! decide (s.cplRole = .solo ∨ s.cplRole = .active) then s.refuse 0x0F000201
  else if t ≠ 0 ∧ t < s.clk.now + msTicks then s.refuse 0x0F000302
  else if w.state = 1 ∨ (w.state = 2 ∧ s.clk.now - w.startedAt < 100 * msTicks) then s.refuse 0x0F000303
  else
    let t1 := if t = 0 then s.clk.now + 2 * msTicks else t
    ((s.swatchSet id 0 t1 1 false).swatchTell id t1).done

/-- SWATCH_REQUEST. -/
def execSwatchRequest (t : BitVec 64) (s : State) : Host.Outcome State Fault Refusal :=
  .next (if s.clk.running then s.swatchAsk t.toNat else s)

/-- SWATCH_LATCH: the scheduled time has come, after this tick's channel events; the recorder notes it (R270, R275, R450). -/
def execSwatchLatch (s : State) : Host.Outcome State Fault Refusal :=
  .next (if s.clk.running ∧ s.tmu.swatch.state = 1 ∧ s.clk.now ≥ s.tmu.swatch.tsw then s.tmuDue.swatchLatch.frcEvent 8 s.tmu.swatch.id else s)

/-- A record of the module with select value `k` belongs to the swatch that is gathered. -/
def State.gathered (s : State) (k : Nat) (r : List Byte) : Bool :=
  decide (k ∈ s.gathers) && decide (r.length = 39232) && decide (u32 r 0 = s.tmu.swatch.id)

/-- The records that have come are held (R276, R277). -/
def State.holdRecords (s : State) (records : List (Nat × List Byte)) : State :=
  (records.filter (fun e => s.gathered e.1 e.2)).foldl (fun a e =>
    { a with
      tmu := { a.tmu with swatch := { a.tmu.swatch with
        others := a.tmu.swatch.others.set [] e.1 e.2, held := a.tmu.swatch.held ||| BitVec.ofNat 16 (2 ^ e.1) } } }) s

/-- SWATCH_GATHER_TIMEOUT (R277): `records` have come since the latch, each with its select value. The swatch is complete once
every record is held, INCOMPLETE where one is missing 100 ms after the latch. -/
def execSwatchGatherTimeout (records : List (Nat × List Byte)) (s : State) : Host.Outcome State Fault Refusal :=
  .next (
    if s.tmu.swatch.state = 2 then
      let s1 := s.holdRecords records
      let put (n : Nat) : State := { s1 with tmu := { s1.tmu with swatch := { s1.tmu.swatch with state := n } } }
      if s1.gathers.all (fun k => s1.tmu.swatch.held.getLsbD k) then put 3
      else if s1.clk.now - s1.tmu.swatch.startedAt ≥ 100 * msTicks then (put 4).mlog 0x2500 0x11 1 0 4
      else s1
    else s)

/-- The time whose low 32 bits are given and which lies nearest to now. -/
def nearTime (now low : Nat) : Nat :=
  let d := (low + 2 ^ 32 - now % 2 ^ 32) % 2 ^ 32
  if d < 2 ^ 31 then now + d else now + d - 2 ^ 32

/-- A swatch that another module has started: on arrival after T_sw it latches at once with LATE. A master hands it on to its members
where the partner brought it (R277). -/
def State.partnerSwatch (s : State) (relay : Bool) (id tLow : Nat) : State :=
  if s.clk.running then
    let t := nearTime s.clk.now tLow
    let s1 := if relay && s.lotD.cascade && decide (s.lotD.member = 0) then s.caControl 255 3 (id + tLow * 2 ^ 32) else s
    if t > s1.clk.now then s1.swatchSet id 3 t 1 false
    else ((s1.tmuDue.swatchSet id 3 t s1.tmu.swatch.state true).swatchLatch).frcEvent 8 id
  else s

/-- CONTROL_SWATCH: a swatch of the set of modules (R277). -/
def execControlSwatch (via : CtlVia) (id : BitVec 32) (tLow : BitVec 32) (s : State) : Host.Outcome State Fault Refusal :=
  .next (s.ctlTake via 3 (id.toNat + tLow.toNat * 2 ^ 32) (fun a => a.partnerSwatch (decide (via = .crossLink)) id.toNat tLow.toNat))

end Sys2Proof.Machine
end

