-- ==== Sys2Proof/Machine/OdAccess.lean ====
section
/-! DEFINITION. Access to the object dictionary: DOMAIN contents (R325, R336, R442, R452, R458), the checks of a record (R485) with
the access rights (R326) and the serving domains (R333), reads, writes and beats (R324, R327). -/

namespace Sys2Proof.Machine

/-! ### The recorder export (R452, R458) -/

/-- Bytes `a` to `b` of the recorder stream; a place that no held record covers is 0. -/
def streamBytes (recs : List Rcd) (a b : Nat) : List Byte :=
  let got := recs.foldl (fun (acc : List Byte × Nat) r =>
    let e := r.pos + r.bytes.length
    if e ≤ acc.2 ∨ r.pos ≥ b then acc
    else
      let from_ := max r.pos acc.2
      let piece := (r.bytes.drop (from_ - r.pos)).take (b - from_)
      (acc.1 ++ List.replicate (from_ - acc.2) 0 ++ piece, from_ + piece.length)) ([], a)
  got.1 ++ List.replicate (b - got.2) 0

/-- A NAND page of an episode (R452): page sequence, boot count, CRC-32C of the other 4,092 bytes, 4,080 bytes of the stream up to the
episode's end. -/
def State.nandPage (s : State) (p stop : Nat) : List Byte :=
  let boot := ((s.rcr.pages.find? (fun q => decide (q.page = p))).map (·.boot)).getD s.sup.bootCount
  let head := leBytes 8 p ++ leBytes 4 boot
  let body := streamBytes (s.rcr.recs.filter (fun r => decide (r.pos < stop))) (p * pageBytes) ((p + 1) * pageBytes)
  head ++ leBytes 4 (crc32c (head ++ body)).toNat ++ body

/-- Header of an export (Table: Recorder export). -/
def State.exportHeader (s : State) (e : Nat) : List Byte :=
  let v := s.episode e
  [0x46#8, 0x58#8, 0x52#8, 0x43#8] ++ leBytes 2 1 ++ leBytes 2 4000 ++ leBytes 4 s.serial ++ leBytes 2 s.otp.firmware
  ++ leBytes 1 (s.sup.straps.addr.getD 255) ++ leBytes 1 e ++ leBytes 1 v.trigger ++ leBytes 1 v.cause ++ leBytes 2 0
  ++ leBytes 4 ((v.toPage - v.fromPage) * 4096) ++ leBytes 8 v.lotId ++ slice v.sha 0 32 ++ leBytes 8 v.first ++ leBytes 8 v.last
  ++ leBytes 8 v.trigAt ++ slice s.attestKey 0 64 ++ List.replicate 3848 0

/-- The private attestation key (R416, log entry 8). -/
def State.attestSecret (s : State) : Nat := beNat ((s.unscrambled 8 4).flatMap (leBytes 8))

/-- The signed export of the selected episode; a free episode has none. -/
def State.exportBytes (s : State) : List Byte :=
  let e := s.rcr.sel
  let v := s.episode e
  if v.state = 0 then []
  else
    let body := s.exportHeader e ++ (List.range (v.toPage - v.fromPage)).flatMap (fun i => s.nandPage (v.fromPage + i) v.endPos)
    let d := sha256 body
    let sig := ecdsaSign s.attestSecret (Config.exportNonce (s.hpo.gens.get 0 (256 * 0x2A00 + 9))) d
    body ++ d ++ beBytes 32 sig.1 ++ beBytes 32 sig.2

/-! ### DOMAIN entries -/

/-- Table: Log entry. -/
def LogEntry.bytes (e : LogEntry) : List Byte :=
  leBytes 4 e.seq ++ leBytes 8 e.time ++ leBytes 4 e.boot ++ leBytes 2 e.index ++ leBytes 1 e.sub ++ leBytes 1 e.severity
  ++ leBytes 4 e.item ++ leBytes 8 e.value

/-- The log entry that 0x6000:04 selects. -/
def State.selectedEntry (s : State) : Option LogEntry := s.log.entries.find? (fun e => decide (e.seq = s.log.select))

/-- The content of a DOMAIN entry. -/
def State.domain (s : State) (index sub : Nat) : List Byte :=
  match index with
  | 0x1008 => [0x46#8, 0x50#8, 0x58#8, 0x2D#8, 0x32#8, 0x31#8, 0x34#8, 0x34#8]
  | 0x1F50 => s.lot.image
  | 0x1F90 => s.attestKey
  | 0x1F91 => s.certificate
  | 0x1F92 => s.ownerDigest (sub - 1)
  | 0x2500 =>
    let w := s.tmu.swatch
    if ! w.held.getLsbD w.select then []
    else if w.select = 0 then (w.record.map SwRecord.bytes).getD [] else w.others.get [] w.select
  | 0x2800 => s.bist.report
  | 0x2A00 => s.exportBytes
  | _ => (s.selectedEntry.map LogEntry.bytes).getD []

/-- Its generation count (R325): the swatch ID, the report's own count, the count of replacements; 0 for a const entry. -/
def State.generation (s : State) (index sub : Nat) : Nat :=
  match index with
  | 0x2500 => (s.tmu.swatch.record.map (·.id)).getD 0
  | 0x2800 => s.bist.reportGen
  | _ => s.hpo.gens.get 0 (256 * index + sub)

/-- The DOMAIN entry refuses a read: an export that cannot be signed (R422), a log entry that is not held (R344). -/
def State.domainRefusal (s : State) (index : Nat) : Option Nat :=
  if index = 0x2A00 ∧ ! s.maySign then some 0x0F00060D
  else if index = 0x6000 ∧ s.selectedEntry.isNone then some 0x06090031
  else none

/-- The last byte of an export has been read: the episode is exported (R458). -/
def State.exported (s : State) : State :=
  let e := s.rcr.sel
  let v := s.episode e
  if v.state = 0 then s
  else
    let s1 := s.setEpisode e { v with state := 2 }
    { s1 with otp := { s1.otp with exportsSigned := (s1.otp.exportsSigned + 1) % 2 ^ 32 } }

/-- The health report is read only whole (R442): from offset 0, with room for its 96 bytes. R442 names no code for another read: those of
a value out of its range (DESIGN CHOICE, log entry 74). -/
def wholeRefusal (index off len : Nat) : Option Nat :=
  if index ≠ 0x2800 then none else if off ≠ 0 then some 0x06090031 else if len < 96 then some 0x06090032 else none

/-- A BLOCK READ (R325): offset and length. PFS ends an export read (R463). -/
def State.blockRead (s : State) (index sub off len : Nat) : State :=
  if len = 0 then s.refuse 0x06090032
  else if len > 1024 then s.refuse 0x06090031
  else if index = 0x2A00 ∧ s.sup.pfsOrder ≠ 0 then { s with hpo := { s.hpo with reply := none } }
  else match wholeRefusal index off len <|> s.domainRefusal index with
  | some c => s.refuse c
  | none =>
    let d := s.domain index sub
    if off > d.length then s.refuse 0x06090031
    else
      s.answer (.data (leBytes 4 off ++ leBytes 4 (s.generation index sub) ++ (d.drop off).take len))

/-- The data of a BLOCK READ of the export has gone out, its offset and generation before it: with the last byte of the episode that is
selected, the episode is exported (R458, R463). -/
def State.exportSent (s : State) (d : List Byte) : State :=
  let n := d.length - 8
  if s.sup.pfsOrder = 0 ∧ n ≠ 0 ∧ u32 d 4 = s.generation 0x2A00 9 ∧ u32 d 0 + n = (s.domain 0x2A00 9).length then s.exported else s

/-- The greatest length of 0x1F50 (R68). -/
def imageMax : Nat := 2097152

/-- A BLOCK WRITE to 0x1F50, the one writable DOMAIN entry (R325). -/
def State.blockWrite (s : State) (off : Nat) (data : List Byte) : State :=
  if off = 0 then (State.bumpGen { s with lot := { s.lot with image := data } } 0x1F50 0).done
  else if off ≠ s.lot.image.length then s.refuse 0x0F000404
  else if off + data.length > imageMax then s.refuse 0x06090031
  else State.done { s with lot := { s.lot with image := s.lot.image ++ data } }

/-! ### The checks of a record (R485) -/

/-- The types of the records that a host sends (Table: Record types). -/
def recRead : Nat := 0x10
def recWrite : Nat := 0x11
def recBeatRead : Nat := 0x12
def recBeatWrite : Nat := 0x13
def recBlockRead : Nat := 0x14
def recBlockWrite : Nat := 0x15
def recWake : Nat := 0x16

/-- A flat address (R324). -/
def addrIndex (a : Nat) : Nat := a / 4096
def addrSub (a : Nat) : Nat := a / 16 % 256
def addrOff (a : Nat) : Nat := a % 16

/-- Check 4: the offset. -/
def offsetBad (type o : Nat) (r : OdRow) : Bool :=
  if type = recBeatRead ∨ type = recBeatWrite then
    decide (o % 4 ≠ 0) || (decide (r.ty = .domain) && decide (o ≠ 0)) || (decide (r.ty ≠ .domain) && decide (o ≥ (r.ty.size + 3) / 4 * 4))
  else decide (o ≠ 0)

/-- Check 6: the access right (R326). -/
def State.rightRefusal (s : State) (write : Bool) (a : Acc) : Option Nat :=
  if write then
    (match a with
      | .ro => some 0x06010002
      | .const => some 0x06010002
      | .wo => none
      | .rw => none
      | .rws => if s.sup.mode = .configuring then none else some 0x0F000407
      | .rwc => if s.sup.mode = .commissioning then none else some 0x0F000408)
  else if a = .wo then some 0x06010001 else none

/-- Check 7: the body length (Table: Record types). -/
def bodyBad (type len : Nat) (r : OdRow) : Bool :=
  if type = recRead ∨ type = recBeatRead then decide (len ≠ 0)
  else if type = recWrite then decide (len ≠ r.ty.size)
  else if type = recBeatWrite then decide (len ≠ 4)
  else if type = recBlockRead then decide (len ≠ 6)
  else decide (len < 5 ∨ len > 1028)

/-- The entries that HPO serves itself to READ and BEAT READ (R322); the CP serves every other record. -/
def hpoServes (index sub : Nat) : Bool :=
  decide (0x3000 ≤ index ∧ index < 0x3800) || (decide (index = 0x2500) && decide (sub = 1))
  || (decide (index = 0x2000) && decide (1 ≤ sub ∧ sub ≤ 9))

/-- The domains that must be ON for a live value or an action (R333); lot values and counters need none of them. -/
def liveDoms (index sub : Nat) : List Nat :=
  let within (a b : Nat) : Bool := decide (a ≤ sub ∧ sub ≤ b)
  if index = 0x2000 then (if within 0x10 0x14 || within 0x1A 0x1B then [0] else [])
  else if 0x2100 ≤ index ∧ index < 0x2130 then (if within 0x10 0x16 then [if index < 0x2118 then 6 else 7] else [])
  else if 0x2140 ≤ index ∧ index < 0x2158 then (if within 0x10 0x14 then [6, 7] else [])
  else if 0x2160 ≤ index ∧ index < 0x2168 then (if within 0x10 0x13 then [if index < 0x2164 then 6 else 7] else [])
  else if 0x2200 ≤ index ∧ index < 0x2210 then (if within 0x10 0x16 || decide (sub = 0x1B) then [8] else [])
  else if 0x2220 ≤ index ∧ index < 0x2222 then (if within 0x10 0x15 || decide (sub = 0x17) then [8] else [])
  else if 0x2300 ≤ index ∧ index < 0x2308 then
    (if within 0x10 0x12 || within 0x14 0x15 then [if index < 0x2304 then 6 else 7] else if sub = 0x26 then [6, 7] else [])
  else if 0x2310 ≤ index ∧ index < 0x2314 then (if within 0x18 0x1D then [0] else [])
  else if 0x2340 ≤ index ∧ index < 0x2348 then (if within 0x10 0x14 || within 0x24 0x25 then [9] else [])
  else if index = 0x2348 then (if within 1 7 then [9] else [])
  else if 0x2400 ≤ index ∧ index < 0x2500 then (if sub = 1 ∨ sub = 9 ∨ sub = 0x0D then [] else [0])
  else if index = 0x2500 then (if within 1 4 || decide (sub = 0x10) then [0] else [])
  else if index = 0x2700 then (if within 0x10 0x13 || decide (sub = 0x21) then [5] else [])
  else if 0x3000 ≤ index ∧ index < 0x3800 then (if sub ≤ 2 then [0] else [])
  else []

/-- Check 8: the serving domain. -/
def State.unserved (s : State) (type index sub : Nat) : Bool :=
  (! ((decide (type = recRead) || decide (type = recBeatRead)) && hpoServes index sub) && ! s.domOn 2)
  || (liveDoms index sub).any (fun d => ! s.domOn d)

/-- Checks 3 to 8 of R485 for a record of a valid type with an address: the code of the first that fails. -/
def State.accessRefusal (s : State) (type addr len : Nat) : Option Nat :=
  let index := addrIndex addr
  let sub := addrSub addr
  match odGroup index with
  | none => some 0x06020000
  | some g => match g.row index sub with
    | none => some 0x06090011
    | some r =>
      let write := decide (type = recWrite ∨ type = recBeatWrite ∨ type = recBlockWrite)
      let block := decide (type = recBlockRead ∨ type = recBlockWrite)
      if offsetBad type (addrOff addr) r then some 0x0F000405
      else if block ≠ decide (r.ty = .domain) then some 0x06010000
      else match s.rightRefusal write r.acc with
        | some c => some c
        | none =>
          if bodyBad type len r then some 0x06070010
          else if s.unserved type index sub then some 0x06060000
          else none

/-- A record that checks 3 to 8 refuse; a fuse repair refused for the state shows 3 at 0x2800:09 (R441). `at_` is index and
subindex. -/
def State.refuseAccess (s : State) (at_ c : Nat) : State :=
  (if at_ % 2 ^ 24 = 0x280008 ∧ c = 0x0F000408 ∧ ! s.fusing then s.setBist { s.bist with fuseState := 3 } else s).refuse c

/-! ### Reads -/

/-- The value of an entry as READ answers it (R272, R321, R340). A read of a capture value clears NEW. -/
def State.odRead (s : State) (index sub : Nat) (r : OdRow) : State :=
  match s.odReadRefusal index sub with
  | some c => s.refuse c
  | none =>
    let s1 := s.answer (.data (leBytes r.ty.size (s.odValue index sub r)))
    let s2 := if odFree index sub then s1.measured else s1
    if 0x2400 ≤ index ∧ index < 0x2500 ∧ sub = 0x0C ∧ (s.tc (index - 0x2400)).mode = 3 then
      s2.setTc (index - 0x2400) (s.tc (index - 0x2400)).afterRead
    else s2

/-- How long a latch is held: 1 ms (R99). -/
def BeatLatch.live (b : BeatLatch) (addr now : Nat) : Bool := decide (b.addr = addr) && decide (now < b.at_ + msTicks)

/-- Four bytes of a number at a beat's offset. -/
def beatOf (v o : Nat) : List Byte := leBytes 4 (v / 256 ^ o)

/-- A beat of a node word (R99): offset 0 latches the value and the tag, the others need the latch. -/
def State.wordBeat (s : State) (w o : Nat) : State :=
  let index := 0x3000 + w
  if o = 0 then
    let c := s.view w
    State.answer { s with nmt := { s.nmt with beat := some ⟨index, c.val.toNat, c.tag.toNat, s.clk.real⟩ } } (.data (beatOf c.val.toNat 0))
  else match s.nmt.beat with
  | none => s.refuse 0x0F000405
  | some b => if b.live index s.clk.real then s.answer (.data (beatOf b.val o)) else s.refuse 0x0F000405

/-- The tag of a node word: the latched one while a latch of the word is held, else live (R99). -/
def State.tagBeat (s : State) (w : Nat) : State :=
  match s.nmt.beat with
  | none => s.answer (.data (leBytes 4 (s.view w).tag.toNat))
  | some b => s.answer (.data (leBytes 4 (if b.live (0x3000 + w) s.clk.real then b.tag else (s.view w).tag.toNat)))

/-- A beat of a capture value (R272): offset 0 is the read. -/
def State.captureBeat (s : State) (c o : Nat) : State :=
  let t := s.tc c
  if o = 0 then
    let s1 := s.setTc c t.afterRead
    State.answer { s1 with nmt := { s1.nmt with capBeat := some ⟨0x2400 + c, t.readValue, 0, s.clk.real⟩ } } (.data (beatOf t.readValue 0))
  else match s.nmt.capBeat with
  | none => s.refuse 0x0F000405
  | some b => if b.live (0x2400 + c) s.clk.real then s.answer (.data (beatOf b.val o)) else s.refuse 0x0F000405

/-- A narrow entry extended to 4 bytes: by its sign for INTEGER types, else by 0 (R324). -/
def beatExtend (r : OdRow) (v : Nat) : Nat := if r.ty = .i16 ∧ v ≥ 32768 then v + 0xFFFF0000 else v

/-- BEAT READ (R324). -/
def State.beatRead (s : State) (index sub o : Nat) (r : OdRow) : State :=
  if 0x3000 ≤ index ∧ index < 0x3800 ∧ sub = 1 then s.wordBeat (index - 0x3000) o
  else if 0x3000 ≤ index ∧ index < 0x3800 ∧ sub = 2 then s.tagBeat (index - 0x3000)
  else if 0x2400 ≤ index ∧ index < 0x2500 ∧ sub = 0x0C ∧ (s.tc (index - 0x2400)).mode = 3 then s.captureBeat (index - 0x2400) o
  else match s.odReadRefusal index sub with
  | some c => s.refuse c
  | none =>
    let s1 := s.answer (.data (beatOf (beatExtend r (s.odValue index sub r)) o))
    if odFree index sub then s1.measured else s1

/-! ### Writes (R326, R327) -/

/-- What Boot reads after a RESET that a record brings: free values (R24, R37, R67). -/
def freeBoot (n : Nat) : BootRead :=
  ⟨freeReads n 64 4, (Config.aonReading n).toNat, ⟨(Config.strapReading n 0).toNat, (Config.strapReading n 1).toNat⟩⟩

/-- The measured operands of a PARK or RESET that a record brings are free values. -/
def State.commandWrite (s : State) (code : Nat) (tag : Option Byte) : State :=
  if code = 5 then s.tick.command code tag (Config.parkCount s.fresh 1).toNat (Config.parkCount s.fresh 2).toNat noBoot
  else if code = 12 then s.tick.command code tag 0 0 (freeBoot s.fresh)
  else s.command code tag 0 0 noBoot

/-- An accepted value goes into the host port's own entries (R331); a disabled port has no link (R307). A new EtherType is used after
the response that carries DONE. -/
def State.hostWrite (s : State) (sub v : Nat) (byRecord : Bool) : State :=
  if sub = 1 then State.done { s with hpo := { s.hpo with
    etherType := v, etherOld := if byRecord then some (s.hpo.etherOld.getD s.hpo.etherType) else none } }
  else State.done { s with hpo := { s.hpo with
    portEnable := v, linkA := s.hpo.linkA && bitOf v 0, linkB := s.hpo.linkB && bitOf v 1 } }

/-- Writes of a compare channel (R289). -/
def State.compareWrite (s : State) (c sub v : Nat) : State :=
  match sub with
  | 0x05 => s.chTarget c v
  | 0x06 => s.chPeriod c v
  | 0x0A => s.chCommand c v
  | _ => s.chSetup c sub v

/-- Writes of the OTP controller (R340, R410, R418). -/
def State.otpWrite (s : State) (sub v : Nat) (byRecord : Bool) : State :=
  match sub with
  | 2 => State.done { s with otp := { s.otp with sel := v } }
  | 5 => s.otpProgram v s.fusing byRecord
  | _ => s.otpLock (v % 16) (bitOf v 4) s.fusing byRecord

/-- Check 9 and the write itself: the value, then the entry's own rule, its effect and its answer. `tag` is that of the record, none
for a write that no record brought. -/
def State.odWrite (s : State) (index sub v : Nat) (tag : Option Byte) : State :=
  match odValueBad index sub v with
  | some c => s.answerTag tag (.abort c)
  | none =>
    if index = 0x1E00 then s.hostWrite sub v tag.isSome
    else if index = 0x1F62 then s.confirm v tag
    else if index = 0x2000 then
      (if sub = 2 then s.commandWrite v tag else State.done { s with sup := { s.sup with wakeDelay := v } })
    else if index < 0x2500 then s.compareWrite (index - 0x2400) sub v
    else if index = 0x2500 then
      (if sub = 0x10 then s.swatchAsk v
       else State.done { s with tmu := { s.tmu with swatch := { s.tmu.swatch with select := v } } })
    else if index = 0x2600 then
      State.done { s with pwr := { s.pwr with trimFixed := decide (v = 1), setpoint := if v = 1 then 980 else s.pwr.setpoint } }
    else if index = 0x260A then State.done { s with pwr := { s.pwr with usKeep := decide (v = 1) } }
    else if index = 0x2800 then s.fuseRepair tag.isSome
    else if index = 0x2900 then s.otpWrite sub v tag.isSome
    else if index = 0x2A00 then (if sub = 7 then s.freezeAsk else s.exportAsk v)
    else if index < 0x2B10 then s.cvuWrite (index - 0x2B00) sub v
    else s.entryAsk v

/-- A write waits for the programming controller, which does one job at a time (R410, R440). -/
def State.programBusy (s : State) (index sub : Nat) : Bool :=
  (decide (index = 0x2900) && decide (sub = 5 ∨ sub = 7) && s.otp.job.isSome) || (decide (index = 0x2800) && s.fusing)

/-- BEAT WRITE (R324): a wider entry is held until its highest beat, each entry for itself; a beat at offset 0 begins the entry
anew. -/
def State.beatWrite (s : State) (index sub o : Nat) (r : OdRow) (body : List Byte) (tag : Option Byte) : State :=
  let n := r.ty.size
  let key := 256 * index + sub
  if n ≤ 4 then
    (if leNat body ≥ 256 ^ n then s.refuse 0x06090031 else s.odWrite index sub (leNat body) tag)
  else
    let rest := s.hpo.held.filter (fun h => decide (h.addr ≠ key))
    let put (l : List HeldBeat) : State := { s with hpo := { s.hpo with held := l } }
    if o = 0 then (put (rest ++ [⟨key, 4, body, s.clk.real⟩])).done
    else match s.hpo.held.find? (fun h => decide (h.addr = key)) with
    | none => s.refuse 0x0F000405
    | some h =>
      if h.next ≠ o ∨ s.clk.real ≥ h.at_ + msTicks then (put rest).refuse 0x0F000405
      else if o + 4 < n then (put (rest ++ [{ h with next := o + 4, bytes := h.bytes ++ body }])).done
      else (put rest).odWrite index sub (leNat (h.bytes ++ body)) tag

/-! ### A record at its turn (R322, R485) -/

/-- A record that passes check 1 is executed: checks 2 to 9 and its effect. Its answer stands in `reply`; none is left where it
waits for a boundary, for other modules or for the fuses. -/
def State.serve (s : State) (q : Rec0) : State :=
  if q.type < recRead ∨ q.type > recWake then s.refuse 0x05040001
  else if q.type = recWake then (if q.len ≠ 0 then s.refuse 0x06070010 else s.refuse 0x0F000201)
  else match s.accessRefusal q.type q.addr q.len with
  | some c => s.refuseAccess (q.addr / 16) c
  | none =>
    let index := addrIndex q.addr
    let sub := addrSub q.addr
    let tag : Option Byte := some (BitVec.ofNat 8 q.tag)
    match odRow index sub with
    | none => s.refuse 0x06090011
    | some r =>
      if q.type = recRead then s.odRead index sub r
      else if q.type = recWrite then s.odWrite index sub (leNat q.body) tag
      else if q.type = recBeatRead then s.beatRead index sub (addrOff q.addr) r
      else if q.type = recBeatWrite then s.beatWrite index sub (addrOff q.addr) r q.body tag
      else if q.type = recBlockRead then s.blockRead index sub (u32 q.body 0) (u16 q.body 4)
      else s.blockWrite (u32 q.body 0) (q.body.drop 4)

end Sys2Proof.Machine
end

