-- ==== Sys2Proof/Machine/Host.lean ====
section
/-! DEFINITION. The host port: records and their answers (R320 to R324, R330), the Cycle Frame and its Response Frame (R307 to R318),
the host watchdog (R319), the latches and held beats that lapse (R99, R324). -/

namespace Sys2Proof.Machine

/-! ### Records (R322, R323, R485) -/

/-- Records that are queued, executing or PENDING (R322). -/
def Hpo.load (h : Hpo) : Nat := (h.out.filter (fun o => ! o.echo && (o.final.isNone || o.first))).length

/-- Check 1 of R485: a record to be executed, a repetition with its answer (none: still outstanding), a refusal. -/
inductive FirstCheck where
  | new
  | again (r : Option Reply)
  | refused (code : Nat)
deriving DecidableEq, Repr

/-- Check 1: a repeated tag (R323), then the limit of 8 (R322). -/
def Hpo.firstCheck (h : Hpo) (q : Rec0) : FirstCheck :=
  match h.kept.find? (fun k => decide (k.tag = q.tag)) with
  | some k => if k.type = q.type ∧ k.addr = q.addr then .again (some k.reply) else .refused 0x0F000403
  | none => match h.out.find? (fun o => ! o.echo && decide (o.rec0.tag = q.tag)) with
    | some o => if o.rec0.type = q.type ∧ o.rec0.addr = q.addr then .again o.final else .refused 0x0F000403
    | none => if h.load ≥ 8 then .refused 0x0F000402 else .new

/-- The record whose turn it is: the first unfinished one (R322). -/
def Hpo.front (h : Hpo) : Option Outst := h.out.find? (fun o => ! o.echo && o.final.isNone)

/-- A write that must wait for the programming controller. -/
def State.mustWait (s : State) (q : Rec0) : Bool :=
  decide (q.type = recWrite ∨ q.type = recBeatWrite) && s.programBusy (addrIndex q.addr) (addrSub q.addr)

/-- The answer to a record has gone out with `b` as its body: a BLOCK READ of an export may have read the last byte (R458). -/
def State.sent (s : State) (q : Rec0) (b : List Byte) : State :=
  if q.type = recBlockRead ∧ addrIndex q.addr = 0x2A00 then s.exportSent b else s

/-- A record has its turn: it is executed; an answer that stands then is its final one. -/
def State.turn (s : State) (q : Rec0) : State :=
  if s.mustWait q then s
  else
    let mark (o : Outst) : Outst := if o.rec0 = q ∧ ! o.echo then { o with started := true } else o
    let s1 := State.serve { s with hpo := { s.hpo with reply := none, out := s.hpo.out.map mark } } q
    match s1.hpo.reply with
    | none => s1
    | some r => s1.closeRec (fun o => o.started && decide (o.rec0.tag = q.tag)) r

/-- A new EtherType comes into use once no write of it waits for its answer to be sent (R331). -/
def State.etherSettle (s : State) : State :=
  if s.hpo.out.any (fun o => ! o.echo && decide (o.rec0.addr / 16 = 0x1E0001) && decide (o.rec0.type = recWrite ∨ o.rec0.type = recBeatWrite))
  then s else { s with hpo := { s.hpo with etherOld := none } }

/-- A record joins those outstanding. -/
def State.queueRec (s : State) (q : Rec0) : State := { s with hpo := { s.hpo with out := s.hpo.out ++ [{ rec0 := q }] } }

/-- A record arrives by itself: check 1, and its execution where no record is ahead of it; its answer stands in `reply`. -/
def State.record (s : State) (q : Rec0) : State :=
  if ! s.domOn 3 then s
  else if s.sup.mode = .parked then s.refuse 0x0F000401
  else match s.hpo.firstCheck q with
  | .again (some r) => s.answer r
  | .again none => { s with hpo := { s.hpo with reply := none } }
  | .refused c => s.refuse c
  | .new =>
    if s.hpo.front.isSome then State.queueRec { s with hpo := { s.hpo with reply := none } } q
    else
      let s0 := (s.queueRec q).turn q
      let s1 := match s0.hpo.reply with
        | some (.data b) => s0.sent q b
        | _ => s0
      State.etherSettle { s1 with hpo := { s1.hpo with
        out := s1.hpo.out.filter (fun o => o.echo || o.final.isNone || decide (o.rec0.tag ≠ q.tag)) } }

/-- READ (R321). -/
def execRead (tag : Byte) (addr : BitVec 32) (s : State) : Host.Outcome State Fault Refusal :=
  .next (s.record ⟨recRead, tag.toNat, addr.toNat, 0, []⟩)

/-- WRITE (R321). -/
def execWrite (tag : Byte) (addr : BitVec 32) (body : List Byte) (s : State) : Host.Outcome State Fault Refusal :=
  .next (s.record ⟨recWrite, tag.toNat, addr.toNat, body.length, body⟩)

/-- BEAT_READ (R324). -/
def execBeatRead (tag : Byte) (addr : BitVec 32) (s : State) : Host.Outcome State Fault Refusal :=
  .next (s.record ⟨recBeatRead, tag.toNat, addr.toNat, 0, []⟩)

/-- BEAT_WRITE (R324). -/
def execBeatWrite (tag : Byte) (addr : BitVec 32) (body : List Byte) (s : State) : Host.Outcome State Fault Refusal :=
  .next (s.record ⟨recBeatWrite, tag.toNat, addr.toNat, body.length, body⟩)

/-- BLOCK_READ (R325). -/
def execBlockRead (tag : Byte) (addr off : BitVec 32) (len : BitVec 16) (s : State) : Host.Outcome State Fault Refusal :=
  .next (s.record ⟨recBlockRead, tag.toNat, addr.toNat, 6, leBytes 4 off.toNat ++ leBytes 2 len.toNat⟩)

/-- BLOCK_WRITE (R325). -/
def execBlockWrite (tag : Byte) (addr off : BitVec 32) (data : List Byte) (s : State) : Host.Outcome State Fault Refusal :=
  .next (s.record ⟨recBlockWrite, tag.toNat, addr.toNat, 4 + data.length, leBytes 4 off.toNat ++ data⟩)

/-- The host can reach the module: HST is ON and a port has a link (R55, R307). -/
def State.hostReach (s : State) : Bool := s.domOn 3 && (s.hpo.linkA || s.hpo.linkB)

/-- WAKE (R330): DONE and the wake in Parked, where the host reaches the module; after PFS it is refused, since PFS overrides it (R55, R63,
log entry 63). Elsewhere it is refused as any record is. -/
def execWake (tag : Byte) (slowTicks : Nat) (retained : Bool) (s : State) : Host.Outcome State Fault Refusal :=
  .next (
    if s.sup.mode ≠ .parked then s.record ⟨recWake, tag.toNat, 0, 0, []⟩
    else if ! s.hostReach then s
    else if s.sup.pfsOrder ≠ 0 then s.refuse 0x0F000201
    else (s.wakeUp slowTicks retained).done)

/-- RECORD_COMPLETE (R322): the record whose turn it is completes. One whose execution waits for something else stays. -/
def execRecordComplete (s : State) : Host.Outcome State Fault Refusal :=
  .next (
    match s.hpo.front with
    | none => s
    | some o => if o.started ∨ ! s.domOn 3 ∨ s.sup.mode = .parked then s else s.turn o.rec0)

/-- OD_WRITE (R327): a write that no record of the model's queue brings. -/
def execOdWrite (index : BitVec 16) (sub : Byte) (value : BitVec 64) (s : State) : Host.Outcome State Fault Refusal :=
  .next (
    if s.sup.mode = .parked then s.refuse 0x0F000401
    else
      let len := match odRow index.toNat sub.toNat with
        | some r => if r.ty.size = 0 then 0 else if value.toNat < 256 ^ r.ty.size then r.ty.size else r.ty.size + 1
        | none => 0
      match s.accessRefusal recWrite (index.toNat * 4096 + sub.toNat * 16) len with
      | some c => s.refuseAccess (index.toNat * 256 + sub.toNat) c
      | none => if s.programBusy index.toNat sub.toNat then s else s.odWrite index.toNat sub.toNat value.toNat none)

/-- NODE_WORD_READ (R99): a beat at offset 0 of a node word. -/
def execNodeWordRead (w : Fin 2048) (s : State) : Host.Outcome State Fault Refusal :=
  .next (if ! s.domOn 3 ∨ s.sup.mode = .parked then s else if s.domOn 0 then s.wordBeat w.val 0 else s.refuse 0x06060000)

/-- BEAT_LATCH_LAPSE (R99, R272): a latch is held for 1 ms. -/
def execBeatLatchLapse (s : State) : Host.Outcome State Fault Refusal :=
  .next { s with nmt := { s.nmt with
    beat := s.nmt.beat.filter (fun b => decide (s.clk.real < b.at_ + msTicks)),
    capBeat := s.nmt.capBeat.filter (fun b => decide (s.clk.real < b.at_ + msTicks)) } }

/-- BEAT_WRITE_TIMEOUT (R324): 1 ms after the beat at offset 0 the held beats are discarded. -/
def execBeatWriteTimeout (s : State) : Host.Outcome State Fault Refusal :=
  .next { s with hpo := { s.hpo with held := s.hpo.held.filter (fun h => decide (s.clk.real < h.at_ + msTicks)) } }

/-! ### Frames (R310 to R314) -/

/-- A Cycle Frame that parses. -/
structure CycleFrame where
  mac : Nat
  nc : Nat
  period : Nat
  words : List Lanes
  release : Bool
  recs : List Rec0
deriving DecidableEq, Repr

/-- Body bytes with their fill. -/
def padded (n : Nat) : Nat := (n + 3) / 4 * 4

/-- The records of a payload from an offset on, and where they end; none where one runs past the payload. -/
def parseRecs (pay : List Byte) : Nat → Nat → Option (List Rec0 × Nat)
  | 0, o => some ([], o)
  | n + 1, o =>
    let l := u16 pay (o + 2)
    let e := o + 8 + padded l
    if e > pay.length then none
    else match parseRecs pay n e with
      | none => none
      | some (r, z) => some (⟨u8 pay o, u8 pay (o + 1), u32 pay (o + 4), l, slice pay (o + 8) l⟩ :: r, z)

/-- The link check of a payload (R311). -/
def linkCheck (mac : List Byte) (nc : Nat) (pay : List Byte) : Nat := (crc32c (mac ++ leBytes 2 nc ++ pay)).toNat

/-- What the checks of R314 that need no partner find in a frame on the module's EtherType. -/
inductive FrameCheck where
  | bad
  | badLink
  | ok (f : CycleFrame)
deriving DecidableEq, Repr

/-- The checks of R314 on the bytes from the destination address to the FCS; `mac` is the module's. -/
def checkFrame (mac bytes : List Byte) : FrameCheck :=
  let n := bytes.length
  let pay := slice bytes 14 (n - 18)
  let nIn := u8 pay 8
  let p := u32 pay 4
  if (crc32 (bytes.take (n - 4))).toNat ≠ u32 bytes (n - 4) ∨ slice bytes 0 6 ≠ mac then .bad
  else if u8 pay 0 ≠ 1 ∨ u8 pay 1 ≠ 1 ∨ u8 pay 10 > 1 ∨ ! rangeZero pay 11 5 then .bad
  else if p < 250 ∨ p > 100000 ∨ nIn > 64 ∨ u8 pay 9 > 4 then .bad
  else match parseRecs pay (u8 pay 9) (16 + 16 * nIn) with
  | none => .bad
  | some (recs, e) =>
    if pay.length ≠ max 46 (e + 4) then .bad
    else if u32 pay e ≠ linkCheck mac (u16 pay 2) (pay.take e) then .badLink
    else .ok ⟨leNat (slice bytes 6 6), u16 pay 2, p, (List.range nIn).map (fun i => bytesLanes (slice pay (16 + 16 * i) 16)),
      decide (u8 pay 10 = 1), recs⟩

/-- The port has a link (R307). -/
def Hpo.link (h : Hpo) (port : HostPort) : Bool := match port with
  | .ha => h.linkA
  | .hb => h.linkB

/-- The port is still sending its last Response Frame (R316). -/
def State.sending (s : State) (port : HostPort) : Bool := match port with
  | .ha => decide (s.clk.real < s.hpo.sendA)
  | .hb => decide (s.clk.real < s.hpo.sendB)

/-- The EtherType in use (R331). -/
def State.etherNow (s : State) : Nat := s.hpo.etherOld.getD s.hpo.etherType

/-- What a frame of a length that a port takes is, where it stands on the module's EtherType (R310, R314). -/
def State.judgeFrame (s : State) (bytes : List Byte) : Option FrameCheck :=
  if bytes.length < 64 ∨ bytes.length > 1518 ∨ beNat (slice bytes 12 2) ≠ s.etherNow then none else some (checkFrame s.macBytes bytes)

/-- A Cycle Frame that the module will accept when it comes to it: from the partner, or from the host that becomes it (R314). -/
def State.acceptable (s : State) (port : HostPort) (f : CycleFrame) : Bool :=
  ! s.sending port && decide (s.sup.mode ≠ .parked) && (s.hpo.partner.isNone || decide (s.hpo.partner = some f.mac)) && decide (s.hpo.nc ≠ some f.nc)

/-- A Cycle Frame of the same tick stands behind in the queue, of those that `sel` names (R329, log entry 14). -/
def State.frameWaits (s : State) (sel : HostPort → CycleFrame → Bool) : Bool :=
  s.domOn 3 && s.pending.any (fun c => match c with
    | .cycleFrame port b => s.hpo.link port && (match s.judgeFrame b with
      | some (.ok f) => s.acceptable port f && sel port f
      | _ => false)
    | _ => false)

/-- A frame of the same tick is going to land host-in words. -/
def State.landingWaits (s : State) : Bool := s.frameWaits (fun _ f => decide (f.words.length = s.lotD.slots 5))

/-- On HB: a frame of the partner that ends in the same tick on HA goes first (R329). -/
def State.yields (s : State) (port : HostPort) (f : CycleFrame) : Bool :=
  decide (port = .hb) && (decide (s.hpo.answeredA = some s.clk.real) || s.frameWaits (fun p g => decide (p = .ha ∧ g.mac = f.mac)))

/-! ### The host watchdog (R319) -/

/-- HOST_STALE: t_last + 3.5 P with no landing; one that falls on that very tick wins (R319, R329). -/
def execHostStale (s : State) : Host.Outcome State Fault Refusal :=
  .next (
    if s.clk.now = s.hpo.tLast + 175 * s.hpo.period ∧ s.landingWaits then s
    else if s.hpo.landed ∧ s.hpo.quality = 0 ∧ s.clk.now ≥ s.hpo.tLast + 175 * s.hpo.period then { s with hpo := { s.hpo with quality := 2 } } else s)

/-- HOST_WATCHDOG_EXPIRY: t_last + 10.5 P; a landing on that very tick wins (R319, R329). -/
def execHostWatchdogExpiry (s : State) : Host.Outcome State Fault Refusal :=
  .next (
    if s.clk.now = s.hpo.tLast + 525 * s.hpo.period ∧ s.landingWaits then s
    else if s.hpo.landed ∧ s.clk.now ≥ s.hpo.tLast + 525 * s.hpo.period then
      State.partnerRelease { s with hpo := { s.hpo with quality := 3, landed := false } }
    else s)

/-! ### The Response Frame (R313, R315, R317, R322) -/

/-- A record towards the host. -/
def recBytes (type tag addr : Nat) (body : List Byte) : List Byte :=
  leBytes 1 type ++ leBytes 1 tag ++ leBytes 2 body.length ++ leBytes 4 addr ++ body ++ List.replicate (padded body.length - body.length) 0

/-- A final answer as a record. -/
def Reply.bytes (r : Reply) (tag addr : Nat) : List Byte :=
  match r with
  | .data b => recBytes 0x20 tag addr b
  | .done => recBytes 0x21 tag addr []
  | .abort c => recBytes 0x23 tag addr (leBytes 4 c)

/-- PENDING. -/
def pendingBytes (q : Rec0) : List Byte := recBytes 0x22 q.tag q.addr []

/-- The answer that fits into `room` bytes: a BLOCK READ is shortened, to not less than 16 data bytes (R322), but not that of the health
report, which is read only whole (R442). -/
def fitAnswer (q : Rec0) (r : Reply) (room : Nat) : Option (List Byte) :=
  let b := r.bytes q.tag q.addr
  if b.length ≤ room then some b
  else match r with
  | .data d =>
    if q.type = recBlockRead ∧ addrIndex q.addr ≠ 0x2800 ∧ room ≥ 32 then some (recBytes 0x20 q.tag q.addr (d.take (8 + (room - 16) / 4 * 4))) else none
  | _ => none

/-- Answers in the making: their bytes, their number, the records that stay. -/
structure Answers where
  bytes : List Byte := []
  count : Nat := 0
  rest : List Outst := []
  /-- The records that get their final answer in this frame, with its bytes. -/
  sent : List (Rec0 × List Byte) := []
deriving DecidableEq, Repr

/-- The records behind one that still need their first answer: each keeps the room of a PENDING (R322). -/
def owedFirst (l : List Outst) : Nat := (l.filter (fun o => ! o.first)).length

/-- One record's place in a Response Frame: its final answer, its first PENDING, or nothing (R322). -/
def Answers.add (room : Nat) (a : Answers) (o : Outst) : Answers :=
  let left := room - a.bytes.length
  let stay : Answers := { a with rest := a.rest ++ [o] }
  let pend : Answers :=
    if o.first ∨ left < 8 then stay
    else { a with
           bytes := a.bytes ++ pendingBytes o.rec0, count := a.count + 1,
           rest := if o.echo ∧ o.final.isNone then a.rest else a.rest ++ [{ o with first := true }] }
  if a.count ≥ 16 then stay
  else match o.final with
  | none => pend
  | some r => match fitAnswer o.rec0 r left with
    | some b => { bytes := a.bytes ++ b, count := a.count + 1, rest := a.rest, sent := a.sent ++ [(o.rec0, b)] }
    | none => pend

/-- The answers in execution order (R322). -/
def Answers.addAll (room : Nat) : Answers → List Outst → Answers
  | a, [] => a
  | a, o :: l => (a.add (room - 8 * owedFirst l) o).addAll room l

/-- The header of a Response Frame, 24 bytes. -/
def State.responseHead (s : State) (nc flags tick nOut count : Nat) : List Byte :=
  [2#8, 1#8] ++ leBytes 2 nc ++ leBytes 1 s.sup.mode.code ++ leBytes 1 s.cpl.role.code ++ leBytes 1 (s.sup.firstCause.getD 255)
  ++ leBytes 1 flags ++ leBytes 8 tick ++ leBytes 4 (if s.lot.active.isSome then s.lotD.fingerprint else 0) ++ leBytes 1 nOut
  ++ leBytes 1 count ++ [0, 0]

/-- The word bound with a type to a slot. -/
def Lot.slotWord (l : Lot) (type slot : Nat) : Option Nat :=
  ((List.range 2048).filter (fun w => decide (w ≥ 16) && decide (l.bType w = type))).find? (fun w => decide (l.bParam w = slot))

/-- The host-out image: the committed view at the freeze tick; an unbound slot is 0 with tag 0x03 (R317). -/
def State.hostOut (s : State) : List Cell :=
  (List.range (s.lotD.slots 6)).map (fun i => match s.lotD.slotWord 6 i with
    | some w => s.view w
    | none => ⟨0, 3, 0⟩)

/-- Tags with their fill, then words. -/
def outBytes (cs : List Cell) : List Byte :=
  cs.map (fun c => BitVec.ofNat 8 c.tag.toNat) ++ List.replicate (padded cs.length - cs.length) 0 ++ cs.flatMap (fun c => laneBytes c.val)

/-- A Response Frame goes out on a port (R310, R315): start, its end, the frame. -/
def State.respond (s : State) (port : HostPort) (dst : Nat) (nc : Nat) (pay : List Byte) : State :=
  let body := pay ++ leBytes 4 (linkCheck s.macBytes nc pay)
  let frame := withFcs (ethFrame (leBytes 6 dst) s.macBytes s.etherNow body)
  let start := 960 + Config.responseStart s.fresh % 2041
  let ends := s.clk.real + (start + 80 * (8 + frame.length) + 19) / 20
  let s1 := s.tick
  { s1 with hpo := { s1.hpo with
      respStart := start, respMax := max s1.hpo.respMax start, response := frame,
      responsePort := match port with
        | .ha => 1
        | .hb => 2,
      sendA := match port with
        | .ha => ends
        | .hb => s1.hpo.sendA,
      sendB := match port with
        | .ha => s1.hpo.sendB
        | .hb => ends } }

/-! ### The accepted Cycle Frame -/

/-- Host-in words land, with the tag 0x30 (R318). -/
def State.landHost (s : State) (words : List Lanes) (period : Nat) : State :=
  let s1 := ((List.range words.length).zip words).foldl (fun (a : State) e => match a.lotD.slotWord 5 e.1 with
    | some w => a.land w ⟨e.2, 0x30, 0⟩
    | none => a) s
  { s1 with hpo := { s1.hpo with landed := true, tLast := s.clk.now, period := period, quality := 0 } }

/-- A record of a Cycle Frame is queued, or only answered (R322, R323). -/
def Hpo.accept (h : Hpo) (q : Rec0) : Hpo :=
  let echo (r : Option Reply) : Hpo := { h with out := h.out ++ [{ rec0 := q, final := r, echo := true }] }
  match h.firstCheck q with
  | .new => { h with out := h.out ++ [{ rec0 := q }] }
  | .again r => echo r
  | .refused c => echo (some (.abort c))

/-- The answers that were held for a MAC address (R330) come first in the next Response Frame to it. -/
def Hpo.heldFor (h : Hpo) (mac : Nat) : List (List Byte) := (h.parked.filter (fun e => decide (e.1 = mac))).map (·.2)
def Hpo.dropHeld (h : Hpo) (mac : Nat) : Hpo := { h with parked := h.parked.filter (fun e => decide (e.1 ≠ mac)) }

/-- A frame of the partner, or of the host that becomes it (R308, R314, R315, R317, R318, R322). -/
def State.acceptFrame (s : State) (port : HostPort) (f : CycleFrame) : State :=
  let gap := match s.hpo.nc with
    | some n => decide (f.nc ≠ (n + 1) % 65536)
    | none => false
  let lands := decide (f.words.length = s.lotD.slots 5)
  let cells := s.hostOut
  let image := outBytes cells
  let held := s.hpo.heldFor f.mac
  let pre : Answers := { bytes := held.flatten, count := held.length }
  let ans := pre.addAll (1500 - 28 - image.length) s.hpo.out
  let flags := bit (! ans.rest.isEmpty || ! f.recs.isEmpty) + 2 * bit gap + 4 * bit (! lands)
  let pay := s.responseHead f.nc flags s.clk.now cells.length ans.count ++ image ++ ans.bytes
  let s1 : State := { s with hpo := { s.hpo.dropHeld f.mac with
    partner := some f.mac, nc := some f.nc, seq := f.nc, accepted := (s.hpo.accepted + 1) % 2 ^ 32, out := ans.rest,
    gaps := if gap then (s.hpo.gaps + 1) % 2 ^ 32 else s.hpo.gaps,
    active := match port with
      | .ha => 1
      | .hb => 2,
    answeredA := match port with
      | .ha => some s.clk.real
      | .hb => s.hpo.answeredA } }
  let s2 := ans.sent.foldl (fun (a : State) e => a.sent e.1 (slice e.2 8 (u16 e.2 2))) (s1.respond port f.mac f.nc pay).etherSettle
  let s3 := if lands then s2.landHost f.words f.period else s2
  let s4 : State := { s3 with hpo := f.recs.foldl Hpo.accept s3.hpo }
  let s5 := if s4.clk.running then s4.tmuCapture (fun t => decide (t.source = 0x500)) s4.clk.now else s4
  if f.release then s5.partnerRelease else s5

/-- A frame of another host while a partner is bound: a Response Frame with one BUSY record (R309). -/
def State.busyFrame (s : State) (port : HostPort) (f : CycleFrame) : State :=
  let rec_ := recBytes 0x24 0 0 (leBytes 1 s.hpo.active ++ [0] ++ leBytes 6 (s.hpo.partner.getD 0))
  let pay := s.responseHead f.nc (bit (! s.hpo.out.isEmpty) + 4) s.clk.now 0 1 ++ rec_
  State.respond { s with hpo := { s.hpo with busy := (s.hpo.busy + 1) % 2 ^ 32 } } port f.mac f.nc pay

/-- The answer to a record in Parked (R330); `wakes` says that a WAKE wakes the module: after PFS it does not (R55, R63). -/
def parkedAnswer (wakes : Bool) (q : Rec0) : List Byte :=
  (if q.type ≠ recWake then Reply.abort 0x0F000401 else if wakes then Reply.done else Reply.abort 0x0F000201).bytes q.tag q.addr

/-- A frame in Parked (R330): state 8, no host-out word, T_s; its records are answered in the next Response Frame to the same
address, and a WAKE wakes the module. -/
def State.parkedFrame (s : State) (port : HostPort) (f : CycleFrame) : State :=
  let held := s.hpo.heldFor f.mac
  let pay := s.responseHead f.nc (bit (! f.recs.isEmpty) + 4) s.clk.parkStop 0 held.length ++ held.flatten
  let h := s.hpo.dropHeld f.mac
  let s1 : State := { s with hpo := { h with
    accepted := (h.accepted + 1) % 2 ^ 32, seq := f.nc, parked := h.parked ++ f.recs.map (fun q => (f.mac, parkedAnswer (decide (s.sup.pfsOrder = 0)) q)) } }
  let s2 := s1.respond port f.mac f.nc pay
  if s.sup.pfsOrder = 0 ∧ f.recs.any (fun q => decide (q.type = recWake)) then
    s2.tick.wakeUp (Config.slowTicks s2.fresh) (Config.retained s2.fresh)
  else s2

/-- A frame on the EtherType that is discarded (R314). -/
def State.discardFrame (s : State) (link : Bool) : State :=
  { s with hpo := { s.hpo with
    discarded := (s.hpo.discarded + 1) % 2 ^ 32, linkFails := if link then (s.hpo.linkFails + 1) % 2 ^ 32 else s.hpo.linkFails } }

/-- CYCLE_FRAME (R307 to R318): a frame from the destination address to the FCS comes in on a port with a link. A frame on the
EtherType behind an IEEE 802.1Q tag is discarded and counted (log entry 43). -/
def execCycleFrame (port : HostPort) (bytes : List Byte) (s : State) : Host.Outcome State Fault Refusal :=
  .next (
    if ! s.domOn 3 ∨ ! s.hpo.link port then s
    else match s.judgeFrame bytes with
    | none =>
      if 64 ≤ bytes.length ∧ bytes.length ≤ 1518 ∧ beNat (slice bytes 12 2) = 0x8100 ∧ beNat (slice bytes 16 2) = s.etherNow then s.discardFrame false
      else s
    | some .bad => s.discardFrame false
    | some .badLink => s.discardFrame true
    | some (.ok f) =>
      if s.sending port then s.discardFrame false
      else if s.sup.mode = .parked then s.parkedFrame port f
      else if s.hpo.partner.isSome ∧ s.hpo.partner ≠ some f.mac then s.busyFrame port f
      else if s.hpo.nc = some f.nc ∨ s.yields port f then s.discardFrame false
      else s.acceptFrame port f)

end Sys2Proof.Machine
end

