-- ==== Sys2Proof/Machine/Trunk.lean ====
section
/-! DEFINITION. The commands of the trunk: cycle starts, returning frames, station watchdogs (chapter 15). -/

namespace Sys2Proof.Machine

/-- The module masters the trunk: Solo, or the Active of a pair (R348, R406). -/
def State.masters (s : State) : Bool := decide (s.cplRole = .solo ∨ s.cplRole = .active)

/-- What the input slot at offset `o` of a payload holds for station e: none a placeholder, some none a failure, some some the
accepted quality and data (R365). -/
def judgeSlot (p : List Byte) (o : Nat) (e : StEntry) (seq : Nat) : Option (Option (Nat × Nat)) :=
  let at_ := u16 p o
  let lq := u8 p (o + 3)
  let n := e.len
  let data := slice p (o + 4) n
  let q := field lq 6 5
  if at_ / 4096 = 14 then none
  else some (
    if at_ = e.addr + 4096 ∧ field lq 4 0 = n ∧ u8 p (o + 2) = seq ∧ ! bitOf lq 7 ∧ (q = 0 ∨ q = 3)
        ∧ slice p (o + e.slot - 4) 4 = recordCrc e.conn e.addr seq (slice p o 4) data then
      some (q, leNat data)
    else none)

/-- One station's slot of a kept copy (R365, R366). A slot that no longer holds its PLACEHOLDER has been served, which tells in a
wrapped copy how far it came (R369). -/
def State.takeSlot (s : State) (p : List Byte) (o : Nat) (e : StEntry) (seq : Nat) (tb wrapped : Bool) : State :=
  let v := s.st e.addr
  let r := judgeSlot p o e seq
  let acc : Option (Nat × Nat × Nat) := match r with
    | some (some x) => some (x.1, x.2, s.clk.now)
    | _ => none
  let v1 : Station := { v with crc := if r = some none then v.crc + 1 else v.crc }
  let v2 : Station := if tb then { v1 with judgedB := true, copyB := acc } else { v1 with judgedA := true, copyA := acc }
  let s1 := s.setSt e.addr v2
  let s2 := if wrapped ∧ r.isSome then
      (if tb then { s1 with trk := { s1.trk with loB := if s1.trk.loB = 0 then e.addr + 1 else min s1.trk.loB (e.addr + 1) } }
       else { s1 with trk := { s1.trk with hiA := max s1.trk.hiA (e.addr + 1) } })
    else s1
  if v2.judgedA && v2.judgedB then s2.decideStation e seq else s2

/-- The master takes a copy that returns on a port, `bytes` from the destination to the FCS (R365). -/
def State.takeCopy (s : State) (port : TrunkPort) (bytes : List Byte) : State :=
  match s.trk.cycle with
  | none => s
  | some c =>
    let body := bytes.take (bytes.length - 4)
    let p := body.drop 14
    let fl := u8 p 2
    let tb := bitOf fl 0
    let wrapped := bitOf fl 1
    let j := u16 p 8
    let fs := s.lotD.frames
    let rightPort : Bool := match port with
      | .ta => tb != wrapped
      | .tb => tb == wrapped
    if s.trk.running ∧ s.masters ∧ s.domOn 4 ∧ bytes.length ≥ 64 ∧ bytes.drop (bytes.length - 4) = leBytes 4 (crc32 body).toNat
        ∧ slice body 0 6 = trunkDst ∧ slice body 12 2 = [0x88#8, 0xB5#8]
        ∧ u8 p 0 = 0x11 ∧ u8 p 1 = 1 ∧ fl < 4 ∧ u8 p 3 = 0 ∧ u16 p 14 = 0 ∧ u32 p 4 = c ∧ j < fs.length ∧ rightPort
        ∧ (if tb then s.trk.backB else s.trk.backA).get 0 j = 0 then
      let mark := if wrapped then 2 else 1
      let s1 := { s with trk := { s.trk with
        backA := if tb then s.trk.backA else s.trk.backA.set 0 j mark,
        backB := if tb then s.trk.backB.set 0 j mark else s.trk.backB,
        wrapped := s.trk.wrapped || wrapped } }
      ((fs.getD j []).foldl (fun (a : State × Nat) e =>
        let o := a.2 + (if e.out = 0 then 0 else e.slot)
        (a.1.takeSlot p o e (c % 256) tb wrapped, o + e.slot)) (s1, 16)).1
    else s

/-- A pair module that is not Active forwards a frame out of its other port as a station without slots would: the FCS recomputed, or the
complement of the correct one where it came wrong; without a link on the other port it sends the frame back WRAPPED (R354, R356, R358,
R406). -/
def State.relayFrame (s : State) (port : TrunkPort) (bytes : List Byte) : State :=
  let body := bytes.take (bytes.length - 4)
  let good := decide (bytes.drop (bytes.length - 4) = leBytes 4 (crc32 body).toNat)
  let (here, onward, link) := match port with
    | .ta => (1, 2, s.trk.linkB)
    | .tb => (2, 1, s.trk.linkA)
  let out := if link then body else body.take 16 ++ [body.getD 16 0 ||| 2#8] ++ body.drop 17
  let fcs := if good then crc32 out else ~~~ (crc32 out)
  { s with trk := { s.trk with relayed := some (if link then onward else here, out ++ leBytes 4 fcs.toNat) } }

/-- The port has a link. -/
def Trk.link (t : Trk) (port : TrunkPort) : Bool := match port with
  | .ta => t.linkA
  | .tb => t.linkB

/-- TRUNK_FRAME (R365, R406): a copy returns to the master; another module of a pair forwards it. -/
def execTrunkFrame (port : TrunkPort) (bytes : List Byte) (s : State) : Host.Outcome State Fault Refusal :=
  .next (
    if s.masters then s.takeCopy port bytes
    else if s.lotD.pair ∧ s.lotD.hasTrunk ∧ s.domOn 4 ∧ s.trk.link port ∧ bytes.length ≥ 64 then s.relayFrame port bytes
    else s)

/-- The copies that return at this very tick and wait in the queue behind the present command: their landings count for the cycle that is
ending, and win over a watchdog expiry (R368, log entry 14). -/
def State.copiesNow (s : State) : State :=
  s.pending.foldl (fun (a : State) c => match c with
    | .trunkFrame p b => a.takeCopy p b
    | _ => a) s

/-- TRUNK_CYCLE_START (R349, R364, R367): on the epoch grid the previous cycle ends, and while TRK is on the frames of the next
one are built and sent. -/
def execTrunkCycleStart (s : State) : Host.Outcome State Fault Refusal :=
  .next (
    if s.cycleTick ∧ s.masters ∧ s.trk.cycle ≠ some s.cycleNow then
      let s1 := s.copiesNow.endCycle
      State.trunkSend { s1 with trk := { s1.trk with cycle := some s.cycleNow, sent := [], sentB := [] } } s.cycleNow
    else s)

/-- A record of station a lands at this very tick: by a copy that waits in the queue, or with the end of the cycle. -/
def State.landsNow (s : State) (a : Nat) : Bool :=
  let t := s.copiesNow
  let u := if s.pending.any (fun c => decide (c = .trunkCycleStart)) ∧ s.cycleTick ∧ s.trk.cycle ≠ some s.cycleNow then t.endCycle else t
  decide ((u.st a).landed > (s.st a).landed)

/-- STATION_WATCHDOG_EXPIRY (R367, R368): at the first multiple of 500 ticks at or after the last receive stamp plus the watchdog, unless
a record of the station lands at that tick. -/
def execStationWatchdogExpiry (a : Fin 4096) (s : State) : Host.Outcome State Fault Refusal :=
  .next (
    match s.lotD.station a with
    | none => s
    | some e =>
      let v := s.st a
      let due := (v.stamp + e.wd * msTicks + 499) / 500 * 500
      if s.trk.running ∧ s.clk.running ∧ v.quality ≠ 3 ∧ s.clk.now ≥ due ∧ ! (decide (s.clk.now = due) && s.landsNow a) then
        ((s.setSt a { v with quality := 3, image := 0, expiries := v.expiries + 1 }).mlog (0x5000 + a.val) 0x11 2 0 3).judgeGap e
      else s)

end Sys2Proof.Machine
end

