-- ==== Sys2Proof/Machine/Dispatch.lean ====
section
/-! DEFINITION. The dispatch: one arm for each command of spec/opcode_table.json, in the table's order. -/

namespace Sys2Proof.Machine

def exec (i : Instr) (s : State) : Host.Outcome State Fault Refusal :=
  match i with
  | .powerOn input aonMv boot => Sys2Proof.Machine.execPowerOn input aonMv boot s
  | .startUpBistComplete seed rcCount slowCount found otp => Sys2Proof.Machine.execStartUpBistComplete seed rcCount slowCount found otp s
  | .strapReread straps => Sys2Proof.Machine.execStrapReread straps s
  | .nrst lowNs boot => Sys2Proof.Machine.execNrst lowNs boot s
  | .interruption input power => Sys2Proof.Machine.execInterruption input power s
  | .pfw bulkV => Sys2Proof.Machine.execPfw bulkV s
  | .pfs bulkV => Sys2Proof.Machine.execPfs bulkV s
  | .stagingFlushComplete => Sys2Proof.Machine.execStagingFlushComplete s
  | .domainsOff => Sys2Proof.Machine.execDomainsOff s
  | .pfsRestart input boot => Sys2Proof.Machine.execPfsRestart input boot s
  | .aonLoss bulkV => Sys2Proof.Machine.execAonLoss bulkV s
  | .mainsReturn input => Sys2Proof.Machine.execMainsReturn input s
  | .pfwClear bulkV => Sys2Proof.Machine.execPfwClear bulkV s
  | .aonRailFault mv => Sys2Proof.Machine.execAonRailFault mv s
  | .railFault d core => Sys2Proof.Machine.execRailFault d core s
  | .domainRestart d => Sys2Proof.Machine.execDomainRestart d s
  | .trimWindow => Sys2Proof.Machine.execTrimWindow s
  | .usOverloadOff => Sys2Proof.Machine.execUsOverloadOff s
  | .usRetry => Sys2Proof.Machine.execUsRetry s
  | .lfWarning g mv => Sys2Proof.Machine.execLfWarning g mv s
  | .lfCutOff g mv => Sys2Proof.Machine.execLfCutOff g mv s
  | .lfGoodQualified g mv => Sys2Proof.Machine.execLfGoodQualified g mv s
  | .configure => Sys2Proof.Machine.execConfigure s
  | .validate => Sys2Proof.Machine.execValidate s
  | .acceptanceComplete faults => Sys2Proof.Machine.execAcceptanceComplete faults s
  | .confirmation value => Sys2Proof.Machine.execConfirmation value s
  | .confirmationTimeout => Sys2Proof.Machine.execConfirmationTimeout s
  | .run => Sys2Proof.Machine.execRun s
  | .commission => Sys2Proof.Machine.execCommission s
  | .park count1 count2 => Sys2Proof.Machine.execPark count1 count2 s
  | .parkedEntry => Sys2Proof.Machine.execParkedEntry s
  | .replay => Sys2Proof.Machine.execReplay s
  | .endReplay => Sys2Proof.Machine.execEndReplay s
  | .halt => Sys2Proof.Machine.execHalt s
  | .leaveHalt => Sys2Proof.Machine.execLeaveHalt s
  | .haltReleaseArmExpiry => Sys2Proof.Machine.execHaltReleaseArmExpiry s
  | .restore => Sys2Proof.Machine.execRestore s
  | .discard => Sys2Proof.Machine.execDiscard s
  | .reset boot => Sys2Proof.Machine.execReset boot s
  | .wakeDelayExpiry slowTicks retained => Sys2Proof.Machine.execWakeDelayExpiry slowTicks retained s
  | .wakeInputChange n mv1 mv2 slowTicks retained => Sys2Proof.Machine.execWakeInputChange n mv1 mv2 slowTicks retained s
  | .parkedHalt cause rail slowTicks => Sys2Proof.Machine.execParkedHalt cause rail slowTicks s
  | .partitionRelease p => Sys2Proof.Machine.execPartitionRelease p s
  | .passResume p => Sys2Proof.Machine.execPassResume p s
  | .lut f => Sys2Proof.Machine.execLut f s
  | .latch f => Sys2Proof.Machine.execLatch f s
  | .edge f => Sys2Proof.Machine.execEdge f s
  | .timer f => Sys2Proof.Machine.execTimer f s
  | .equiv f => Sys2Proof.Machine.execEquiv f s
  | .tagset f => Sys2Proof.Machine.execTagset f s
  | .barrier f => Sys2Proof.Machine.execBarrier f s
  | .nop f => Sys2Proof.Machine.execNop f s
  | .commitGate => Sys2Proof.Machine.execCommitGate s
  | .watchdogExpiry => Sys2Proof.Machine.execWatchdogExpiry s
  | .bistSlice kind finding rate => Sys2Proof.Machine.execBistSlice kind finding rate s
  | .localisationComplete found => Sys2Proof.Machine.execLocalisationComplete found s
  | .timeBaseCheck rcCount slowCount => Sys2Proof.Machine.execTimeBaseCheck rcCount slowCount s
  | .otpReread reads => Sys2Proof.Machine.execOtpReread reads s
  | .haltRequest => Sys2Proof.Machine.execHaltRequest s
  | .debugHaltEffect => Sys2Proof.Machine.execDebugHaltEffect s
  | .step fg fo => Sys2Proof.Machine.execStep fg fo s
  | .resume => Sys2Proof.Machine.execResume s
  | .testPulse k => Sys2Proof.Machine.execTestPulse k s
  | .filteredEdge n run => Sys2Proof.Machine.execFilteredEdge n run s
  | .pulseDecision n k rawBefore lowSamples inside => Sys2Proof.Machine.execPulseDecision n k rawBefore lowSamples inside s
  | .sourceFault k ma mv => Sys2Proof.Machine.execSourceFault k ma mv s
  | .sourceRetry k => Sys2Proof.Machine.execSourceRetry k s
  | .proofTimeout n => Sys2Proof.Machine.execProofTimeout n s
  | .discrepancyTimeout p => Sys2Proof.Machine.execDiscrepancyTimeout p s
  | .loopBackTest ok => Sys2Proof.Machine.execLoopBackTest ok s
  | .resetJam src => Sys2Proof.Machine.execResetJam src s
  | .closingCheckEnd g notLow railClosed => Sys2Proof.Machine.execClosingCheckEnd g notLow railClosed s
  | .groupTest g => Sys2Proof.Machine.execGroupTest g s
  | .groupTestDecision g railSeen notLow bled => Sys2Proof.Machine.execGroupTestDecision g railSeen notLow bled s
  | .darkTest src => Sys2Proof.Machine.execDarkTest src s
  | .darkTestDecision src seen bled => Sys2Proof.Machine.execDarkTestDecision src seen bled s
  | .readbackFault n code => Sys2Proof.Machine.execReadbackFault n code s
  | .parallelMismatch g => Sys2Proof.Machine.execParallelMismatch g s
  | .openLoad n => Sys2Proof.Machine.execOpenLoad n s
  | .driverOvertemperature n => Sys2Proof.Machine.execDriverOvertemperature n s
  | .groupOvercurrent g => Sys2Proof.Machine.execGroupOvercurrent g s
  | .groupOpenRetry g railSeen => Sys2Proof.Machine.execGroupOpenRetry g railSeen s
  | .groupCloseRetry g notLow railClosed => Sys2Proof.Machine.execGroupCloseRetry g notLow railClosed s
  | .compareEvent c => Sys2Proof.Machine.execCompareEvent c s
  | .arm c => Sys2Proof.Machine.execArm c s
  | .disarm c => Sys2Proof.Machine.execDisarm c s
  | .clearFlags c => Sys2Proof.Machine.execClearFlags c s
  | .softwareCapture c => Sys2Proof.Machine.execSoftwareCapture c s
  | .targetWrite c target => Sys2Proof.Machine.execTargetWrite c target s
  | .periodWrite c period => Sys2Proof.Machine.execPeriodWrite c period s
  | .captureValueRead c meets => Sys2Proof.Machine.execCaptureValueRead c meets s
  | .nodeWordRead w => Sys2Proof.Machine.execNodeWordRead w s
  | .speedEdge n level stamp heldNs => Sys2Proof.Machine.execSpeedEdge n level stamp heldNs s
  | .motionUpdate => Sys2Proof.Machine.execMotionUpdate s
  | .speedChannelFault n fault => Sys2Proof.Machine.execSpeedChannelFault n fault s
  | .speedLoopBack ok => Sys2Proof.Machine.execSpeedLoopBack ok s
  | .syncSymbol link carried residenceNs ownNs epoch => Sys2Proof.Machine.execSyncSymbol link carried residenceNs ownNs epoch s
  | .disciplineHoldover => Sys2Proof.Machine.execDisciplineHoldover s
  | .swatchRequest t => Sys2Proof.Machine.execSwatchRequest t s
  | .swatchLatch => Sys2Proof.Machine.execSwatchLatch s
  | .swatchGatherTimeout records => Sys2Proof.Machine.execSwatchGatherTimeout records s
  | .aaqConversion e raw value => Sys2Proof.Machine.execAaqConversion e raw value s
  | .cycleFrame port bytes => Sys2Proof.Machine.execCycleFrame port bytes s
  | .hostStale => Sys2Proof.Machine.execHostStale s
  | .hostWatchdogExpiry => Sys2Proof.Machine.execHostWatchdogExpiry s
  | .read tag addr => Sys2Proof.Machine.execRead tag addr s
  | .write tag addr body => Sys2Proof.Machine.execWrite tag addr body s
  | .beatRead tag addr => Sys2Proof.Machine.execBeatRead tag addr s
  | .beatWrite tag addr body => Sys2Proof.Machine.execBeatWrite tag addr body s
  | .beatWriteTimeout => Sys2Proof.Machine.execBeatWriteTimeout s
  | .blockRead tag addr off len => Sys2Proof.Machine.execBlockRead tag addr off len s
  | .blockWrite tag addr off data => Sys2Proof.Machine.execBlockWrite tag addr off data s
  | .wake tag slowTicks retained => Sys2Proof.Machine.execWake tag slowTicks retained s
  | .recordComplete => Sys2Proof.Machine.execRecordComplete s
  | .odWrite index sub value => Sys2Proof.Machine.execOdWrite index sub value s
  | .programData data => Sys2Proof.Machine.execProgramData data s
  | .seal => Sys2Proof.Machine.execSeal s
  | .writeLock r => Sys2Proof.Machine.execWriteLock r s
  | .readLock r => Sys2Proof.Machine.execReadLock r s
  | .otpProgramComplete readBack fuses => Sys2Proof.Machine.execOtpProgramComplete readBack fuses s
  | .fuseRepair => Sys2Proof.Machine.execFuseRepair s
  | .fuseRepairComplete readBacks => Sys2Proof.Machine.execFuseRepairComplete readBacks s
  | .init n => Sys2Proof.Machine.execInit n s
  | .finalise n => Sys2Proof.Machine.execFinalise n s
  | .dataIn n v => Sys2Proof.Machine.execDataIn n v s
  | .runningValueWrite n v => Sys2Proof.Machine.execRunningValueWrite n v s
  | .freezeCommand => Sys2Proof.Machine.execFreezeCommand s
  | .episodePostTriggerEnd => Sys2Proof.Machine.execEpisodePostTriggerEnd s
  | .exportSelect e => Sys2Proof.Machine.execExportSelect e s
  | .entrySelect seq => Sys2Proof.Machine.execEntrySelect seq s
  | .meterWindowEnd => Sys2Proof.Machine.execMeterWindowEnd s
  | .burstBudgetRefill => Sys2Proof.Machine.execBurstBudgetRefill s
  | .nandPageWrite => Sys2Proof.Machine.execNandPageWrite s
  | .trunkCycleStart => Sys2Proof.Machine.execTrunkCycleStart s
  | .trunkFrame port bytes => Sys2Proof.Machine.execTrunkFrame port bytes s
  | .stationWatchdogExpiry a => Sys2Proof.Machine.execStationWatchdogExpiry a s
  | .words bytes => Sys2Proof.Machine.execWords bytes s
  | .keepalive bytes => Sys2Proof.Machine.execKeepalive bytes s
  | .cascadeSourceTimeout m => Sys2Proof.Machine.execCascadeSourceTimeout m s
  | .ringLatencyMeasure ns => Sys2Proof.Machine.execRingLatencyMeasure ns s
  | .crossLinkTraining ownNonce peerNonce answer => Sys2Proof.Machine.execCrossLinkTraining ownNonce peerNonce answer s
  | .crossLinkDown badChecks => Sys2Proof.Machine.execCrossLinkDown badChecks s
  | .image bytes => Sys2Proof.Machine.execImage bytes s
  | .result bytes => Sys2Proof.Machine.execResult bytes s
  | .status bytes => Sys2Proof.Machine.execStatus bytes s
  | .fullImage bytes => Sys2Proof.Machine.execFullImage bytes s
  | .pairWords bytes => Sys2Proof.Machine.execPairWords bytes s
  | .controlHalt via p wop => Sys2Proof.Machine.execControlHalt via p wop s
  | .stepResume via isResume fg fo => Sys2Proof.Machine.execStepResume via isResume fg fo s
  | .controlSwatch via id tLow => Sys2Proof.Machine.execControlSwatch via id tLow s
  | .controlCommand via code boundary => Sys2Proof.Machine.execControlCommand via code boundary s
  | .controlPark via t0 count1 count2 wakeDelay => Sys2Proof.Machine.execControlPark via t0 count1 count2 wakeDelay s
  | .parkAnswer via code => Sys2Proof.Machine.execParkAnswer via code s
  | .abandonPark via => Sys2Proof.Machine.execAbandonPark via s
  | .disagreement via p seq => Sys2Proof.Machine.execDisagreement via p seq s
  | .resyncRequest via => Sys2Proof.Machine.execResyncRequest via s
  | .resyncStart via ts => Sys2Proof.Machine.execResyncStart via ts s
  | .ownBandChange samples => Sys2Proof.Machine.execOwnBandChange samples s
  | .roleDecisionTimeout => Sys2Proof.Machine.execRoleDecisionTimeout s
  | .tripPulled samples => Sys2Proof.Machine.execTripPulled samples s
  | .tripOpenWire ua => Sys2Proof.Machine.execTripOpenWire ua s
  | .auxContactUpdate => Sys2Proof.Machine.execAuxContactUpdate s
  | .interruptionEnd => Sys2Proof.Machine.execInterruptionEnd s
  | .tripPullEnd => Sys2Proof.Machine.execTripPullEnd s
  | .crossLinkRoundTrip ns => Sys2Proof.Machine.execCrossLinkRoundTrip ns s
  | .syncSymbolSend => Sys2Proof.Machine.execSyncSymbolSend s
  | .keepaliveSend => Sys2Proof.Machine.execKeepaliveSend s
  | .statusSend => Sys2Proof.Machine.execStatusSend s
  | .beatLatchLapse => Sys2Proof.Machine.execBeatLatchLapse s
  | .portLinkChange port up => Sys2Proof.Machine.execPortLinkChange port up s
  | .jtagSession active => Sys2Proof.Machine.execJtagSession active s
  | .sensorPulse n lowSamples => Sys2Proof.Machine.execSensorPulse n lowSamples s
  | .chatterClear n => Sys2Proof.Machine.execChatterClear n s
  | .sourceFaultClear k => Sys2Proof.Machine.execSourceFaultClear k s
  | .readbackChange pins rails lf => Sys2Proof.Machine.execReadbackChange pins rails lf s
  | .healthReportRebuild => Sys2Proof.Machine.execHealthReportRebuild s
  | .heldOnCommandApply n => Sys2Proof.Machine.execHeldOnCommandApply n s
  | .railReadbackFault g => Sys2Proof.Machine.execRailReadbackFault g s

end Sys2Proof.Machine
end

