-- ==== Sys2Proof/Safety.lean ====
section
/-! DEFINITION. What counts as a safe run of the block, in the terms that the statements use: what a command leaves alone, which
changes of state the spec lists, what a one-time-programmable word keeps, when outputs are driven. -/

namespace Sys2Proof.Machine

/-! ### Frames -/

/-- The blocks of the state. -/
inductive Block where
  | clk | pwr | sup | lot | nmt | sle | sin | sout | tmu | aaq | hpo | trk | otp | bist | cvus | cpl | rcr | log | fresh | pending
deriving DecidableEq, Repr

/-- Block b is the same in both states. -/
def Block.same (b : Block) (s t : State) : Prop :=
  match b with
  | .clk => t.clk = s.clk
  | .pwr => t.pwr = s.pwr
  | .sup => t.sup = s.sup
  | .lot => t.lot = s.lot
  | .nmt => t.nmt = s.nmt
  | .sle => t.sle = s.sle
  | .sin => t.sin = s.sin
  | .sout => t.sout = s.sout
  | .tmu => t.tmu = s.tmu
  | .aaq => t.aaq = s.aaq
  | .hpo => t.hpo = s.hpo
  | .trk => t.trk = s.trk
  | .otp => t.otp = s.otp
  | .bist => t.bist = s.bist
  | .cvus => t.cvus = s.cvus
  | .cpl => t.cpl = s.cpl
  | .rcr => t.rcr = s.rcr
  | .log => t.log = s.log
  | .fresh => t.fresh = s.fresh
  | .pending => t.pending = s.pending

/-- From s to t nothing outside the named blocks changes. -/
def State.changesOnly (bs : List Block) (s t : State) : Prop := ∀ b : Block, b ∉ bs → b.same s t

/-- From s to t records land: nothing outside the named blocks changes, but for what a repair changes that waits for a landing (R439). -/
def State.landsOnly (bs : List Block) (s t : State) : Prop :=
  s.changesOnly (bs ++ [.nmt, .bist, .log, .hpo]) t ∧ (s.bist.wanted = [] → s.changesOnly bs t)

/-! ### Operating states (R60) -/

/-- The changes of state of Table: State transitions. Off to Safe Halt is Boot followed by a cause before the start-up BIST
(R79). -/
def listed (a b : Mode) : Bool :=
  match a, b with
  | .off, .boot => true
  | .off, .safeHalt => true
  | .boot, .validating => true
  | .boot, .unconfigured => true
  | .unconfigured, .configuring => true
  | .unconfigured, .validating => true
  | .configuring, .validating => true
  | .configuring, .unconfigured => true
  | .validating, .configuring => true
  | .validating, .unconfigured => true
  | .validating, .commissioning => true
  | .validating, .run => true
  | .commissioning, .configuring => true
  | .commissioning, .run => true
  | .commissioning, .parked => true
  | .commissioning, .replay => true
  | .run, .commissioning => true
  | .run, .parked => true
  | .parked, .commissioning => true
  | .parked, .run => true
  | .replay, .commissioning => true
  | a, .safeHalt => decide (a ≠ .off)
  | a, .boot => decide (a ≠ .off)
  | _, .off => true
  | _, _ => false

/-- The module parked from Commissioning or Run, or has never parked. -/
def State.parkedFromOk (s : State) : Prop :=
  s.sup.parkedFrom = none ∨ s.sup.parkedFrom = some .commissioning ∨ s.sup.parkedFrom = some .run

/-! ### Outputs (R200, R224) -/

/-- No output switch is on. -/
def State.outputsOff (s : State) : Prop := ∀ n, n < 16 → s.switchOn s.cplRole n = false

/-- Safe Halt as R79 and R80 describe it: a first cause is recorded, and the drive is removed. -/
def State.haltSafe (s : State) : Prop := s.sup.mode = .safeHalt → s.sup.firstCause ≠ none ∧ s.sup.driveRemoved = true

/-- The group switches of t are open where they may have been closed in s: the exits of Commissioning and Run open them, and in the
other states they stay as they are (R224). -/
def State.groupsHeld (s t : State) : Prop :=
  ((s.sup.mode = .commissioning ∨ s.sup.mode = .run) → ∀ g, g < 2 → (t.grp g).state ≠ .closed ∧ (t.grp g).state ≠ .closing) ∧
  (s.sup.mode ≠ .commissioning → s.sup.mode ≠ .run → ∀ g, t.grp g = s.grp g)

/-- Safe Halt has been entered from s with cause c (R79, R80, R224): the cause is recorded, drive is removed, nothing waits, no
attempt is open, no output switch is on; the group switches are held, and lot and words stay, but for a halt from Validating, after which no
lot is active and both groups are UNUSED (R172, R207; log entry 34). -/
def State.halted (c : Nat) (s t : State) : Prop :=
  t.sup.mode = .safeHalt ∧ t.sup.firstCause = some c ∧ t.sup.causes = BitVec.ofNat 32 (2 ^ c) ∧ t.sup.haltFrom = some s.sup.mode ∧
  t.sup.driveRemoved = true ∧ t.sup.pend = .none ∧ t.sup.cmd = none ∧ t.sle.cur = none ∧ (∀ p, (t.part p).phase = .idle) ∧ t.outputsOff ∧
  (s.sup.mode ≠ .validating → s.groupsHeld t ∧ t.lot = s.lot ∧ t.nmt = s.nmt) ∧
  (s.sup.mode = .validating → t.lot = { s.lot with active := none } ∧ ∀ g, g < 2 → (t.grp g).state = .unused)

/-! ### Reset edges (R234) -/

/-- The pin of channel n has read one voltage at the m samples behind the latest one, none of them blanked, and the filter takes the fall
that they make as a reset edge (R173, R234). -/
def State.edgeFalls (s : State) (n mv m : Nat) : Prop :=
  let c := s.chan n
  let from_ := c.sampledAt / 250 * 250
  let full := 20 * s.lotD.chFilter n
  s.chanLive n = true ∧ s.atSample = true ∧ s.sup.mode ≠ .parked ∧ s.clk.now / 250 = c.sampledAt / 250 + m ∧ c.f = true ∧
  inputLevel n c.raw mv = false ∧ c.count < full ∧ full ≤ c.count + m ∧ (∀ i, i < m → s.blanked n (from_ + 250 * (i + 1)) = false) ∧
  s.edgeAccepted n (from_ + 250 * (full - c.count)) false = true

/-- Now is a release instant of the partition that writes W8, and it has been released there already: the module's boundary at which a
group's release of this very tick takes effect (R157). -/
def State.w8Boundary (s : State) : Bool :=
  match s.lotD.inUse.find? (fun p => s.lotD.pWrites p 8) with
  | some p => s.released && s.isInstant p && decide (s.instantK p < (s.part p).relK)
  | none => false

/-! ### WOPs of the ground pass by lanes (R105, R106, R111, R114) -/

/-- Lane l of an operand of partition p (R105). -/
def State.opLane (s : State) (p : Nat) (o : Operand) (l : Nat) : Bool :=
  (s.curWord p .ground o.addr).val.getLsbD ((l + o.rot) % 128) != o.inv

/-- The table index of lane l: a + 2 b + 4 c + 8 d (R106), and a + 2 b + 4 c of LATCH. -/
def State.lutIndex3 (s : State) (p : Nat) (w : Wop) (l : Nat) : Nat :=
  (s.opLane p w.a l).toNat + 2 * (s.opLane p w.b l).toNat + 4 * (s.opLane p w.c l).toNat
def State.lutIndex (s : State) (p : Nat) (w : Wop) (l : Nat) : Nat := s.lutIndex3 p w l + 8 * (s.opLane p w.d l).toNat

/-- The table result of lane l. -/
def State.lutLane (s : State) (p : Nat) (w : Wop) (l : Nat) : Bool := w.lut.getLsbD (s.lutIndex p w l)

/-- The masked lanes of a WOP, ascending. -/
def State.maskedLanes (s : State) (w : Wop) : List Nat := (List.range 128).filter (fun l => (s.lotD.mask w.mask).getLsbD l)

/-- The release is the first one as partition p sees it (W5.2). -/
def State.firstSeen (s : State) (p : Nat) : Bool := (s.plane .ground p 5).val.getLsbD 2

/-- What R111 gives for lane l of a WOP of class LUT, LATCH, EDGE, EQUIV or TAGSET. -/
def State.wopLane (s : State) (p : Nat) (w : Wop) (l : Nat) : Bool :=
  let x := s.lutLane p w l
  match w.cls with
  | 1 =>
    let set := w.lut.getLsbD (s.lutIndex3 p w l)
    let reset := w.lut.getLsbD (8 + s.lutIndex3 p w l)
    let q := (s.curWord p .ground w.dest).val.getLsbD l
    if w.auxBit 8 then set || (q && ! reset) else (set || q) && ! reset
  | 2 =>
    let h := (s.curWord p .ground (w.dest + 1)).val.getLsbD l
    if w.auxBit 10 && s.firstSeen p then false
    else match field w.aux 1 0 with
      | 0 => x && ! h
      | 1 => h && ! x
      | _ => x != h
  | 4 =>
    if w.auxBit 8 then (s.maskedLanes w).any (s.lutLane p w) else (s.maskedLanes w).all (s.lutLane p w)
  | 5 =>
    let g := if w.auxBit 11 then tagQ (s.curWord p .ground w.b.addr).tag
      else ((List.range 4).filter w.depends).foldl (fun a j => max a (tagQ (s.curWord p .ground (w.opnd j).addr).tag)) 0
    if field w.aux 1 0 ≠ 0 ∧ field w.aux 1 0 ≤ g then w.auxBit 10 else x
  | _ => x

/-- Lane l is written: a masked lane, or for EQUIV with target 1 the lowest masked lane (R108, R114). -/
def State.wopWrites (s : State) (w : Wop) (l : Nat) : Bool :=
  if w.cls = 4 ∧ w.auxBit 9 then decide ((s.maskedLanes w).head? = some l) else (s.lotD.mask w.mask).getLsbD l

/-- WOP i of partition p is the next one of the running ground pass, and it is w. -/
def State.groundNext (s : State) (p i : Nat) (w : Wop) : Prop :=
  s.sle.cur = some p ∧ (s.part p).phase = .passes ∧ (s.part p).gi = i ∧ i < s.lotD.pCount p ∧ s.sle.dbg = {} ∧
  w = s.lotD.wop (s.lotD.pFirst p + i)

/-! ### The two passes (R126, R129, R133, R138) -/

/-- The lane timer t as a pass of partition p sees it: its working copy, at the slot of the partition's key in the overdye pass, else the
committed state (R133). -/
def State.timerNow (s : State) (p : Nat) (ps : Pass) (t : Nat) : TCell :=
  match ps with
  | .ground => ((s.part p).timG.get none t).getD (s.timer .ground t)
  | .overdye => ((s.part p).timO.get none (timerSlot (s.part p).key t)).getD (s.timer .overdye t)

/-- The words that a WOP names lie in the node space, DEST + 1 of an EDGE with them (R81, R104, R113). -/
def Wop.inSpace (w : Wop) : Prop :=
  w.a.addr < 2048 ∧ w.b.addr < 2048 ∧ w.c.addr < 2048 ∧ w.d.addr < 2048 ∧ w.dest < 2048 ∧ (w.cls = 2 → w.dest < 2047)

/-- What the overdye pass of partition p sees is the image of what its ground pass sees: every word of the node space transformed under its own
key, with the same tag; every lane timer mirrored; the same words and timers written so far; the same first release; equal
signatures. -/
def State.mirrored (s : State) (p : Nat) : Prop :=
  (∀ w, w < 2048 → (s.curWord p .overdye w).val = dye (s.curWord p .overdye w).key (s.curWord p .ground w).val ∧
        (s.curWord p .overdye w).tag = (s.curWord p .ground w).tag) ∧
  (∀ w, ((s.part p).workG.get none w).isSome = ((s.part p).workO.get none w).isSome) ∧
  (∀ t, (s.timerNow p .overdye t).e = timerMax - (s.timerNow p .ground t).e ∧
        (s.timerNow p .overdye t).p = ! (s.timerNow p .ground t).p) ∧
  plainOf .overdye (s.plane .overdye p 5) = plainOf .ground (s.plane .ground p 5) ∧
  (s.part p).soC = (s.part p).sgC ∧ (s.part p).soI = (s.part p).sgI

/-! ### Start-up (R22 to R24, R66, R67, R256) -/

/-- Boot has come from s as far as the start-up BIST: counted, straps decoded, the ten domains on but for those that a rail fault holds
off until the next power cycle, the time base from 0, no lot active, no output on; what a non-volatile store and the OTP hold is kept: the
words of regions 0 and 1 are what step 3 reads, the other regions are still to be read. -/
def State.booted (s : State) (boot : BootRead) (t : State) : Prop :=
  t.sup.mode = .boot ∧ t.sup.bistRunning = true ∧ t.sup.bootCount = (s.sup.bootCount + 1) % 2 ^ 32 ∧
  t.sup.straps = strapDecode boot.straps ∧ t.sup.firstCause = none ∧ t.sup.driveRemoved = true ∧
  t.clk.running = t.domOn 0 ∧ t.clk.now = 0 ∧
  (∀ d, d < 10 → (s.dom d).state ≠ .fault → (s.dom d).state ≠ .locked → t.domOn d = true) ∧
  (∀ d, d < 10 → s.sup.mode ≠ .off → (s.dom d).state = .fault ∨ (s.dom d).state = .locked → (t.dom d).state = (s.dom d).state) ∧
  t.outputsOff ∧ t.lot.active = none ∧ t.lot.stored = s.lot.stored ∧
  (∀ a, (t.otpWord a).fuses = (s.otpWord a).fuses) ∧ (∀ a, 64 ≤ a → t.otpWord a = s.otpWord a) ∧
  (∀ a, a < 64 → s.beingBurnt a = false →
    t.otpWord a = (s.otpWord a).taken (otpCritical (a / 32) (a % 32)) (s.readingOf boot.otp a)) ∧
  (∀ r rd, 2 ≤ r → t.lockFuses r rd = s.lockFuses r rd) ∧ t.otp.readOwed = true ∧
  t.hpo.etherType = s.hpo.etherType ∧ t.hpo.portEnable = s.hpo.portEnable ∧ t.nmt = {} ∧ t.sle = {} ∧ t.sin = {} ∧ t.sout = {} ∧ t.tmu = {} ∧ t.aaq = {} ∧ t.trk = {}

/-- Boot has ended in Safe Halt before its step 5 (R24, R67, R79): of the domains CPU and HST alone are on, with cause 8 none. -/
def State.haltedEarly (c : Nat) (s t : State) : Prop :=
  t.sup.mode = .safeHalt ∧ t.sup.firstCause = some c ∧ t.sup.causes = BitVec.ofNat 32 (2 ^ c) ∧
  t.sup.bootCount = (s.sup.bootCount + 1) % 2 ^ 32 ∧
  (c ≠ 8 → (s.dom 2).state ≠ .fault → (s.dom 2).state ≠ .locked → t.domOn 2 = true) ∧
  (∀ d, d < 10 → t.domOn d = true → c ≠ 8 ∧ (d = 2 ∨ d = 3)) ∧ t.outputsOff

/-- The command begins Boot, with what Boot reads (R32, R36, R60, R83): POWER_ON with the input at its start threshold and the AON rail
within 3.20 to 3.40 V, PFS_RESTART after step 6 of the power-fail order, NRST of 10 us or more, RESET where no boundary is to come. -/
def State.beginsBoot (s : State) (c : Instr) (boot : BootRead) : Prop :=
  (∃ input mv, c = .powerOn input mv boot ∧ s.sup.mode = .off ∧ s.sup.pfsOrder ≠ 3 ∧ mainsStart input = true ∧ 3200 ≤ mv ∧ mv ≤ 3400) ∨
  (∃ input, c = .pfsRestart input boot ∧ s.sup.mode = .off ∧ s.sup.pfsOrder = 3 ∧ mainsStart input = true) ∨
  (∃ ns, c = .nrst ns boot ∧ s.sup.mode ≠ .off ∧ s.sup.pfsOrder = 0 ∧ 10000 ≤ ns) ∨
  (c = .reset boot ∧ s.domOn 2 = true ∧ s.sup.mode ≠ .off ∧ s.sup.mode ≠ .run ∧ s.sup.pfsOrder = 0 ∧ s.hasBoundary = false)

/-! ### The log (R344) -/

/-- t's log is s's with one entry at its end, whose number is the next. -/
def State.logged (s t : State) (index sub severity item value : Nat) : Prop :=
  t.log.seq = (s.log.seq + 1) % 2 ^ 32 ∧
  t.log.entries.getLast? = some ⟨(s.log.seq + 1) % 2 ^ 32, if s.domOn 0 then s.clk.now else 0, s.sup.bootCount, index, sub, severity,
    item, value⟩

/-- Of the host port's state, nothing but the generations of the content differs (R325). -/
def State.hpoGens (s t : State) : Prop := t.hpo = { s.hpo with gens := t.hpo.gens }

/-! ### One-time-programmable memory (R410) -/

/-- A word that is being programmed is not written yet, and it is none of the entries that fuse repair alone writes (R410, R425). -/
def State.otpPending (s : State) : Prop :=
  ∀ a d, s.otp.job = some (.word a d) → (s.otpWord a).written = false ∧ ¬ (192 < a ∧ a < 223)

/-- Every word that is written in s keeps its fuses in t and stays written; no lock fuse that is blown in s is whole in t. -/
def State.otpKept (s t : State) : Prop :=
  (∀ a, (s.otpWord a).written = true → (t.otpWord a).written = true ∧ (t.otpWord a).fuses = (s.otpWord a).fuses) ∧
  (∀ r rd i, bitOf (s.lockFuses r rd) i = true → bitOf (t.lockFuses r rd) i = true)

/-! ### Records and frames of the host port (R314, R322, R323) -/

/-- A record with this tag is executed at once: HST is on, the module is not parked, no record is outstanding, no answer to the tag
is kept. -/
def State.recordFree (s : State) (tag : Byte) : Prop :=
  s.domOn 3 = true ∧ s.sup.mode ≠ .parked ∧ s.hpo.out = [] ∧ ∀ k, k ∈ s.hpo.kept → k.tag ≠ tag.toNat

/-- A record has had its final answer, which is kept; none is outstanding. -/
def State.answered (t : State) (type : Nat) (tag : Byte) (addr : BitVec 32) (r : Reply) : Prop :=
  t.hpo.reply = some r ∧ t.hpo.out = [] ∧ t.hpo.kept.getLast? = some ⟨tag.toNat, type, addr.toNat, r⟩

/-- A frame on the module's EtherType comes in on a port that has a link and that sends nothing. -/
def State.frameComes (s : State) (port : HostPort) (bytes : List Byte) : Prop :=
  s.domOn 3 = true ∧ s.hpo.link port = true ∧ 64 ≤ bytes.length ∧ bytes.length ≤ 1518 ∧
  beNat (slice bytes 12 2) = s.hpo.etherOld.getD s.hpo.etherType ∧ s.sending port = false

/-! ### Trunk copies (R365) -/

/-- A copy of frame j of the present cycle comes back on a port on which its direction may come back, for the first time, with FCS,
header and length as R365 asks; tb: it was sent on TB; wrapped: the ring is open. -/
def State.copyComes (s : State) (port : TrunkPort) (bytes : List Byte) (c j : Nat) (tb wrapped : Bool) : Prop :=
  let body := bytes.take (bytes.length - 4)
  let p := body.drop 14
  s.trk.cycle = some c ∧ s.trk.running = true ∧ (s.cplRole = .solo ∨ s.cplRole = .active) ∧ s.domOn 4 = true ∧ 64 ≤ bytes.length ∧
  bytes.drop (bytes.length - 4) = leBytes 4 (crc32 body).toNat ∧ slice body 0 6 = trunkDst ∧ slice body 12 2 = [0x88#8, 0xB5#8] ∧
  u8 p 0 = 0x11 ∧ u8 p 1 = 1 ∧ u8 p 2 = (if tb then 1 else 0) + (if wrapped then 2 else 0) ∧ u8 p 3 = 0 ∧ u32 p 4 = c ∧ u16 p 8 = j ∧
  u16 p 14 = 0 ∧ j < s.lotD.frames.length ∧
  (port = .ta ↔ tb ≠ wrapped) ∧ (if tb then s.trk.backB else s.trk.backA).get 0 j = 0

/-- Station x once its slot of a copy has been judged: the copy of its direction, and its count of failures. -/
def Station.judge (x : Station) (tb : Bool) (acc : Option (Nat × Nat × Nat)) (crc : Nat) : Station :=
  if tb then { x with judgedB := true, copyB := acc, crc := crc } else { x with judgedA := true, copyA := acc, crc := crc }

/-- A cross-link frame comes in over the link that is up, with a right check and length: type, partition, sequence and body (R379). -/
def State.xlGood (s : State) (bytes : List Byte) (type part n : Nat) (body : List Byte) : Prop :=
  s.xlUp = true ∧ 12 ≤ bytes.length ∧ bytes.drop (bytes.length - 4) = xlCheck s.cpl.fold (bytes.take (bytes.length - 4)) ∧
  body = (bytes.take (bytes.length - 4)).drop 8 ∧ u16 bytes 2 = body.length ∧ u8 bytes 0 = type ∧ u8 bytes 1 = part ∧ u32 bytes 4 = n

/-- A CONTROL frame reaches this module: over the cross-link that is up, or over the ring from another member, addressed to this one or to
all (R373, R379). -/
def State.ctlComes (s : State) (via : CtlVia) : Prop :=
  match via with
  | .crossLink => s.xlUp = true
  | .cascade src dst hop _ => s.caOn = true ∧ hop ≠ 0 ∧ src.toNat ≠ s.lotD.member ∧ (dst.toNat = s.lotD.member ∨ dst = 0xFF)

/-- What the coming of a CONTROL frame changes in itself: CPL's state; of the ring also what a frame does whose source is not expected or
is there twice (R376, R377). -/
def ctlBlocks (via : CtlVia) : List Block :=
  match via with
  | .crossLink => [.cpl]
  | .cascade _ _ _ _ => [.cpl, .nmt, .bist, .log, .hpo]

/-- Bytes of a station's slots in a frame. -/
def StEntry.span (e : StEntry) : Nat := if e.out = 0 then e.slot else 2 * e.slot

/-! ### The addressed stores -/

/-- A table whose unlisted numbers all read as d is in canonical form (log entry 73). -/
def Tab.plain {α : Type} [DecidableEq α] (t : Tab α) (d : α) : Bool := t.wf (fun _ => d)

/-- A partition's working copies are in canonical form. -/
def Part.wf (q : Part) : Bool := q.workG.plain none && q.workO.plain none && q.timG.plain none && q.timO.plain none

/-- The lane timer that lies at slot j of the overdye timer memory, under the key stamp of its group (R133). -/
def State.timerAt (s : State) (j : Nat) : Nat := timerSlot (BitVec.ofNat 7 (128 - (s.sle.tmKey.get 0 (j / 128)).toNat)) j

/-- The stores of the engine are in canonical form: the two banks of the node space, the landing buffers, the latch planes, the
working copies of the partitions, the two lane-timer memories. -/
def State.engineWf (s : State) : Bool :=
  s.nmt.comG.wf s.initG && s.nmt.comO.wf s.initO && s.nmt.land.wf (fun w => ⟨0, s.lotD.initTag w, 0⟩)
  && s.nmt.planeG.plain {} && s.nmt.planeO.plain {} && s.nmt.seen.plain none
  && s.sle.parts.plain {} && s.sle.parts.cells.all (fun e => e.2.wf)
  && s.sle.tmG.wf (fun n => timerStart (s.lotD.preset n)) && s.sle.tmO.wf (fun j => timerStartO (s.lotD.preset (s.timerAt j)))
  && s.sle.tmKey.plain 0

/-- The tables of the units are in canonical form: the domains, input channels and pairs, sources, outputs and groups, compare, speed
and motion channels, analog channels and pairs, trunk stations, the modules of a cascade, the partitions of a pair, the check-value units,
the episodes. -/
def State.tablesWf (s : State) : Bool :=
  s.pwr.doms.plain {} && s.sin.chans.plain {} && s.sin.pairs.plain {} && s.sin.srcs.plain {} && s.sout.outs.plain {} && s.sout.grps.plain {}
  && s.tmu.chans.plain {} && s.tmu.speeds.plain {} && s.tmu.spairs.plain {} && s.tmu.motions.plain {} && s.aaq.chans.plain {}
  && s.aaq.pairs.plain {} && s.trk.stations.plain {} && s.cpl.sources.plain {} && s.cpl.parts.plain {} && s.cvus.plain {}
  && s.rcr.episodes.plain {}

/-- The stores of the module are in canonical form: those of the engine, the tables of the units, the fuse array and its locks. -/
def State.memWf (s : State) : Bool :=
  s.engineWf && s.tablesWf && s.otp.words.plain {} && s.otp.wlock.plain 0 && s.otp.rlock.plain 0

end Sys2Proof.Machine
end

