-- ==== Sys2Proof/Certificates/Slice0/Obligations.lean ====
section
/-! DEFINITION. The statements about the model, for the provers: what the block does with every command, what each command leaves
alone, and what every command keeps. A docstring names the rule of spec/ that a statement formalises, and the log entry where it
rests on a choice of the model's. -/

open Sys2Proof Sys2Proof.Machine

/-! ### The machine -/

/-- A step takes the command at the front of the queue and answers what that command does on the state with the rest of the queue.
On an empty queue a tick of 20 ns passes: real time moves on, the time base where it runs, and nothing else changes; a rate correction
gathers until it makes up a tick. That a step with no command is a tick is the model's choice (log entry 2). Rules: R256, R258, R261.
Model choices: log entry 2. -/
def Obligations.StepRunsFront : Prop :=
  (∀ (s : State) (c : Instr) (rest : List Instr), s.pending = c :: rest → step s = exec c { s with pending := rest }) ∧
  (∀ s : State, s.pending = [] → ∃ t, step s = .next t ∧ s.changesOnly [.clk] t ∧
    (s.clk.running = false → t.clk = { s.clk with real := s.clk.real + 1 }) ∧
    (s.clk.running = true → t.clk.now = s.clk.now + 1 ∧
      (s.clk.acc + s.clk.rateCorr < 1000000000 → -1000000000 < s.clk.acc + s.clk.rateCorr →
        t.clk = { s.clk with real := s.clk.real + 1, now := s.clk.now + 1, acc := s.clk.acc + s.clk.rateCorr }) ∧
      (1000000000 ≤ s.clk.acc + s.clk.rateCorr →
        t.clk = { s.clk with now := s.clk.now + 1, acc := s.clk.acc + s.clk.rateCorr - 1000000000 }) ∧
      (s.clk.acc + s.clk.rateCorr ≤ -1000000000 →
        t.clk = { s.clk with real := s.clk.real + 2, now := s.clk.now + 1, acc := s.clk.acc + s.clk.rateCorr + 1000000000 })))

/-- Every command answers a next state, puts no command into the queue and moves no real time. No rule says so: that a command whose
operands or state rule its effect out leaves the state as it is, and that real time moves in a step on an empty queue alone, are the model's
choices. Model choices: log entries 2 and 4. -/
def Obligations.EveryCommandAnswers : Prop :=
  ∀ (c : Instr) (s : State), ∃ t, exec c s = .next t ∧ t.pending = s.pending ∧ t.clk.real = s.clk.real

/-- After reset the module is Off: no cause, no lot, no partition open, every domain off, no output on, drive removed, host words
FAULT; the invariants of the other statements hold. Rules: R38, R60, R65, R80, R156, R331. Model choices: log entry 1, for the
values that the spec does not give. -/
def Obligations.ResetState : Prop :=
  State.reset.sup.mode = .off ∧ State.reset.sup.firstCause = none ∧ State.reset.sup.causes = 0 ∧ State.reset.sup.driveRemoved = true ∧
  State.reset.lot.active = none ∧ State.reset.cpl.role = .solo ∧ State.reset.hpo.etherType = 0x88B6 ∧ State.reset.hpo.quality = 3 ∧
  (∀ d, State.reset.domOn d = false) ∧ (∀ p, (State.reset.part p).phase = .idle) ∧ (∀ w, (State.reset.comG w).val = 0) ∧
  State.reset.outputsOff ∧ State.reset.pending = [] ∧
  State.reset.parkedFromOk ∧ State.reset.haltSafe ∧ State.reset.otpPending ∧ State.reset.memWf = true

/-- The operating state changes only as Table: State transitions lists, and a module parks from Commissioning or Run alone. Rules:
R60, R52. Model choices: log entry 16, for Boot as one command. -/
def Obligations.TransitionsListed : Prop :=
  ∀ (c : Instr) (s t : State), s.parkedFromOk → exec c s = .next t →
    (t.sup.mode = s.sup.mode ∨ listed s.sup.mode t.sup.mode = true) ∧ t.parkedFromOk

/-- A written OTP word keeps its fuses and stays written, and a blown lock fuse stays blown, whatever is commanded. Rules: R410,
R417. -/
def Obligations.OtpWrittenOnce : Prop :=
  ∀ (c : Instr) (s t : State), s.otpPending → exec c s = .next t → t.otpPending ∧ s.otpKept t

/-- In Safe Halt a first cause stands and drive is removed, so that no output switch is on: every command keeps it. Rules: R79,
R80, R200. -/
def Obligations.SafeHaltHoldsOutputsOff : Prop :=
  ∀ (c : Instr) (s t : State), s.haltSafe → exec c s = .next t → t.haltSafe ∧ (t.sup.mode = .safeHalt → t.outputsOff)

/-- Every command keeps the addressed stores in canonical form: the node banks, landing buffers, latch planes, working copies and lane
timers, the tables of the channels, sources, outputs, stations and the other units, and the fuse array with its locks. Rules: R85, R94,
R95, R120, R409, R417. Model choices: log entry 73, the canonical form. -/
def Obligations.StoresStayCanonical : Prop :=
  ∀ (c : Instr) (s t : State), s.memWf = true → exec c s = .next t → t.memWf = true

/-! ### Power and boot -/

/-- POWER_ON, PFS_RESTART, NRST of 10 us or more, and RESET where it need not wait for a boundary, begin Boot, which comes as far as the
start-up BIST, or ends in Safe Halt before it switches ENG on: with cause 8 where the AON rail leaves its window, with cause 12 where
region 0 or 1 does not deliver, with cause 7 where the straps decode invalid. Rules: R24, R37, R39, R60, R66, R67, R79, R83, R256, R422.
Model choices: log entries 1 and 16. -/
def Obligations.BootBegins : Prop :=
  ∀ (s : State) (boot : BootRead) (c : Instr), s.beginsBoot c boot →
    ∃ t, exec c s = .next t ∧ t.pending = s.pending ∧
      (boot.aonMv < 3100 ∨ 3500 < boot.aonMv → s.haltedEarly 8 t) ∧
      (3100 ≤ boot.aonMv → boot.aonMv ≤ 3500 →
        ((s.bootOtp boot.otp).otpDelivered = false → s.haltedEarly 12 t) ∧
        ((s.bootOtp boot.otp).otpDelivered = true → (strapDecode boot.straps).addr = none → s.haltedEarly 7 t) ∧
        ((s.bootOtp boot.otp).otpDelivered = true → (strapDecode boot.straps).addr ≠ none → s.booted boot t))

/-- STRAP_REREAD counts readings in a row that differ from Boot's decode or are invalid; the second one enters Safe Halt with cause 7, and
is one more cause in Safe Halt. An nRST low pulse below 1 us has no effect, one below 10 us resets in full or not at all; in Off nRST
and the straps change nothing. Rules: R24, R80, R83. Model choices: log entries 3 and 38. -/
def Obligations.BootStops : Prop :=
  (∀ (s : State) (straps : Straps), s.sup.mode ≠ .off →
    let differs := (strapDecode straps).addr = none ∨ strapDecode straps ≠ s.sup.straps
    (¬ differs → ∃ t, exec (.strapReread straps) s = .next t ∧ t.sup = { s.sup with strapBad := 0 } ∧ s.changesOnly [.sup] t) ∧
    (differs → s.sup.strapBad = 0 ∨ s.sup.mode = .parked →
      ∃ t, exec (.strapReread straps) s = .next t ∧ t.sup = { s.sup with strapBad := s.sup.strapBad + 1 } ∧ s.changesOnly [.sup] t) ∧
    (differs → 1 ≤ s.sup.strapBad → s.sup.mode ≠ .parked → s.sup.mode ≠ .safeHalt → s.sup.pfsOrder = 0 →
      ∃ t, exec (.strapReread straps) s = .next t ∧ s.halted 7 t ∧ t.sup.strapBad = s.sup.strapBad + 1) ∧
    (differs → 1 ≤ s.sup.strapBad → s.sup.mode = .safeHalt →
      ∃ t, exec (.strapReread straps) s = .next t ∧ t.sup.mode = .safeHalt ∧ t.sup.causes = s.sup.causes ||| 0x80 ∧
        t.sup.strapBad = s.sup.strapBad + 1)) ∧
  (∀ (s : State) (straps : Straps), s.sup.mode = .off → exec (.strapReread straps) s = .next s) ∧
  (∀ (s : State) (ns : Nat) (boot : BootRead),
    (ns < 1000 ∨ s.sup.mode = .off ∨ s.sup.pfsOrder ≠ 0 → exec (.nrst ns boot) s = .next s) ∧
    (1000 ≤ ns → ns < 10000 → s.sup.mode ≠ .off → s.sup.pfsOrder = 0 → ∃ t, exec (.nrst ns boot) s = .next t ∧
      (t = s.tick ∨ exec (.nrst 10000 boot) s.tick = .next t)))

/-- The end of the start-up BIST: the reference count is kept, the key generator is seeded (a seed of 0 gives 1), the rest of the OTP is
read, US and the test sources go on; a pass goes on to Boot's step 7, a failed test to Safe Halt with cause 5. Rules: R66, R68, R127, R413,
R435, R436. Model choices: log entries 16, 62 and 71. -/
def Obligations.StartUpBistEnds : Prop :=
  ∀ (s : State) (seed : BitVec 31) (rc slow : Nat) (f : StartUpFindings) (reads : OtpReads),
    s.sup.mode = .boot → s.sup.bistRunning = true → s.sup.pfsOrder = 0 →
    (900000 ≤ rc → rc ≤ 1100000 → startUpOk f = true → f.faults = [] → s.unitsUp = true →
      ∃ t, exec (.startUpBistComplete seed rc slow f reads) s = .next t ∧
        t.sup.bistRunning = false ∧ t.sup.rcRef = rc ∧ (s.pwr.us = .off → t.pwr.us = .on) ∧
        t.sup.mode = (if s.sup.resumeTo = some .unconfigured ∨ s.lot.stored = [] then .unconfigured else .validating) ∧
        (t.sup.mode = .validating → t.sle.lfsr = (if seed = 0 then 1 else seed) ∧ t.lot.fromStored = true ∧ t.lot.step = 1) ∧
        (t.sup.mode = .unconfigured → t.sle.lfsr = (if seed = 0 then 1 else seed)) ∧
        t.lot.active = s.lot.active ∧ t.lot.stored = s.lot.stored ∧ t.otp.readOwed = false ∧ (∀ a, (t.otpWord a).fuses = (s.otpWord a).fuses) ∧ s.otpKept t ∧
        t.sin.srcOn = true) ∧
    ((startUpOk f = false ∨ rc < 900000 ∨ 1100000 < rc ∨ s.unitsUp = false) →
      ∃ t, exec (.startUpBistComplete seed rc slow f reads) s = .next t ∧
        t.sup.mode = .safeHalt ∧ t.sup.firstCause = some 5 ∧ t.sup.bistRunning = false ∧ t.otp.readOwed = false ∧
        (∀ a, (t.otpWord a).fuses = (s.otpWord a).fuses))

/-- The mains states: INTERRUPTION where the input is below its stop threshold, its end 3 ms after the input has come back, PFW, its end,
and the return of the input write the mains record alone; each change of 0x260B:01 is logged; an interruption outlasts PFW until the input
has been back for 3 ms. 100 ms in current limit US goes to RETRY WAIT; US_RETRY switches it on again 2 s later. Rules: R32, R34, R35, R45,
R484. Model choices: log entries 30 and 62. -/
def Obligations.MainsAndUserSupply : Prop :=
  (∀ s : State,
    (∀ input power, mainsStop input = true → s.sup.mode ≠ .off → s.pwr.present = true → ∃ t, exec (.interruption input power) s = .next t ∧
      t.pwr = { s.pwr with present := false, interr := true, mains := if s.pwr.mains = .normal then .interrupted else s.pwr.mains,
                           preP := power, recharging := false, interruptions := (s.pwr.interruptions + 1) % 2 ^ 32 } ∧
      s.logged t 0x260B 1 1 0 1 ∧ s.hpoGens t ∧ s.changesOnly [.pwr, .log, .hpo] t) ∧
    (∀ input power, mainsStop input = false → exec (.interruption input power) s = .next s) ∧
    (s.pwr.present = true → s.pwr.interr = true → s.pwr.backAt + 3 * msTicks ≤ s.clk.real → ∃ t, exec .interruptionEnd s = .next t ∧
      t.pwr = { s.pwr with interr := false, mains := if s.pwr.mains = .interrupted then .normal else s.pwr.mains } ∧
      (s.pwr.mains = .interrupted → s.logged t 0x260B 1 0 0 0) ∧ (s.pwr.mains ≠ .interrupted → t.log = s.log) ∧
      s.hpoGens t ∧ s.changesOnly [.pwr, .log, .hpo] t) ∧
    (∀ v, s.sup.mode ≠ .off → v < 330 → (s.pwr.mains = .normal ∨ s.pwr.mains = .interrupted) → ∃ t, exec (.pfw v) s = .next t ∧
      t.pwr = { s.pwr with mains := .pfw, bulkV := v } ∧ s.logged t 0x260B 1 1 0 2 ∧ s.hpoGens t ∧
      s.changesOnly [.pwr, .log, .hpo] t) ∧
    (∀ v, s.pwr.mains = .pfw → 360 ≤ v →
      let back := s.pwr.interr = false ∨ (s.pwr.present = true ∧ s.pwr.backAt + 3 * msTicks ≤ s.clk.real)
      ∃ t, exec (.pfwClear v) s = .next t ∧
      (back → t.pwr = { s.pwr with mains := .normal, bulkV := v, recharging := s.pwr.recharging && decide (v < 390) } ∧
        s.logged t 0x260B 1 0 0 0) ∧
      (¬ back → t.pwr = { s.pwr with mains := .interrupted, bulkV := v, recharging := s.pwr.recharging && decide (v < 390) } ∧
        s.logged t 0x260B 1 0 0 1) ∧
      s.hpoGens t ∧ s.changesOnly [.pwr, .log, .hpo] t) ∧
    (∀ input, mainsStart input = true → s.pwr.present = false → ∃ t, exec (.mainsReturn input) s = .next t ∧
      t.pwr = { s.pwr with present := true, backAt := s.clk.real, recharging := decide (s.pwr.mains ≠ .pfs) } ∧ s.changesOnly [.pwr] t)) ∧
  (∀ s : State,
    (s.pwr.us = .limit ∨ (s.pwr.us = .on ∧ s.domOn 9 = false) → s.pwr.usSince + 100 * msTicks ≤ s.clk.real →
      ∃ t, exec .usOverloadOff s = .next t ∧
      t.pwr = { s.pwr with us := .retryWait, usSince := s.clk.real } ∧ s.logged t 0x260A 1 1 0 3 ∧ s.hpoGens t ∧
      s.changesOnly [.pwr, .log, .hpo] t) ∧
    (s.pwr.us = .retryWait → s.pwr.usSince + 2 * sTicks ≤ s.clk.real → ∃ t, exec .usRetry s = .next t ∧
      t.pwr = { s.pwr with us := .on, usSince := s.clk.real } ∧ s.logged t 0x260A 1 0 0 1 ∧ s.hpoGens t ∧
      s.changesOnly [.pwr, .log, .hpo] t))

/-- The power-fail order: at PFS no cycle is committed any more, outputs, group switches, US and the test sources go off, the OWN loop is
held no more, an export read ends, and of a fuse repair one entry is left; then the flush; then the domains, and the module is Off with the AON rail kept; below 100 V it is Off for good. A non-volatile store and the
OTP keep what they hold. Rules: R35, R36, R60, R390, R410, R446, R463. Model choices: log entry 30. -/
def Obligations.PowerFailOrder : Prop :=
  ∀ s : State,
    (∀ v, s.sup.mode ≠ .off → s.sup.pfsOrder = 0 → v < 250 → ∃ t, exec (.pfs v) s = .next t ∧
      t.sup.pfsOrder = 1 ∧ t.sup.mode = s.sup.mode ∧ t.pwr.mains = .pfs ∧ t.pwr.us = .off ∧ t.sle.epoch = none ∧ t.sle.cur = none ∧
      (∀ p, (t.part p).phase = .idle) ∧ t.sup.driveRemoved = true ∧ t.outputsOff ∧
      s.groupsHeld t ∧ (∀ k, k < 8 → (t.src k).state = .off) ∧ t.sup.cmd = none ∧ t.released = false ∧
      t.cpl.ownDrive ≠ .holding ∧ t.cpl.gpark = none ∧ (∀ o, o ∈ t.hpo.out → exportRead o.rec0 = false) ∧
      t.lot = s.lot ∧ t.otp = s.otp ∧ t.nmt = s.nmt ∧ t.bist = { s.bist with fuseLeft := s.bist.fuseLeft.take 1 } ∧ t.trk = s.trk) ∧
    (s.sup.pfsOrder = 1 → ∃ t, exec .stagingFlushComplete s = .next t ∧ t.sup = { s.sup with pfsOrder := 2 } ∧
      (s.domOn 2 = true → t.rcr.total ≤ t.rcr.written) ∧ s.changesOnly [.sup, .rcr, .hpo] t) ∧
    (s.sup.mode ≠ .off → s.sup.pfsOrder = 2 → ∃ t, exec .domainsOff s = .next t ∧ t.sup.mode = .off ∧ t.sup.pfsOrder = 3 ∧
      (∀ d, t.domOn d = false) ∧ t.lot.stored = s.lot.stored ∧ t.otp.words = s.otp.words ∧ t.sup.bootCount = s.sup.bootCount ∧
      t.sup.resume = s.sup.resume ∧ t.log.entries = s.log.entries ∧ t.pending = s.pending) ∧
    (∀ v, v < 100 → ∃ t, exec (.aonLoss v) s = .next t ∧ t.sup.mode = .off ∧ t.sup.pfsOrder = 0 ∧ t.pwr.aonMv = 0 ∧
      (∀ d, t.domOn d = false) ∧ t.lot.stored = s.lot.stored ∧ t.otp.words = s.otp.words ∧ t.sup.bootCount = s.sup.bootCount ∧
      t.log.entries = s.log.entries ∧ t.pending = s.pending)

/-- Rails: an AON reading outside 3.10 to 3.50 V above PFS halts with cause 8; a rail fault of a domain that restarts once takes
that domain to FAULT, and to LOCKED OFF within an hour of the last; any other rail fault halts with cause 11, the ENG core rail
with cause 9. DOMAIN_RESTART switches a domain in FAULT on again 100 ms after its fault, in Parked HST too; a domain LOCKED OFF stays
off. TRIM_WINDOW: the setpoint after a 16 ms window with minimum slack a / b of a period; where it is fixed it is 980 mV; that a window without
a commit leaves 0x2600:12 as it is, is the model's choice. Rules: R37 to R42. Model choices: log entries 31 and 62. -/
def Obligations.RailsAndTrim : Prop :=
  (∀ s : State, s.sup.mode ≠ .off → s.sup.mode ≠ .parked → s.sup.mode ≠ .safeHalt → s.sup.pfsOrder = 0 →
    (∀ mv, (mv < 3100 ∨ 3500 < mv) → ∃ t, exec (.aonRailFault mv) s = .next t ∧ s.halted 8 t ∧
      t.pwr.aonMv = mv ∧ t.otp = s.otp) ∧
    (∀ (d : Fin 10) core, s.domOn d = true → s.restartsOnce d = false → ∃ t, exec (.railFault d core) s = .next t ∧
      s.halted (if d.val = 0 ∧ core = true then 9 else 11) t ∧ (t.dom d).state = .fault ∧
      (t.dom d).faults = ((s.dom d).faults + 1) % 2 ^ 32 ∧ (t.dom d).lastFault = s.clk.now ∧
      (∀ e, e ≠ d.val → t.dom e = s.dom e) ∧ t.otp = s.otp)) ∧
  (∀ (s : State) (d : Fin 10) (core : Bool), s.sup.mode ≠ .off → s.domOn d = true → s.restartsOnce d = true →
    ∃ t, exec (.railFault d core) s = .next t ∧
      t.sup.mode = s.sup.mode ∧ t.sup.causes = s.sup.causes ∧ (∀ e, e ≠ d.val → t.dom e = s.dom e) ∧
      t.dom d = { s.dom d with mv := 0, faults := ((s.dom d).faults + 1) % 2 ^ 32, lastFault := s.clk.now,
                               restartAt := some s.clk.real,
                               state := match (s.dom d).restartAt with
                                 | some r => if s.clk.real - r ≤ 3600 * sTicks then .locked else .fault
                                 | none => .fault } ∧
      t.lot = s.lot ∧ s.otpKept t ∧ t.sle = s.sle ∧ t.sin = s.sin ∧ t.sout = s.sout ∧ t.tmu = s.tmu ∧ t.aaq = s.aaq ∧ t.clk = s.clk) ∧
  (∀ (s : State) (d : Fin 10), s.sup.mode ≠ .off → (s.sup.mode ≠ .parked ∨ d.val = 3) → s.restartsOnce d = true →
    (∀ r, (s.dom d).restartAt = some r → r + 100 * msTicks ≤ s.clk.real → (s.dom d).state = .fault →
      ∃ t, exec (.domainRestart d) s = .next t ∧ t.dom d = { s.dom d with state := .on } ∧ (∀ e, e ≠ d.val → t.dom e = s.dom e) ∧
        s.hpoGens t ∧ s.changesOnly [.pwr, .log, .hpo] t) ∧
    ((s.dom d).state = .locked → exec (.domainRestart d) s = .next s)) ∧
  (∀ s : State, s.domOn 0 = true → s.pwr.winStart + 16 * msTicks ≤ s.clk.now →
    ∃ t, exec .trimWindow s = .next t ∧ s.changesOnly [.pwr] t ∧
      t.pwr = { s.pwr with setpoint := t.pwr.setpoint, minSlack := t.pwr.minSlack, winSlack := none, winStart := s.clk.now } ∧
      (s.pwr.winSlack = none → t.pwr.minSlack = s.pwr.minSlack) ∧
      (s.trimFixedNow = true → t.pwr.setpoint = 980) ∧
      (∀ a b, s.pwr.winSlack = some (a, b) → 0 < b → t.pwr.minSlack = 1000 * a / b ∧
        (s.trimFixedNow = false →
          (5 * a < b → t.pwr.setpoint = 980) ∧
          (b ≤ 5 * a → 20 * a < 7 * b → t.pwr.setpoint = min 980 (s.pwr.setpoint + 10)) ∧
          (7 * b ≤ 20 * a → 2 * a ≤ b → t.pwr.setpoint = s.pwr.setpoint) ∧
          (b < 2 * a → t.pwr.setpoint = max 820 (s.pwr.setpoint - 10)))))

/-! ### Operating states -/

/-- A command in a state that Table: State transitions does not list it for is refused with 0x0F00_0201, and nothing else happens;
so are RUN under a JTAG session or without the production flag, CONFIGURE and PARK with an output on, PARK while OTP or fuses are being
programmed, RESTORE without a stored lot, each with its own code, and every command from PFS on. While partitions are released, an
accepted command waits for the next boundary of the module: nothing but the waiting command changes (0x2000:05 shows a pending Replay).
Rules: R52, R60, R62, R63. Model choices: log entry 33, and log entry 63 for the code from PFS on. -/
def Obligations.CommandsJudged : Prop :=
  (∀ s : State, s.domOn 2 = true →
    (s.sup.mode ≠ .unconfigured → s.sup.mode ≠ .commissioning → exec .configure s = .next (s.refuse 0x0F000201)) ∧
    (s.sup.mode ≠ .configuring → exec .validate s = .next (s.refuse 0x0F000201)) ∧
    (s.sup.mode ≠ .configuring → exec .discard s = .next (s.refuse 0x0F000201)) ∧
    (s.sup.mode ≠ .unconfigured → s.sup.mode ≠ .configuring → exec .restore s = .next (s.refuse 0x0F000201)) ∧
    (s.sup.mode ≠ .commissioning → exec .run s = .next (s.refuse 0x0F000201)) ∧
    (s.sup.mode ≠ .run → exec .commission s = .next (s.refuse 0x0F000201)) ∧
    (∀ a b, s.sup.mode ≠ .run → s.sup.mode ≠ .commissioning → exec (.park a b) s = .next (s.refuse 0x0F000201)) ∧
    (s.sup.mode ≠ .commissioning → exec .replay s = .next (s.refuse 0x0F000201)) ∧
    (s.sup.mode ≠ .replay → exec .endReplay s = .next (s.refuse 0x0F000201)) ∧
    (∀ boot, s.sup.mode = .run → exec (.reset boot) s = .next (s.refuse 0x0F000201)) ∧
    (s.sup.mode ≠ .safeHalt → exec .leaveHalt s = .next (s.refuse 0x0F000201)) ∧
    (s.sup.pfsOrder ≠ 0 → ∀ c, c ∈ [Instr.configure, .validate, .discard, .restore, .run, .commission, .replay, .endReplay, .halt,
      .leaveHalt] → exec c s = .next (s.refuse 0x0F000201)) ∧
    (s.sup.pfsOrder = 0 →
      (s.sup.mode = .commissioning → s.cplRole = .solo → s.jtagOn = true → exec .run s = .next (s.refuse 0x0F000204)) ∧
      (s.sup.mode = .commissioning → s.cplRole = .solo → s.jtagOn = false → s.sle.dbg.state = 0 → s.lotD.production = false →
        exec .run s = .next (s.refuse 0x0F000207)) ∧
      (s.sup.mode = .commissioning → s.anyOn = true → exec .configure s = .next (s.refuse 0x0F000203)) ∧
      (∀ a b, s.sup.mode = .run ∨ s.sup.mode = .commissioning → s.cplRole = .solo → s.lotD.cascade = false → s.parkPending = false →
        (s.anyOn = true → exec (.park a b) s = .next (s.refuse 0x0F000210)) ∧
        (s.anyOn = false → (s.otp.job ≠ none ∨ s.fusing = true ∨ s.haltWaits = true) → exec (.park a b) s = .next (s.refuse 0x0F000211))) ∧
      (s.sup.mode = .unconfigured → s.lot.stored = [] → exec .restore s = .next (s.refuse 0x0F000208)))) ∧
  (∀ s : State, s.domOn 2 = true → s.hasBoundary = true → s.atBoundary = false → s.sup.cmd = none →
    (s.cplRole ≠ .active ∨ s.xlUp = false) →
    (s.cmdRefusal { cmd := .configure, tag := none } = none → exec .configure s =
      .next { s with sup := { s.sup with cmd := some { cmd := .configure, tag := none } } }) ∧
    (s.cmdRefusal { cmd := .run, tag := none } = none → exec .run s =
      .next { s with sup := { s.sup with cmd := some { cmd := .run, tag := none } } }) ∧
    (s.cmdRefusal { cmd := .commission, tag := none } = none → exec .commission s =
      .next { s with sup := { s.sup with cmd := some { cmd := .commission, tag := none } } }) ∧
    (∀ a b, s.cmdRefusal { cmd := .park, tag := none, count1 := a, count2 := b } = none → exec (.park a b) s =
      .next { s with sup := { s.sup with cmd := some { cmd := .park, tag := none, count1 := a, count2 := b } } }) ∧
    (s.cmdRefusal { cmd := .replay, tag := none } = none → exec .replay s =
      .next { s with sup := { s.sup with cmd := some { cmd := .replay, tag := none }, pend := .replay } }) ∧
    (s.cmdRefusal { cmd := .endReplay, tag := none } = none → exec .endReplay s =
      .next { s with sup := { s.sup with cmd := some { cmd := .endReplay, tag := none } } }) ∧
    (exec .halt s = .next { s with sup := { s.sup with cmd := some { cmd := .halt, tag := none } } }) ∧
    (∀ boot, s.sup.mode ≠ .run → exec (.reset boot) s =
      .next { s with sup := { s.sup with cmd := some { cmd := .reset, tag := none, boot := boot } } }))

/-- CONFIGURE from Unconfigured, VALIDATE, RESTORE and DISCARD take effect at once: the state, the lot record, the answer DONE; the
stored lot stays, and so does the lot that is applied, until the next exit from Validating. Rules: R60, R62, R65, R172. Model choices: log
entries 22 and 71. -/
def Obligations.LotCommands : Prop :=
  ∀ s : State, s.domOn 2 = true → s.sup.pfsOrder = 0 →
    (s.sup.mode = .unconfigured → s.hasBoundary = false → ∃ t, exec .configure s = .next t ∧
      t.sup = { s.sup with mode := .configuring, modeSince := s.clk.real } ∧
      t.lot = { s.lot with image := [], loaded := none, wrong := 0 } ∧ t.hpo = { s.hpo with reply := some .done } ∧
      s.changesOnly [.sup, .lot, .hpo, .rcr] t) ∧
    (s.sup.mode = .configuring → ∃ t, exec .validate s = .next t ∧
      t.sup = { s.sup with mode := .validating, modeSince := s.clk.real } ∧
      t.lot = { s.lot with loaded := none, step := 1, refusal := 0, item := 0, fromStored := false, wrong := 0 } ∧
      t.hpo = { s.hpo with reply := some .done } ∧ s.changesOnly [.sup, .lot, .hpo, .pwr, .trk, .rcr] t) ∧
    (s.sup.mode = .unconfigured ∨ s.sup.mode = .configuring → s.lot.stored ≠ [] → s.lot.storedInvalid = false →
      ∃ t, exec .restore s = .next t ∧
      t.sup = { s.sup with mode := .validating, modeSince := s.clk.real } ∧
      t.lot = { s.lot with image := [], loaded := none, step := 1, refusal := 0, item := 0, fromStored := true, wrong := 0 } ∧
      t.hpo = { s.hpo with reply := some .done } ∧ s.changesOnly [.sup, .lot, .hpo, .pwr, .trk, .rcr] t) ∧
    (s.sup.mode = .configuring → ∃ t, exec .discard s = .next t ∧
      t.sup = { s.sup with mode := .unconfigured, modeSince := s.clk.real } ∧
      t.lot = { s.lot with image := [], loaded := none } ∧ t.hpo = { s.hpo with reply := some .done } ∧
      s.changesOnly [.sup, .lot, .hpo, .rcr] t)

/-- Steps 0 to 6 of acceptance: a refusal shows its code and item, discards the loaded image or marks the stored lot invalid, and leaves
no lot active; a loaded lot that passes waits at step 7 for its confirmation, a stored one becomes active and the module goes on to the
resume state; a program row that cannot be corrected in the dry run halts with cause 4. Step 7: the right value makes the loaded lot
active and stored and enters Commissioning; a wrong value is refused with 0x0F00_0161 and counted, the third with 0x0F00_0162 ends
acceptance, as 10 min without a value do with 0x0F00_0163. Rules: R60, R61, R74, R76, R102, R142. Model choices: log entries 34 and
39. -/
def Obligations.Acceptance : Prop :=
  let ended (s t : State) (code item : Nat) : Prop :=
    t.lot.refusal = code ∧ t.lot.item = item ∧ t.lot.step = 0 ∧ t.lot.loaded = none ∧ t.lot.active = none ∧
    t.lot.stored = s.lot.stored ∧ t.sle.epoch = none ∧ t.nmt = {} ∧ t.sup.driveRemoved = true ∧ t.outputsOff ∧ s.otpKept t ∧
    (s.lot.fromStored = false → t.sup.mode = .configuring ∧ t.lot.image = [] ∧ t.lot.storedInvalid = s.lot.storedInvalid) ∧
    (s.lot.fromStored = true → t.sup.mode = .unconfigured ∧ t.lot.storedInvalid = true)
  let entered (s t : State) (l : Lot) : Prop :=
    t.sup.driveRemoved = false ∧ t.outputsOff ∧ t.nmt = {} ∧ (∀ p, (t.part p).phase = .idle) ∧
    (l.pair = false → l.cascade = false → t.sle.epoch = some (nextEpoch s.clk.now))
  (∀ (s : State) (faults : List EngineFault), s.sup.mode = .validating → s.lot.step ≠ 7 → s.sup.pfsOrder = 0 →
    let img := if s.lot.fromStored = true then s.lot.stored else s.lot.image
    let l := Lot.ofImage img
    ((∀ e, e ∈ faults → e.fetch.ecc = .clean) → ∃ t, exec (.acceptanceComplete faults) s = .next t ∧
      (∀ st code item, acceptAll img (s.acceptEnv l) faults = some (st, code, item) → ended s t code item) ∧
      (acceptAll img (s.acceptEnv l) faults = none →
        (s.lot.fromStored = false → s.changesOnly [.lot, .cvus] t ∧
          t.lot = { s.lot with loaded := some l, step := 7, wrong := 0, confirmSince := s.clk.real }) ∧
        (s.lot.fromStored = true → t.sup.mode = (if s.sup.resume = 6 then .run else .commissioning) ∧
          t.lot = { s.lot with active := some l, loaded := none, step := 8 } ∧ entered s t l))) ∧
    (∀ e, e ∈ faults → e.fetch.ecc = .uncorrectable → l.pInUse e.part = true → e.wop < l.pCount e.part →
      (∀ x, x ∈ faults → x.fetch.ecc ≠ .corrected) → acceptStatic img (s.acceptEnv l) = none →
      ∃ t, exec (.acceptanceComplete faults) s = .next t ∧ s.halted 4 t)) ∧
  (∀ (s : State) (l : Lot) (v : BitVec 32), s.domOn 2 = true → s.sup.mode = .validating → s.lot.step = 7 → s.lot.loaded = some l →
    s.lot.fromStored = false → s.sup.pfsOrder = 0 →
    (v.toNat = l.fingerprint → ∃ t, exec (.confirmation v) s = .next t ∧ t.sup.mode = .commissioning ∧ t.sup.resume = 5 ∧
      t.lot = { s.lot with active := some l, loaded := none, step := 8, stored := s.lot.image, storedInvalid := false } ∧ entered s t l) ∧
    (v.toNat ≠ l.fingerprint → s.lot.wrong < 2 → ∃ t, exec (.confirmation v) s = .next t ∧
      t.lot = { s.lot with refusal := 0x0F000161, item := 0, wrong := s.lot.wrong + 1 } ∧
      t.hpo.reply = some (.abort 0x0F000161) ∧ s.logged t 0x1F55 2 2 0 0x0F000161 ∧ s.changesOnly [.lot, .log, .hpo] t) ∧
    (v.toNat ≠ l.fingerprint → 2 ≤ s.lot.wrong → ∃ t, exec (.confirmation v) s = .next t ∧ ended s t 0x0F000162 0 ∧
      t.hpo.reply = some (.abort 0x0F000162)) ∧
    (s.lot.confirmSince + 600 * sTicks ≤ s.clk.real → ∃ t, exec .confirmationTimeout s = .next t ∧ ended s t 0x0F000163 0))

/-- The waiting command takes effect at the boundary, and is answered DONE; where no boundary will come, the command itself does
the same at once. RUN and COMMISSION enter their state with both groups cut off, drive present and the watchdog waiting for its
first feed; PARK begins Parked entry; HALT enters Safe Halt with cause 0; CONFIGURE leaves the lot applied, with no output on; RESET
begins Boot. Rules: R51, R52, R60, R63, R64, R83, R147, R172. Model choices: log entry 33. -/
def Obligations.CommandsTakeEffect : Prop :=
  ∀ s : State, s.domOn 2 = true →
    let applied (c : PendCmd) (i : Instr) (P : State → Prop) : Prop :=
      s.cmdRefusal c = none → (s.hasBoundary = false → ∃ t, exec i s = .next t ∧ P t) ∧ P (({ s with sup := { s.sup with cmd := some c } } : State).applyWaiting)
    let running (m : Mode) (t : State) : Prop :=
      t.sup.mode = m ∧ t.sup.resume = (if m = .run then 6 else 5) ∧ t.sup.driveRemoved = false ∧ t.sup.wdRunning = false ∧
      t.sup.wdArmed = false ∧ t.hpo.reply = some .done ∧ t.lot = s.lot ∧ t.nmt = s.nmt ∧ t.sle = s.sle ∧
      (∀ g, g < 2 → (s.grp g).state ≠ .unused → (t.grp g).latch = true ∧ (t.grp g).cause = 1 ∧ (t.grp g).state ≠ .closed ∧
        (t.grp g).state ≠ .closing) ∧
      s.changesOnly [.sup, .sout, .rcr, .hpo, .pwr] t
    (s.sup.cmd = none →
      applied { cmd := .run, tag := none } .run (running .run) ∧
      applied { cmd := .commission, tag := none } .commission (running .commissioning) ∧
      (∀ a b, s.parkGroup = [] → applied { cmd := .park, tag := none, count1 := a, count2 := b } (.park a b) (fun t =>
        t.sup = { s.sup with pend := .parked s.clk.now } ∧ t.clk = { s.clk with rho := (a + b) * 2 ^ 32 / 8192 } ∧
        t.hpo.reply = some .done ∧ s.changesOnly [.sup, .clk, .hpo] t)) ∧
      (s.sup.mode ≠ .safeHalt → applied { cmd := .halt, tag := none } .halt (fun t => s.halted 0 t)) ∧
      applied { cmd := .configure, tag := none } .configure (fun t =>
        t.sup.mode = .configuring ∧ t.lot = { s.lot with image := [], loaded := none, wrong := 0 } ∧
        t.hpo.reply = some .done ∧ (s.sup.mode = .commissioning → (∀ p, (t.part p).phase = .idle) ∧ t.trk.running = false ∧ t.outputsOff)) ∧
      applied { cmd := .replay, tag := none } .replay (fun t =>
        t.sup.mode = .replay ∧ t.sup.pend = .none ∧ t.hpo.reply = some .done ∧ t.sup.wdRunning = false ∧ t.outputsOff ∧ t.lot = s.lot) ∧
      applied { cmd := .endReplay, tag := none } .endReplay (fun t =>
        t.sup.mode = .commissioning ∧ t.hpo.reply = some .done ∧ t.nmt = {} ∧
        (s.lotD.pair = false → s.lotD.cascade = false → t.sle.epoch = some (nextEpoch s.clk.now)) ∧
        (∀ p, (t.part p).phase = .idle) ∧ t.rcr.replay.progress = 0 ∧ t.outputsOff ∧ t.lot = s.lot) ∧
      (∀ boot, 3100 ≤ boot.aonMv → boot.aonMv ≤ 3500 → (s.bootOtp boot.otp).otpDelivered = true → (strapDecode boot.straps).addr ≠ none →
        applied { cmd := .reset, tag := none, boot := boot } (.reset boot) (fun t => s.booted boot t)))

/-- In Safe Halt, HALT and a further cause are recorded and the module stays. LEAVE_HALT: refused with 0x0F00_0205 for a cause that
only a power cycle leaves, with 0x0F00_0206 for one that has not cleared; otherwise armed for 30 s, and released at once where no
lot is active. The arming ends by itself. Rules: R80, R81. Model choices: log entries 35 and 36. -/
def Obligations.SafeHaltCausesAndRelease : Prop :=
  (∀ s : State, s.sup.mode = .safeHalt → s.domOn 2 = true → s.hasBoundary = false → s.sup.pfsOrder = 0 →
    ∃ t, exec .halt s = .next t ∧ t.sup.mode = .safeHalt ∧ t.sup.causes = s.sup.causes ||| 1 ∧ t.sup.pend = .none ∧
      (∀ f, s.sup.firstCause = some f → s.sameInstant = false → t.sup.firstCause = some f) ∧
      (∀ f, s.sup.firstCause = some f → s.sameInstant = true → t.sup.firstCause = some 0) ∧
      s.changesOnly [.sup, .log, .hpo, .rcr] t) ∧
  (∀ s : State, s.domOn 2 = true → s.sup.mode = .safeHalt →
    (s.sup.pfsOrder = 0 → s.sup.causes &&& 0x1BE0#32 ≠ 0 → exec .leaveHalt s = .next (s.refuse 0x0F000205)) ∧
    (∀ c, s.sup.pfsOrder = 0 → s.sup.causes &&& 0x1BE0#32 = 0 → c < 16 → s.sup.causes.getLsbD c = true → s.causeCleared c = false →
      exec .leaveHalt s = .next (s.refuse 0x0F000206)) ∧
    (s.sup.pfsOrder = 0 → s.sup.causes &&& 0x1BE0#32 = 0 →
      (∀ c, c < 16 → s.sup.causes.getLsbD c = true → s.causeCleared c = true) →
      (s.lot.active ≠ none → ∃ t, exec .leaveHalt s = .next t ∧
        t.sup = { s.sup with pend := .armed (s.clk.real + 30 * sTicks) } ∧ t.hpo.reply = some .done ∧
        s.changesOnly [.sup, .log, .hpo] t) ∧
      (s.lot.active = none → ∃ t, exec .leaveHalt s = .next t ∧ t.sup.mode = .boot ∧ t.sup.bistRunning = true ∧
        t.sup.firstCause = none ∧ t.sup.causes = 0 ∧ t.hpo.reply = some .done ∧
        s.changesOnly [.sup, .log, .hpo, .pwr, .trk, .rcr] t)) ∧
    (∀ u, s.sup.pend = .armed u → u ≤ s.clk.real → ∃ t, exec .haltReleaseArmExpiry s = .next t ∧
      t.sup = { s.sup with pend := .none } ∧ s.hpoGens t ∧ s.changesOnly [.sup, .log, .hpo] t))

/-- PARKED_ENTRY, at a boundary 250 ms or more after it began: Parked with the time base stopped, every domain off but HST, NOD and the
banks in sense mode, NOD in RETAIN, no group switch closed; the lot, the committed words and the fuses stay. The wakes: the delay, a wake
input, the host's WAKE. With the lot it parked with and whole retention the module returns to the state it parked from, with the time
made up, on a new epoch where it follows no reference; otherwise it enters Safe Halt with cause 13. A re-read that is due is made with the wake,
and with an UNRELIABLE word of region 0 or 1 enters Safe Halt with cause 12. A cause that arises in Parked enters
Safe Halt with that cause. Rules: R52 to R57, R157, R193, R260, R261, R437. Model choices: log entries 19, 37 and 48. -/
def Obligations.ParkedEntryAndWakes : Prop :=
  (∀ (s : State) (t0 : Nat), s.sup.pend = .parked t0 → s.cpl.gpark = none → (s.sup.mode = .run ∨ s.sup.mode = .commissioning) →
    s.sup.pfsOrder = 0 → t0 + 250 * msTicks ≤ s.clk.now → (s.hasBoundary = false ∨ s.feedInstant = true) →
    ∃ t, exec .parkedEntry s = .next t ∧
      t.sup.mode = .parked ∧ t.sup.pend = .none ∧ t.sup.parkedFrom = some s.sup.mode ∧ t.sup.parkedLot = s.lotD.id ∧
      t.sup.wakeDelayAtStop = s.sup.wakeDelay ∧ t.sup.driveRemoved = true ∧ t.clk.running = false ∧ t.clk.parkStop = s.clk.now ∧
      (t.dom 1).state = .retain ∧ t.domOn 3 = s.domOn 3 ∧
      (∀ d, d < 10 → d ≠ 1 → d ≠ 3 → (d = 6 → s.senseBank 0 = false) → (d = 7 → s.senseBank 1 = false) → t.domOn d = false) ∧
      (∀ b, b < 2 → s.senseBank b = true → t.domOn (6 + b) = s.domOn (6 + b)) ∧
      t.sle.epoch = none ∧ (∀ p, (t.part p).phase = .idle) ∧ t.outputsOff ∧ t.hpo.partner = none ∧
      t.lot = s.lot ∧ t.otp.words = s.otp.words ∧ t.otp.job = s.otp.job ∧ t.nmt.comG = s.nmt.comG ∧ t.nmt.comO = s.nmt.comO ∧
      t.bist.repairs = s.bist.repairs) ∧
  (∀ (s : State) (n : Nat) (c : Instr), s.sup.mode = .parked → s.sup.pfsOrder = 0 → s.parkedFromOk → s.sup.parkedFrom ≠ none →
    (∀ d, d < 10 → (s.dom d).state ≠ .fault ∧ (s.dom d).state ≠ .locked) →
    (∀ r, ((c = .wakeDelayExpiry n r ∧ s.sup.wakeDelayAtStop ≠ 0 ∧ s.sup.wakeDelayAtStop * 32768 ≤ n) ∨
           (∃ (i : Fin 48) (mv1 mv2 : Nat), c = .wakeInputChange i mv1 mv2 n r ∧ s.lotD.chWake i = true ∧
             (let ref := s.sin.wakeRef.getLsbD i.val
              let a := inputLevel i ref mv1
              a ≠ ref ∧ inputLevel i a mv2 ≠ ref)) ∨ (s.hostReach = true ∧ ∃ tag, c = .wake tag n r)) →
      let up := s.unparked none n
      (r = true → s.lotReloads = true → up.wakeFails = true → ∃ t, exec c s = .next t ∧ t.sup.mode = .safeHalt ∧
        t.sup.firstCause = some 12 ∧ t.clk.running = true ∧ t.outputsOff) ∧
      (r = true → s.lotReloads = true → up.wakeFails = false →
        ∃ t, exec c s = .next t ∧ s.sup.parkedFrom = some t.sup.mode ∧ t.clk.running = true ∧
        t.clk.now = s.clk.parkStop + (n * s.clk.rho + 2 ^ 31) / 2 ^ 32 ∧
        (s.lotD.pair = false → s.lotD.cascade = false → t.sle.epoch = some (nextEpoch t.clk.now)) ∧
        (∀ d, d < 10 → t.domOn d = true) ∧ t.nmt.comG = s.nmt.comG ∧ t.nmt.comO = s.nmt.comO ∧ t.lot = s.lot ∧ s.otpKept t ∧
        (up.rereadDue = false → t.otp = s.otp) ∧ t.sup.resume = s.sup.resume ∧ t.outputsOff) ∧
      ((r = false ∨ s.lotReloads = false) → ∃ t, exec c s = .next t ∧ t.sup.mode = .safeHalt ∧ t.sup.firstCause = some 13 ∧
        t.clk.running = true ∧ (s.lotReloads = false → t.lot.active = none) ∧ t.hpo.quality = 3 ∧ t.outputsOff)) ∧
    (∀ (k : Fin 16) (d : Fin 10), k.val ≠ 11 ∨ s.parkedRailOk d = true → ∃ t, exec (.parkedHalt k d n) s = .next t ∧
      t.sup.mode = .safeHalt ∧ t.sup.firstCause = some k.val ∧ t.clk.running = true ∧ (s.lotReloads = false → t.lot.active = none) ∧
      (k.val = 11 → (t.dom d).state = .fault ∧ (t.dom d).faults = ((s.dom d).faults + 1) % 2 ^ 32 ∧ (t.dom d).lastFault = s.clk.now) ∧
      (∀ e, e < 10 → (k.val = 11 → e ≠ d.val) → t.domOn e = true) ∧ t.outputsOff ∧ t.otp = s.otp))

/-! ### The engine and the scheduler -/

/-- A WOP of class LUT, LATCH, EDGE, EQUIV or TAGSET in the ground pass: each written lane of DEST takes what R111 gives, every
other lane and every other word stays; an EDGE WOP writes its input to the same lanes of DEST + 1. Nothing outside the engine
changes, and no word of the overdye bank does. Rules: R105, R106, R108, R111 to R115. Model choices: log entry 6, for the operands. -/
def Obligations.GroundWops : Prop :=
  ∀ (s : State) (p i : Nat) (w : Wop) (c : Instr), s.groundNext p i w →
    (c, w.cls) ∈ [(Instr.lut ⟨.clean, 0⟩, 0), (Instr.latch ⟨.clean, 0⟩, 1), (Instr.edge ⟨.clean, 0⟩, 2),
                  (Instr.equiv ⟨.clean, 0⟩, 4), (Instr.tagset ⟨.clean, 0⟩, 5)] →
    ∃ t, exec c s = .next t ∧ s.changesOnly [.sle] t ∧ (t.part p).gi = i + 1 ∧
      (∀ l, l < 128 → (t.curWord p .ground w.dest).val.getLsbD l =
        (if s.wopWrites w l = true then s.wopLane p w l else (s.curWord p .ground w.dest).val.getLsbD l)) ∧
      (w.cls = 2 → ∀ l, l < 128 → (t.curWord p .ground (w.dest + 1)).val.getLsbD l =
        (if s.wopWrites w l = true then s.lutLane p w l else (s.curWord p .ground (w.dest + 1)).val.getLsbD l)) ∧
      (∀ v, v ≠ w.dest → (w.cls = 2 → v ≠ w.dest + 1) → t.curWord p .ground v = s.curWord p .ground v) ∧
      (∀ v, t.curWord p .overdye v = s.curWord p .overdye v)

/-- A TIMER WOP in the ground pass: each masked lane l advances lane timer 128 g + l with the table result as its input, and writes
the timer's output to lane l of DEST; no other timer and no other word changes. Rules: R105, R119, R120. Model choices: log entry
6. -/
def Obligations.GroundTimer : Prop :=
  ∀ (s : State) (p i : Nat) (w : Wop), s.groundNext p i w → w.cls = 3 →
    let g := field w.aux 5 2
    let r (l : Nat) := timerGround (field w.aux 1 0) (s.lotD.preset (128 * g + l))
      (timerDelta (s.lotD.timerTick (128 * g + l)) (s.part p).stamp (s.part p).prev) (s.lutLane p w l) (s.timerNow p .ground (128 * g + l))
    ∃ t, exec (.timer ⟨.clean, 0⟩) s = .next t ∧ s.changesOnly [.sle] t ∧ (t.part p).gi = i + 1 ∧
      (∀ l, l < 128 → (s.lotD.mask w.mask).getLsbD l = true →
        (t.curWord p .ground w.dest).val.getLsbD l = (r l).2 ∧ t.timerNow p .ground (128 * g + l) = (r l).1) ∧
      (∀ l, l < 128 → (s.lotD.mask w.mask).getLsbD l = false →
        (t.curWord p .ground w.dest).val.getLsbD l = (s.curWord p .ground w.dest).val.getLsbD l) ∧
      (∀ k, (∀ l, l < 128 → (s.lotD.mask w.mask).getLsbD l = true → k ≠ 128 * g + l) → t.timerNow p .ground k = s.timerNow p .ground k) ∧
      (∀ v, v ≠ w.dest → t.curWord p .ground v = s.curWord p .ground v) ∧
      (∀ v, t.curWord p .overdye v = s.curWord p .overdye v)

/-- BARRIER and NOP change no word: the pass goes on by one WOP. A row that the SEC-DED code cannot correct enters Safe Halt with
cause 4 and writes no word. Rules: R102, R116. Model choices: log entry 6. -/
def Obligations.WopsWithoutEffect : Prop :=
  (∀ (s : State) (p i : Nat) (w : Wop) (c : Instr), s.groundNext p i w →
    (c, w.cls) ∈ [(Instr.barrier ⟨.clean, 0⟩, 6), (Instr.nop ⟨.clean, 0⟩, 7)] →
    ∃ t, exec c s = .next t ∧ s.changesOnly [.sle] t ∧ (t.part p).gi = i + 1 ∧
      (∀ ps v, t.curWord p ps v = s.curWord p ps v) ∧ (∀ k, t.timerNow p .ground k = s.timerNow p .ground k)) ∧
  (∀ (s : State) (p i : Nat) (w : Wop) (c : Instr) (x : Lanes), s.groundNext p i w → s.sup.mode ≠ .off → s.sup.mode ≠ .safeHalt →
    s.sup.pfsOrder = 0 →
    (c, w.cls) ∈ [(Instr.lut ⟨.uncorrectable, x⟩, 0), (Instr.latch ⟨.uncorrectable, x⟩, 1), (Instr.edge ⟨.uncorrectable, x⟩, 2),
      (Instr.timer ⟨.uncorrectable, x⟩, 3), (Instr.equiv ⟨.uncorrectable, x⟩, 4), (Instr.tagset ⟨.uncorrectable, x⟩, 5),
      (Instr.barrier ⟨.uncorrectable, x⟩, 6), (Instr.nop ⟨.uncorrectable, x⟩, 7)] →
    ∃ t, exec c s = .next t ∧ s.halted 4 t ∧ (s.sup.mode ≠ .validating → t.sle.tmG = s.sle.tmG ∧ t.sle.tmO = s.sle.tmO))

/-- The overdye pass mirrors the ground pass: where what the two passes of a partition see is mirrored, it is so again after any
WOP has executed in both without a fault of the engine. Rules: R105, R126, R129 to R135, R138. -/
def Obligations.OverdyeMirrorsGround : Prop :=
  ∀ (s : State) (p : Nat) (w : Wop), w.inSpace → s.mirrored p → ((s.doWop p .ground w 0).doWop p .overdye w 0).mirrored p

/-- PARTITION_RELEASE at a release instant of an idle partition: stamp and release instant are now, the key is neither 0 nor the last
committed one, and the plane of each bank holds the landing values of the input-bound words and the committed values of the others, the
overdye one under the key; a due group release takes effect first, and the recorder may write its keyframe. No committed word changes.
At the release instant of the feeding partition the armed feed goes to SUP with its count, and a feed that is missing or out of count is expiry;
the module's boundary is there, at which a waiting command is checked once more and takes effect. A release instant whose previous release
has not committed is a deadline miss. Rules: R63, R91, R95, R127, R146, R156, R157, R164. Model choices: log entries 9, 12 and 20. -/
def Obligations.PartitionRelease : Prop :=
  (∀ (s : State) (p : Fin 16), s.released = true → s.sup.mode ≠ .replay → s.sle.dbg.state < 2 → s.lotD.pInUse p = true →
    s.isInstant p = true → (s.part p).relK ≤ s.instantK p → (s.part p).phase = .idle → s.cplRole = .solo → s.lotD.pair = false →
    s.bist.wanted = [] →
    (s.lotD.feeding = some p.val → s.sup.cmd = none ∧ s.feedMissing = false ∧
      (s.sup.wdRunning = true → (s.sle.feed + 1) % 65536 = (s.sup.wdCount + 1) % 65536)) →
    let b := s.releaseBoundary p
    ∃ t, exec (.partitionRelease p) s = .next t ∧
      (t.part p).stamp = s.clk.now ∧ (t.part p).relAt = s.clk.now ∧ (t.part p).relK = s.instantK p + 1 ∧ (t.part p).attempt = 1 ∧
      ((t.part p).phase = .ready ∨ (t.part p).phase = .passes) ∧
      (t.part p).key ≠ 0 ∧ (t.part p).key ≠ (s.part p).lastKey ∧
      (∀ w, w ∈ s.lotD.latched p → s.lotD.inputBound w = true → w ≠ 5 →
        t.plane .ground p w = { b.landing w with key := 0 } ∧
        t.plane .overdye p w = ⟨dye (t.part p).key (b.landing w).val, (b.landing w).tag, (t.part p).key⟩) ∧
      (∀ w, w ∈ s.lotD.latched p → s.lotD.inputBound w = false →
        t.plane .ground p w = s.comG w ∧ t.plane .overdye p w = (s.comO w).rekey (t.part p).key) ∧
      (t.plane .ground p 5).val = s.w5 (s.part p) ∧
      t.nmt.comG = s.nmt.comG ∧ t.nmt.comO = s.nmt.comO ∧ t.sle.tmG = s.sle.tmG ∧ t.sle.tmO = s.sle.tmO ∧
      (s.lotD.feeding ≠ some p.val ∨ s.sup.wdArmed = false → t.sup = s.sup ∧ t.sle.feed = s.sle.feed) ∧
      (s.lotD.feeding = some p.val → s.sup.wdArmed = true → t.sle.feed = (s.sle.feed + 1) % 65536 ∧
        t.sup = { s.sup with wdRunning := true, wdArmed := false, wdFedAt := s.clk.real, wdCount := (s.sle.feed + 1) % 65536 }) ∧
      t.bist = { s.bist with repairs := s.bist.repairs.map (fun x => x.strobed p) } ∧
      s.changesOnly [.nmt, .sle, .sout, .rcr, .sup, .bist] t) ∧
  (∀ (s : State) (p : Fin 16), s.released = true → s.sle.dbg.state < 2 → s.lotD.pInUse p = true →
    s.isInstant p = true → (s.part p).relK ≤ s.instantK p → s.cplRole = .solo → s.lotD.pair = false →
    let feeds : Prop := s.lotD.feeding = some p.val
    ((s.part p).phase = .idle → feeds →
      (s.feedMissing = true → ∃ t, exec (.partitionRelease p) s = .next t ∧ s.halted 3 t) ∧
      (s.sup.wdRunning = true → s.sup.wdArmed = true → (s.sle.feed + 1) % 65536 ≠ (s.sup.wdCount + 1) % 65536 →
        ∃ t, exec (.partitionRelease p) s = .next t ∧ s.halted 3 t)) ∧
    ((s.part p).phase ≠ .idle → (feeds → s.feedMissing = false) → ∃ t, exec (.partitionRelease p) s = .next t ∧ s.halted 2 t ∧
      t.nmt = s.nmt ∧ t.otp = s.otp) ∧
    ((s.part p).phase ≠ .idle → feeds → s.feedMissing = true → ∃ t, exec (.partitionRelease p) s = .next t ∧ t.sup.mode = .safeHalt ∧
      t.sup.firstCause = some 2 ∧ t.sup.causes.getLsbD 2 = true ∧ t.sup.causes.getLsbD 3 = true ∧ t.nmt = s.nmt)) ∧
  (∀ (s : State) (p : Fin 16) (c : PendCmd), s.released = true → s.sup.mode ≠ .replay → s.sle.dbg.state < 2 → s.lotD.pInUse p = true →
    s.isInstant p = true → (s.part p).relK ≤ s.instantK p → (s.part p).phase = .idle → s.cplRole = .solo → s.lotD.pair = false →
    s.lotD.feeding = some p.val → s.feedMissing = false →
    (s.sup.wdRunning = true → (s.sle.feed + 1) % 65536 = (s.sup.wdCount + 1) % 65536) → s.sup.cmd = some c → c.tag = none →
    let before (u : Nat) : Prop := ∀ x, c.at? = some x → x ≤ u
    (∀ x, c.at? = some x → s.clk.now < x → ∃ t, exec (.partitionRelease p) s = .next t ∧ t.sup.cmd = some c ∧ t.sup.mode = s.sup.mode ∧
      (t.part p).relK = s.instantK p + 1) ∧
    (∀ k, before s.clk.now → s.cmdRefusal c = some k → ∃ t, exec (.partitionRelease p) s = .next t ∧ t.sup.cmd = none ∧
      t.sup.mode = s.sup.mode ∧ t.hpo.reply = some (.abort k) ∧ (t.part p).relK = s.instantK p + 1) ∧
    (before s.clk.now → s.cmdRefusal c = none →
      (c.cmd = .run → ∃ t, exec (.partitionRelease p) s = .next t ∧ t.sup.mode = .run ∧ t.sup.cmd = none ∧ t.hpo.reply = some .done) ∧
      (c.cmd = .commission → ∃ t, exec (.partitionRelease p) s = .next t ∧ t.sup.mode = .commissioning ∧ t.sup.cmd = none ∧
        t.hpo.reply = some .done) ∧
      (c.cmd = .configure → ∃ t, exec (.partitionRelease p) s = .next t ∧ t.sup.mode = .configuring ∧ t.sup.cmd = none ∧
        t.hpo.reply = some .done ∧ (∀ q, (t.part q).phase = .idle)) ∧
      (c.cmd = .halt → ∃ t, exec (.partitionRelease p) s = .next t ∧ t.sup.mode = .safeHalt ∧ t.sup.firstCause = some 0 ∧ t.outputsOff)))

/-- PASS_RESUME gives the free engine to the partition that goes first, once the releases of this instant have all taken place: a suspended
pass goes on where it stopped. WATCHDOG_EXPIRY
at 0.9 of the window or later removes drive and enters Safe Halt with cause 3. Rules: R145 to R147, R158, R159. Model choices: log
entry 12. -/
def Obligations.PassResumeAndWatchdog : Prop :=
  (∀ (s : State) (p : Fin 16), s.sle.cur = none → s.best = some p.val → s.sle.dbg.state < 2 → s.instantOpen = false →
    ∃ t, exec (.passResume p) s = .next t ∧ t.sle.cur = some p.val ∧ s.changesOnly [.sle] t ∧
      ((s.part p).phase ≠ .ready → t.part p = s.part p) ∧
      ((s.part p).phase = .ready → t.part p = (s.part p).begin p) ∧ (∀ q, q ≠ p.val → t.part q = s.part q)) ∧
  (∀ s : State, s.sup.wdRunning = true → s.sle.dbg.state < 2 → s.sup.mode ≠ .off → s.sup.mode ≠ .safeHalt → s.sup.pfsOrder = 0 →
    90 * (s.lotD.wdWindow * usTicks) ≤ 100 * (s.clk.real - s.sup.wdFedAt) →
    ∃ t, exec .watchdogExpiry s = .next t ∧ s.halted 3 t ∧ t.otp = s.otp)

/-- COMMIT_GATE on a matching attempt: at one instant every word that the attempt wrote becomes the committed one in both banks,
every other word stays, and the release counts; where a trunk cycle starts at this very tick its frames are built anew. Rules: R97, R138,
R140, R364. -/
def Obligations.CommitGateCommits : Prop :=
  ∀ (s : State) (p : Nat), s.sle.cur = some p → (s.part p).phase = .gate → s.sle.dbg = {} → (s.part p).matches? = true →
    (s.isInstant p = false ∨ s.clk.now = (s.part p).relAt) → s.released = true → s.sup.mode ≠ .replay → s.cplRole = .solo →
    s.lotD.pair = false → s.memWf = true →
    ∃ t, exec .commitGate s = .next t ∧
      (∀ w, t.comG w = ((s.part p).workG.get none w).getD (s.comG w)) ∧
      (∀ w, t.comO w = ((s.part p).workO.get none w).getD (s.comO w)) ∧
      (∀ k, t.timer .ground k = ((s.part p).timG.get none k).getD (s.timer .ground k)) ∧
      (t.part p).phase = .idle ∧ (t.part p).seq = ((s.part p).seq + 1) % 2 ^ 32 ∧ (t.part p).prev = some (s.part p).stamp ∧
      (t.part p).lastKey = (s.part p).key ∧ t.lot = s.lot ∧ t.sin = s.sin ∧ t.otp = s.otp ∧ t.bist = s.bist ∧
      (s.cycleTick = false → t.trk = s.trk) ∧ t.trk = { s.trk with sent := t.trk.sent, sentB := t.trk.sentB } ∧
      t.clk = s.clk ∧ t.nmt.land = s.nmt.land ∧ t.nmt.planeG = s.nmt.planeG ∧ t.nmt.planeO = s.nmt.planeO

/-- COMMIT_GATE on an attempt that does not match: with t_retry left a first attempt is tried once more under another key; the
second, or a first one without that time, enters Safe Halt with cause 1. No word is committed. A commit in the count of the
partition's next release instant is a deadline miss: Safe Halt with cause 2, nothing committed; in a resync that has caught up it starts
the resync again. Rules: R138, R139, R164, R402. Model
choices: log entry 9. -/
def Obligations.CommitGateRollsBack : Prop :=
  (∀ (s : State) (p : Nat), s.sle.cur = some p → (s.part p).phase = .gate → s.sle.dbg = {} → (s.part p).matches? = false →
    (s.isInstant p = false ∨ s.clk.now = (s.part p).relAt) → s.released = true → s.sup.mode ≠ .replay →
    let time := 12 * ((s.part p).relAt + s.lotD.pPeriod p - s.clk.now)
    ((s.part p).attempt = 1 → (s.resyncing = true ∨ 5 * s.lotD.pCount p + 1200 ≤ time) → ∃ t, exec .commitGate s = .next t ∧
      (t.part p).attempt = 2 ∧ (t.part p).failedKey = (s.part p).key ∧ (t.part p).key ≠ 0 ∧ (t.part p).key ≠ (s.part p).key ∧
      (t.part p).key ≠ (s.part p).lastKey ∧ (t.part p).stamp = (s.part p).stamp ∧
      ((t.part p).phase = .ready ∨ (t.part p).phase = .passes) ∧ t.sle.mismatches = (s.sle.mismatches + 1) % 2 ^ 32 ∧
      t.nmt = s.nmt ∧ t.sle.tmG = s.sle.tmG ∧ t.sle.tmO = s.sle.tmO ∧ t.sout = s.sout ∧ t.sup = s.sup) ∧
    ((s.part p).attempt ≠ 1 ∨ (s.resyncing = false ∧ time < 5 * s.lotD.pCount p + 1200) → ∃ t, exec .commitGate s = .next t ∧
      s.halted 1 t ∧ t.nmt = s.nmt ∧ t.sle.tmG = s.sle.tmG ∧ t.sle.tmO = s.sle.tmO ∧
      t.sle.mismatches = (s.sle.mismatches + 1) % 2 ^ 32)) ∧
  (∀ (s : State) (p : Nat), s.sle.cur = some p → (s.part p).phase = .gate → s.sle.dbg = {} → s.released = true →
    s.isInstant p = true → s.clk.now ≠ (s.part p).relAt →
    (s.cplRole ≠ .resync → ∃ t, exec .commitGate s = .next t ∧ s.halted 2 t ∧ t.nmt = s.nmt ∧ t.sle.tmG = s.sle.tmG ∧ t.sle.tmO = s.sle.tmO) ∧
    (s.cplRole = .resync → s.resyncing = false → ∃ t, exec .commitGate s = .next t ∧ t.sup.mode = s.sup.mode ∧
      (t.cplRole = .isolated ∨ (t.cplRole = .resync ∧ t.cpl.resync = .requested)) ∧ t.nmt = s.nmt ∧ t.sle.tmG = s.sle.tmG ∧
      t.sle.tmO = s.sle.tmO))

/-- The debug halt: a request with no pass running halts at once, one in a ground pass after the same WOP of both passes; the halt
removes drive, stops the watchdog and cuts both groups off; a step executes one WOP in both passes with what its fetches bring, and a
row that cannot be corrected halts with cause 4; a resume gives drive back, and no output is on before both groups are released.
Committed words never change. Rules: R102, R148 to R151. Model choices: log entry 59. -/
def Obligations.DebugHalt : Prop :=
  ∀ s : State, s.lotD.pair = false →
    (s.jtagOn = true → s.sup.mode = .commissioning → s.sle.dbg = {} → s.sle.cur = none → ∃ t, exec .haltRequest s = .next t ∧
      t.sle.dbg.state = 2 ∧ t.sup = { s.sup with driveRemoved := true, wdRunning := false } ∧ t.pwr = { s.pwr with setpoint := 980 } ∧
      t.outputsOff ∧ s.groupsHeld t ∧ s.changesOnly [.sup, .sle, .sout, .pwr, .log, .hpo] t) ∧
    (∀ p, s.jtagOn = true → s.sup.mode = .commissioning → s.sle.dbg = {} → s.sle.cur = some p → (s.part p).gi < s.lotD.pCount p →
      exec .haltRequest s = .next { s with sle := { s.sle with dbg :=
        { state := 1, part := some p, idx := s.lotD.pFirst p + (s.part p).gi, stopAt := some (s.part p).gi } } }) ∧
    (∀ p, s.jtagOn = true → s.sup.mode = .commissioning → s.sle.dbg = {} → s.sle.cur = some p → s.lotD.pCount p ≤ (s.part p).gi →
      exec .haltRequest s = .next { s with sle := { s.sle with dbg := { state := 1, atGate := some p } } }) ∧
    (s.haltDue = true → ∃ t, exec .debugHaltEffect s = .next t ∧ t.sle.dbg.state = 2 ∧
      t.sup = { s.sup with driveRemoved := true, wdRunning := false } ∧ t.outputsOff ∧ s.groupsHeld t ∧
      s.changesOnly [.sup, .sle, .sout, .pwr, .log, .hpo] t) ∧
    (∀ p i (fg fo : Fetch), s.jtagOn = true → s.sle.dbg.state = 2 → s.sle.dbg.part = some p → s.sle.dbg.stopAt = some i →
      i + 1 < s.lotD.pCount p →
      let w := s.lotD.wop (s.lotD.pFirst p + i + 1)
      (fg.ecc = .clean → fo.ecc = .clean → ∃ t, exec (.step fg fo) s = .next t ∧ t.sle.dbg.stopAt = some (i + 1) ∧
        t.sle.dbg.idx = s.lotD.pFirst p + i + 1 ∧ (t.part p).gi = i + 2 ∧ (t.part p).oi = i + 2 ∧
        (∀ ps v, t.curWord p ps v = ((s.doWop p .ground w fg.flip).doWop p .overdye w fo.flip).curWord p ps v) ∧ s.changesOnly [.sle] t) ∧
      (fg.ecc = .uncorrectable → s.sup.mode = .commissioning → s.sup.pfsOrder = 0 →
        ∃ t, exec (.step fg fo) s = .next t ∧ s.halted 4 t)) ∧
    (s.jtagOn = true → s.sup.mode = .commissioning → s.sle.dbg.state = 2 → ∃ t, exec .resume s = .next t ∧ t.sle.dbg.state = 0 ∧
      t.sup = { s.sup with driveRemoved := false, wdArmed := false } ∧
      (∀ g, g < 2 → (t.grp g).state ≠ .closed ∧ (t.grp g).state ≠ .closing) ∧ t.sout.holdBoth = true ∧ t.outputsOff ∧
      s.changesOnly [.sup, .sle, .sout, .log, .hpo] t) ∧
    (s.sup.mode = .commissioning → s.jtagAllowed = true → exec (.jtagSession true) s = .next { s with sup := { s.sup with jtag := true } }) ∧
    (s.sup.mode ≠ .commissioning ∨ s.jtagAllowed = false → exec (.jtagSession true) s = .next s) ∧
    (exec (.jtagSession false) s = .next { s with sup := { s.sup with jtag := false } })

/-! ### Self-test, OTP, check-value units, recorder, log -/

/-- A background slice that passes uses 20 us of credit and moves the rotation of 18 on; one of test 2 also moves its check-value unit; a
localising slice keeps the trim at 0.98 V for 1 s. A background slice that finds a table CRC wrong, or an uncorrectable row that a partition
uses, enters Safe Halt with cause 4, whether a spare row serves it or not. LOCALISATION_COMPLETE closes the localisation: a unit found is repaired where a spare is left; where none is found, each mismatch that
it was to localise is counted, and the third within 24 h enters Safe Halt with cause 1. Rules: R102, R142, R144, R160, R428 to R434. Model choices: log
entry 48. -/
def Obligations.SelfTest : Prop :=
  (∀ (s : State) (rate : Nat),
    (s.sliceState = true → s.sliceRoom = true → 20000 ≤ s.creditNow → 240000 ≤ rate → s.pwr.rateHold = false →
      ∃ t, exec (.bistSlice .background .pass rate) s = .next t ∧ t.bist.pos = (s.bist.pos + 1) % 18 ∧
        t.sle = { s.sle with credit := s.creditNow - 20000, creditAt := s.clk.now } ∧ t.bist.repairs = s.bist.repairs ∧
        t.bist.wanted = s.bist.wanted ∧ t.sup = s.sup ∧ s.changesOnly [.sle, .bist, .cvus] t ∧
        (rotation.getD s.bist.pos 0 ≠ 2 → t.cvus = s.cvus)) ∧
    (∀ f, s.sle.locOpen = true → s.domOn 0 = true → s.sup.mode = .safeHalt →
      exec (.bistSlice .localising f rate) s = .next { s with
        sle := { s.sle with locState := 1 }, pwr := { s.pwr with locHoldUntil := s.clk.real + sTicks } })) ∧
  (∀ (s : State) (rate : Nat), s.sliceState = true → s.sliceRoom = true → 20000 ≤ s.creditNow → s.released = true →
    ((rotation.getD s.bist.pos 0 = 2 ∨ rotation.getD s.bist.pos 0 = 3) →
      ∃ t, exec (.bistSlice .background .badCrc rate) s = .next t ∧ s.halted 4 t) ∧
    (∀ r, rotation.getD s.bist.pos 0 = 2 → s.rowUsed r = true →
      (r < 65536 → ∃ t, exec (.bistSlice .background (.badRow r) rate) s = .next t ∧ s.halted 4 t) ∧
      (65536 ≤ r → ∃ t, exec (.bistSlice .background (.badRow r) rate) s = .next t ∧ t.sup.mode = .safeHalt ∧
        t.sup.causes.getLsbD 4 = true ∧ (4, r - 65536) ∈ t.bist.unusable))) ∧
  (∀ s : State, s.sle.locOpen = true →
    let near := s.sle.unloc.filter (fun t => decide (s.clk.now - t ≤ 24 * 3600 * sTicks))
    (near.length + s.sle.locCount < 3 → ∃ t, exec (.localisationComplete none) s = .next t ∧
      t.sle = { s.sle with locOpen := false, locCount := 0, locState := 3, locLane := 255,
                           unloc := near ++ List.replicate s.sle.locCount s.clk.now } ∧
      t.pwr = { s.pwr with locHold := false, locHoldUntil := s.clk.real + sTicks } ∧ t.bist = s.bist ∧ t.sup = s.sup ∧
      s.changesOnly [.sle, .pwr, .log, .hpo] t) ∧
    (3 ≤ near.length + s.sle.locCount → s.sle.locCount ≠ 0 → s.sup.mode ≠ .off → s.sup.mode ≠ .safeHalt → s.sup.pfsOrder = 0 →
      ∃ t, exec (.localisationComplete none) s = .next t ∧ s.halted 1 t ∧ t.sle.locOpen = false) ∧
    (∀ l, l < 128 → s.bist.usable 1 ≠ [] → (s.bist.repairs ++ s.bist.wanted).any (fun r => decide (r.kind = 1 ∧ r.unit = l)) = false →
      ∃ t, exec (.localisationComplete (some (.lane l))) s = .next t ∧ t.sle.locOpen = false ∧ t.sle.locState = 2 ∧ t.sle.locLane = l ∧
        t.bist = { s.bist with wanted := s.bist.wanted ++ [{ kind := 1, unit := l, spare := (s.bist.usable 1).headD 0 }] } ∧
        t.pwr = { s.pwr with locHold := false, locHoldUntil := s.clk.real + sTicks } ∧ t.sup = s.sup ∧
        s.changesOnly [.sle, .pwr, .bist, .log, .hpo] t))

/-- TIME_BASE_CHECK: a window within 5 % and 1,000 ppm clears the counts; the second window in a row of either oscillator outside
enters Safe Halt with cause 6. HEALTH_REPORT_REBUILD: 96 bytes, and the report generation rises by 1. AUX_CONTACT_UPDATE closes the
alarm contact exactly in Commissioning or Run with an error register of 0; PORT_LINK_CHANGE shows a link of an enabled port while
HST is on, in Parked of the kept port alone, and one of a trunk port while TRK is on and the lot has a trunk that this module runs. Rules:
R330, R331, R348, R435, R442, R469, R473. Model choices: log entries 49 and 61. -/
def Obligations.Monitors : Prop :=
  (∀ (s : State) (rc slow : Nat), s.clk.running = true → s.sup.rcRef > 0 → s.sup.bistRunning = false →
    let rcBad := 20 * ((rc : Int) - s.sup.rcRef).natAbs > s.sup.rcRef.natAbs
    let slowBad := 1000 * ((slow : Int) - 32768).natAbs > slow
    (¬ rcBad → ¬ slowBad → ∃ t, exec (.timeBaseCheck rc slow) s = .next t ∧
      t.sup = { s.sup with rcDev := ((rc : Int) - s.sup.rcRef) * 100000 / s.sup.rcRef, rcBad := 0, slowBad := 0 } ∧
      s.changesOnly [.sup, .bist] t) ∧
    ((rcBad ∧ 1 ≤ s.sup.rcBad) ∨ (slowBad ∧ 1 ≤ s.sup.slowBad) → s.sup.mode ≠ .off → s.sup.mode ≠ .safeHalt →
      s.sup.pfsOrder = 0 →
      ∃ t, exec (.timeBaseCheck rc slow) s = .next t ∧ s.halted 6 t ∧ t.bist.failed.getLsbD 6 = true)) ∧
  (∀ s : State, s.domOn 2 = true → ∃ t, exec .healthReportRebuild s = .next t ∧ t.bist.report.length = 96 ∧
    t.bist = { s.bist with reportGen := (s.bist.reportGen + 1) % 2 ^ 32, report := t.bist.report } ∧
    t.bist.report.take 5 = leBytes 4 ((s.bist.reportGen + 1) % 2 ^ 32) ++ leBytes 1 s.healthState ∧ s.changesOnly [.bist] t) ∧
  (∀ (s : State) (up : Bool),
    (∃ t, exec .auxContactUpdate s = .next t ∧ s.changesOnly [.sup] t ∧
      t.sup = { s.sup with auxClosed := decide ((s.sup.mode = .commissioning ∨ s.sup.mode = .run) ∧ s.errorRegister = 0) }) ∧
    (∃ t, exec (.portLinkChange .ha up) s = .next t ∧ s.changesOnly [.hpo] t ∧ t.hpo = { s.hpo with
      linkA := up && s.domOn 3 && bitOf s.hpo.portEnable 0 && decide (s.sup.mode ≠ .parked ∨ s.hpo.keptPort ≠ 2) }) ∧
    (∃ t, exec (.portLinkChange .hb up) s = .next t ∧ s.changesOnly [.hpo] t ∧ t.hpo = { s.hpo with
      linkB := up && s.domOn 3 && bitOf s.hpo.portEnable 1 && decide (s.sup.mode ≠ .parked ∨ s.hpo.keptPort = 2) }) ∧
    (∃ t, exec (.portLinkChange .ta up) s = .next t ∧ t.trk = { s.trk with linkA := up && s.domOn 4 && s.lotD.hasTrunk } ∧
      s.changesOnly [.trk] t) ∧
    (∃ t, exec (.portLinkChange .tb up) s = .next t ∧ t.trk = { s.trk with linkB := up && s.domOn 4 && s.lotD.hasTrunk } ∧
      s.changesOnly [.trk] t))

/-- OTP_REREAD, where one is due and nothing is being blown: every critical word becomes what its reading decides, every other word stays,
and the interval starts again; a word of region 0 or 1 that reads UNRELIABLE enters Safe Halt with cause 12, and with none one of region 7
locks JTAG and one of region 8 ends signing. While a word or a fuse entry is being blown it waits. No fuse changes. Rules: R411 to R413,
R422, R427, R446. Model choices: log entry 47. -/
def Obligations.OtpReread : Prop :=
  ∀ (s : State) (reads : OtpReads), s.rereadDue = true → s.sup.mode ≠ .off → s.sup.mode ≠ .parked →
    (s.blowing = true → exec (.otpReread reads) s = .next s) ∧
    (s.blowing = false →
      let critical (a : Nat) : Bool := otpCritical (a / 32) (a % 32)
      let bad (r : Nat) : Prop := ∃ a, a < 512 ∧ a / 32 = r ∧ critical a = true ∧
        ((s.otpWord a).taken true (s.readingOf reads a)).state = .unreliable
      ∃ t, exec (.otpReread reads) s = .next t ∧ t.otp.reread = s.clk.now ∧ t.otp.rereadTemp = max s.pwr.t1 s.pwr.t2 ∧
        (∀ a, a < 512 → critical a = true → t.otpWord a = (s.otpWord a).taken true (s.readingOf reads a)) ∧
        (∀ a, critical a = false → t.otpWord a = s.otpWord a) ∧ (∀ a, (t.otpWord a).fuses = (s.otpWord a).fuses) ∧
        (reads.locks = [] → ∀ r rd, t.lockFuses r rd = s.lockFuses r rd) ∧
        (bad 0 ∨ bad 1 → s.sup.mode ≠ .safeHalt → s.sup.pfsOrder = 0 → s.halted 12 t) ∧
        (bad 0 ∨ bad 1 → s.sup.mode = .safeHalt → t.sup.mode = .safeHalt ∧ t.sup.causes.getLsbD 12 = true) ∧
        (¬ bad 0 → ¬ bad 1 → t.sup = s.sup ∧ s.changesOnly [.otp, .bist, .log, .hpo] t ∧
          (¬ bad 7 → t.otp.jtagLocked = s.otp.jtagLocked) ∧ (¬ bad 8 → t.otp.noSign = s.otp.noSign)) ∧
        (¬ bad 0 → ¬ bad 1 → bad 7 → t.otp.jtagLocked = true ∧ t.jtagAllowed = false) ∧
        (¬ bad 0 → ¬ bad 1 → bad 8 → t.otp.noSign = true ∧ t.maySign = false))

/-- OTP programming: a program write, a seal and a lock begin where Table: OTP refusals allows them, and change no fuse yet; a
program write to a written word is refused with 0x0F00_0603. Rules: R410, R418, R420, R425. Model choices: log entry 45. -/
def Obligations.OtpProgrammingBegins : Prop :=
  ∀ s : State, s.otp.job = none → s.fusing = false → s.otpConds = 7 →
    (s.sup.mode = .unconfigured ∨ s.sup.mode = .configuring ∨ s.sup.mode = .commissioning) →
    let a := s.otp.sel
    let begun (t : State) (j : OtpJob) (d : Nat) : Prop :=
      t.otp = { s.otp with job := some j, byRecord := false, progData := d } ∧ t.hpo = { s.hpo with reply := none } ∧
      s.changesOnly [.otp, .hpo] t
    (∀ d : BitVec 64, s.wordRefusal a d.toNat = none → ∃ t, exec (.programData d) s = .next t ∧
      begun t (.word a (s.burnData a d.toNat)) d.toNat) ∧
    (∀ d : BitVec 64, s.wlocked (a / 32) = false → ¬ (a / 32 = 6 ∧ 1 ≤ a % 32 ∧ a % 32 ≤ 30) → (s.otpWord a).written = true →
      exec (.programData d) s = .next (s.refuse 0x0F000603)) ∧
    (a % 32 = 31 → s.wordRefusal a 0 = none → ∃ t, exec .seal s = .next t ∧ begun t (.word a (s.sealWord (a / 32))) 0) ∧
    (∀ r : Fin 16, lockAllowed r false = true → s.otp.wlock.get 0 r ≠ 7 → ∃ t, exec (.writeLock r) s = .next t ∧
      begun t (.lock r false) s.otp.progData) ∧
    (∀ r : Fin 16, lockAllowed r true = true → s.otp.rlock.get 0 r ≠ 7 → ∃ t, exec (.readLock r) s = .next t ∧
      begun t (.lock r true) s.otp.progData)

/-- OTP_PROGRAM_COMPLETE: the fuses of the word are those of its data under the SEC-DED code, in the state that the read-back gives, or the
fuses of the lock set that read blown are blown; no other word and no other lock changes, and the answer is DONE, or 0x0F00_0603 where the
word reads UNRELIABLE or a fuse of the set is whole. FUSE_REPAIR begins with the soft repairs not yet fused; each entry that reads back goes into the lowest free position of
region 6, and the last one ends it. Rules: R409, R410, R412, R418, R426, R440. Model choices: log entry 47. -/
def Obligations.OtpProgrammingEnds : Prop :=
  (∀ (s : State) (rd : WordRead) (fuses : FuseRead),
    (∀ a d, s.otp.job = some (.word a d) →
      let st := takenState (otpCritical (a / 32) (a % 32)) true rd
      ∃ t, exec (.otpProgramComplete rd fuses) s = .next t ∧ t.otp.job = none ∧
      (t.otpWord a).fuses = otpFuses d ∧ (t.otpWord a).last = rd ∧ (t.otpWord a).state = st ∧
      (∀ e c, (st = .good ∨ st = .marginal) → eccDecode rd.normal = some (e, c) → (t.otpWord a).data = e) ∧
      (∀ b, b ≠ a → t.otpWord b = s.otpWord b) ∧ t.otp.wlock = s.otp.wlock ∧ t.otp.rlock = s.otp.rlock ∧
      (st = .good ∨ st = .marginal → t.hpo.reply = some .done) ∧
      (st = .unreliable → t.hpo.reply = some (.abort 0x0F000603)) ∧ st ≠ .unwritten ∧ s.changesOnly [.otp, .hpo, .log] t) ∧
    (∀ r rl, s.otp.job = some (.lock r rl) → ∃ t, exec (.otpProgramComplete rd fuses) s = .next t ∧ t.otp.job = none ∧
      t.otp.words = s.otp.words ∧
      (∀ k, t.lockFuses k false = if k = r ∧ rl = false then s.lockFuses k false ||| fuses.normal.toNat else s.lockFuses k false) ∧
      (∀ k, t.lockFuses k true = if k = r ∧ rl = true then s.lockFuses k true ||| fuses.normal.toNat else s.lockFuses k true) ∧
      (t.lockFuses r rl = 7 → t.hpo.reply = some .done) ∧ (t.lockFuses r rl ≠ 7 → t.hpo.reply = some (.abort 0x0F000603)) ∧
      s.changesOnly [.otp, .hpo, .log] t)) ∧
  (∀ s : State,
    (s.fusing = false → s.sup.mode = .commissioning → s.otpConds = 7 → s.otpValid 6 = true → s.bist.unfused ≠ [] →
      s.bist.unfused.length ≤ s.freePositions.length → ∃ t, exec .fuseRepair s = .next t ∧
      t.bist = { s.bist with
        fuseVal := 1, fuseState := 1, fuseLeft := s.bist.unfused, fuseFailed := false, fuseByRecord := false, fuseAt := none } ∧
      t.hpo = { s.hpo with reply := none } ∧ s.changesOnly [.bist, .hpo] t) ∧
    (s.fusing = false → s.sup.mode ≠ .commissioning → ∃ t, exec .fuseRepair s = .next t ∧ t.bist = { s.bist with fuseState := 3 } ∧
      t.hpo = { s.hpo with reply := some (.abort 0x0F000408) } ∧ s.changesOnly [.bist, .hpo] t) ∧
    (∀ r p rd, s.fusing = true → s.bist.fuseLeft = [r] → s.freePositions.head? = some p → takenState false true rd ≠ .unreliable → ∃ t,
      exec (.fuseRepairComplete [rd]) s = .next t ∧ t.bist.fuseState = 2 ∧ t.bist.fuseLeft = [] ∧
      t.otpWord (192 + p) = burntWord (192 + p) (repairEntry r) rd ∧
      (∀ b, b ≠ 192 + p → t.otpWord b = s.otpWord b) ∧ t.hpo.reply = some .done ∧ s.changesOnly [.otp, .bist, .cvus, .hpo, .log] t))

/-- A free check-value unit: INIT loads the initial value and arms the fold; DATA_IN feeds the fold once, then 4 bytes; FINALISE
applies the final XOR and ends it; RUNNING_VALUE_WRITE loads a value and disarms the fold; a data write after FINALISE is refused;
a read shows the running value. A unit of the hardware refuses with 0x0F00_0501. Rules: R342, R444, R445. Model choices: log entry
64. -/
def Obligations.CheckValueUnits : Prop :=
  ∀ (s : State) (n : Fin 16) (v : BitVec 32),
    (cvuUse n = 0 →
      let c := s.cvu n
      let put (t : State) (u : Cvu) : Prop :=
        t.cvu n = u ∧ (∀ m, m ≠ n.val → t.cvu m = s.cvu m) ∧ t.hpo = { s.hpo with reply := some .done } ∧ s.changesOnly [.cvus, .hpo] t
      (∃ t, exec (.init n) s = .next t ∧ put t { c with run := polyInit c.poly, armed := true, ended := false }) ∧
      (∃ t, exec (.finalise n) s = .next t ∧ put t { c with run := Nat.xor c.run (polyXor c.poly), armed := false, ended := true }) ∧
      (∃ t, exec (.runningValueWrite n v) s = .next t ∧ put t { c with run := v.toNat, armed := false, ended := false }) ∧
      (c.ended = false → c.armed = true → ∃ t, exec (.dataIn n v) s = .next t ∧
        put t { c with run := polyFeed c.poly c.run (leBytes 8 c.fold ++ leBytes 4 v.toNat), armed := false }) ∧
      (c.ended = false → c.armed = false → ∃ t, exec (.dataIn n v) s = .next t ∧
        put t { c with run := polyFeed c.poly c.run (leBytes 4 v.toNat), armed := false }) ∧
      (c.ended = true → exec (.dataIn n v) s = .next (s.refuse 0x0F000502)) ∧ s.cvuValue n = c.run) ∧
    (cvuUse n ≠ 0 → exec (.init n) s = .next (s.refuse 0x0F000501) ∧ exec (.finalise n) s = .next (s.refuse 0x0F000501) ∧
      exec (.dataIn n v) s = .next (s.refuse 0x0F000501) ∧ exec (.runningValueWrite n v) s = .next (s.refuse 0x0F000501))

/-- The check values of Table: CVU algorithms over the nine ASCII bytes 123456789: CRC-32, CRC-32C, CRC-16 and CRC-8. Rules: R443. -/
def Obligations.CheckValues : Prop :=
  let digits : List Byte := [0x31, 0x32, 0x33, 0x34, 0x35, 0x36, 0x37, 0x38, 0x39]
  Nat.xor (polyFeed 0 (polyInit 0) digits) (polyXor 0) = 0xCBF43926 ∧
  Nat.xor (polyFeed 1 (polyInit 1) digits) (polyXor 1) = 0xE3069283 ∧
  Nat.xor (polyFeed 2 (polyInit 2) digits) (polyXor 2) = 0x29B1 ∧
  Nat.xor (polyFeed 3 (polyInit 3) digits) (polyXor 3) = 0xF4

/-- The recorder's commands. A freeze command is refused in Replay and where no slot is free; where no episode is open it freezes one with
code 3, open for the post-trigger time of the lot; where one is open it freezes nothing, and event 9 is recorded; in the cycle of another
trigger it lowers that episode's trigger to 3; without a keyframe nothing is frozen. The end of the post-trigger time closes the open
episode; an export or log entry is selected; a window of more than 1,000 bytes spends 10 ms of budget; a second of at most 90,000 bytes
refills 1 ms up to 8,000; a page of 4,080 bytes goes into NAND. Rules: R341, R344, R450, R452 to R458. Model choices: log entries 51 and
52. -/
def Obligations.RecorderCommands : Prop :=
  ∀ s : State,
    (s.domOn 2 = true → s.sup.mode = .replay → exec .freezeCommand s = .next (s.refuse 0x0F000705)) ∧
    (s.domOn 2 = true → s.sup.mode ≠ .replay → s.rcr.open_ = none → s.cycleEpisode = none → (s.episodeSlot false) = none →
      exec .freezeCommand s = .next (s.refuse 0x0F000701)) ∧
    (s.domOn 2 = true → s.sup.mode ≠ .replay → (s.episodeSlot false) ≠ none → ∃ t, exec .freezeCommand s = .next t ∧
      t.hpo.reply = some .done ∧ s.changesOnly [.rcr, .hpo, .log, .tmu, .pwr, .fresh] t) ∧
    (∀ k e, s.domOn 2 = true → s.sup.mode ≠ .replay → s.rcr.open_ = none → s.cycleEpisode = none → s.episodeStart = some k →
      s.episodeSlot false = some e → ∃ t, exec .freezeCommand s = .next t ∧ t.hpo.reply = some .done ∧
        (t.episode e).state = 1 ∧ (t.episode e).trigger = 3 ∧ (t.episode e).cause = 255 ∧ (t.episode e).trigAt = s.clk.now ∧
        (t.episode e).frozenAt = s.clk.real ∧ (t.episode e).lotId = s.lotD.id ∧ (t.episode e).sha = s.lotD.digest ∧
        t.rcr.open_ = some (e, s.clk.real + s.lotD.recPost * 100 * msTicks) ∧ (∀ i, i ≠ e → t.episode i = s.episode i) ∧
        s.changesOnly [.rcr, .hpo, .log, .tmu, .pwr, .fresh] t) ∧
    (∀ e u, s.domOn 2 = true → s.sup.mode ≠ .replay → s.rcr.open_ = some (e, u) → s.cycleEpisode = none →
      ∃ t, exec .freezeCommand s = .next t ∧ t.hpo.reply = some .done ∧ t.rcr.open_ = some (e, u) ∧
        t.rcr.episodes = s.rcr.episodes ∧ s.changesOnly [.rcr, .hpo] t ∧
        (s.rcr.gap = none → s.rcr.fits 18 = true → s.rcr.total + 18 ≤ s.rcr.written + 262144 →
          t.rcr.recs = s.rcr.recs ++ [⟨s.rcr.total, s.clk.real, s.clk.now,
            [0x20#8, 9#8] ++ leBytes 8 s.clk.now ++ leBytes 8 (e + 768)⟩])) ∧
    (∀ e, s.domOn 2 = true → s.sup.mode ≠ .replay → s.cycleEpisode = some e → ∃ t, exec .freezeCommand s = .next t ∧
      t.hpo.reply = some .done ∧ t.episode e = { s.episode e with trigger := min (s.episode e).trigger 3 } ∧
      (∀ i, i ≠ e → t.episode i = s.episode i) ∧ t.rcr.open_ = s.rcr.open_ ∧ s.changesOnly [.rcr, .hpo] t) ∧
    (s.domOn 2 = true → s.sup.mode ≠ .replay → s.rcr.open_ = none → s.cycleEpisode = none → s.episodeStart = none →
      (s.episodeSlot false) ≠ none → exec .freezeCommand s = .next { s with hpo := { s.hpo with reply := some .done } }) ∧
    (s.domOn 2 = false → exec .freezeCommand s = .next (s.refuse 0x06060000)) ∧
    (∀ e u, s.rcr.open_ = some (e, u) → u ≤ s.clk.real → ∃ t, exec .episodePostTriggerEnd s = .next t ∧ t.rcr.open_ = none ∧
      (t.episode e).state = (s.episode e).state ∧ (t.episode e).trigger = (s.episode e).trigger ∧
      (t.episode e).toPage ≤ (t.episode e).fromPage + 4096 ∧ (t.episode e).toPage ≤ pagesOf t.rcr.total ∧
      (t.episode e).endPos ≤ t.rcr.total ∧ (∀ i, i ≠ e → t.episode i = s.episode i) ∧ s.changesOnly [.rcr, .hpo] t) ∧
    (∀ e u, s.rcr.open_ = some (e, u) → s.clk.real < u → exec .episodePostTriggerEnd s = .next s) ∧
    (∀ e : Byte, e.toNat < 64 → ∃ t, exec (.exportSelect e) s = .next t ∧ t.rcr = { s.rcr with sel := e.toNat } ∧
      t.hpo.reply = some .done ∧ s.changesOnly [.rcr, .hpo] t) ∧
    (∀ e : Byte, 64 ≤ e.toNat → exec (.exportSelect e) s = .next (s.refuse 0x06090031)) ∧
    (∀ q : BitVec 32, ∃ t, exec (.entrySelect q) s = .next t ∧ t.log = { s.log with select := q.toNat } ∧ t.hpo.reply = some .done ∧
      s.changesOnly [.log, .hpo] t) ∧
    (s.rcr.winAt + 10 * msTicks ≤ s.clk.real → ∃ t, exec .meterWindowEnd s = .next t ∧ s.changesOnly [.rcr] t ∧
      t.rcr = { s.rcr with winAt := t.rcr.winAt, winBytes := 0,
                           budget := if 1000 < s.rcr.winBytes then s.rcr.budget - 10 else s.rcr.budget }) ∧
    (s.rcr.secAt + sTicks ≤ s.clk.real → ∃ t, exec .burstBudgetRefill s = .next t ∧ s.changesOnly [.rcr] t ∧
      t.rcr = { s.rcr with secAt := t.rcr.secAt, secBytes := 0,
                           budget := if s.rcr.secBytes ≤ 90000 then min 8000 (s.rcr.budget + 1) else s.rcr.budget }) ∧
    (s.domOn 2 = true → s.rcr.written + 4080 ≤ s.rcr.ready → ∃ t, exec .nandPageWrite s = .next t ∧
      t.rcr.written = s.rcr.written + 4080 ∧ t.rcr.nand = s.rcr.nand + 4096 ∧ t.rcr.episodes = s.rcr.episodes ∧ s.changesOnly [.rcr] t)

/-! ### Safety inputs -/

/-- The delivered state of an input channel is its lane of W0: f while the channel is in use and has neither a channel fault nor
chatter, else 0. Rules: R174, R91. Model choices: log entry 20. -/
def Obligations.DeliveredState : Prop :=
  ∀ (s : State) (n : Nat),
    (s.lotD.chUsed n = true → (s.chan n).fault = 0 → (s.chan n).chatter = false → s.delivered n = (s.chan n).f) ∧
    (s.lotD.chUsed n = false ∨ (s.chan n).fault ≠ 0 ∨ (s.chan n).chatter = true → s.delivered n = false) ∧
    (n < 48 → s.inputsOn = true → s.w0.val.getLsbD n = s.delivered n) ∧ (s.inputsOn = false → s.w0.val = 0)

/-- FILTERED_EDGE of a live channel, m samples of one voltage behind the latest one that the filter has taken, none of them blanked: a
raw state that differs from f counts; the sample that brings the count to N makes the edge: f and the stamp follow it; the delivered state
is f unless a fault or chatter stands; every other channel and pair stays. Below N nothing but the count moves; a raw state equal to f
sets it to 0. A channel chatters when the eighth last edge before this one is younger than its chatter window. Rules: R170, R173, R174,
R179, R186. Model choices: log entry 20. -/
def Obligations.FilteredEdges : Prop :=
  ∀ (s : State) (n : Fin 48) (mv m : Nat), s.chanLive n = true → s.atSample = true → s.sup.mode ≠ .parked → 1 ≤ m →
    s.clk.now / 250 = (s.chan n).sampledAt / 250 + m →
    let c := s.chan n
    let from_ := c.sampledAt / 250 * 250
    let level := inputLevel n c.raw mv
    let full := 20 * s.lotD.chFilter n
    let at_ := from_ + 250 * (full - c.count)
    (∀ i, i < m → s.blanked n (from_ + 250 * (i + 1)) = false) →
    (level ≠ c.f → c.count + m < full → ∃ t, exec (.filteredEdge n [(mv, m)]) s = .next t ∧
      t.chan n = { c with raw := level, count := c.count + m, sampledAt := s.clk.now } ∧ t.delivered n = s.delivered n ∧
      (∀ k, k ≠ n.val → t.chan k = s.chan k) ∧ t.sin.pairs = s.sin.pairs ∧ s.changesOnly [.sin] t) ∧
    (level = c.f → ∃ t, exec (.filteredEdge n [(mv, m)]) s = .next t ∧
      t.chan n = { c with raw := level, count := 0, sampledAt := s.clk.now } ∧ t.delivered n = s.delivered n ∧
      (∀ k, k ≠ n.val → t.chan k = s.chan k) ∧ t.sin.pairs = s.sin.pairs ∧ s.changesOnly [.sin] t) ∧
    (level ≠ c.f → c.count < full → full ≤ c.count + m → s.edgeAccepted n at_ level = false →
      ∃ t, exec (.filteredEdge n [(mv, m)]) s = .next t ∧
        (t.chan n).f = level ∧ (t.chan n).raw = level ∧ (t.chan n).stamp = at_ ∧ (t.chan n).count = 0 ∧
        (t.chan n).transitions = (c.transitions + 1) % 2 ^ 32 ∧ (t.chan n).fault = c.fault ∧
        (c.chatter = true → (t.chan n).chatter = true) ∧
        t.delivered n = (level && decide (c.fault = 0) && ! (t.chan n).chatter) ∧
        (level = true → (t.chan n).proofFrom = at_) ∧
        (∀ u us, c.stamps = u :: us → us.length = 7 → at_ < u + s.lotD.chChatter n * msTicks →
          (t.chan n).chatter = true ∧ t.delivered n = false) ∧
        (∀ k, k ≠ n.val → t.chan k = s.chan k) ∧ (∀ p, p ≠ n.val % 24 → t.inPair p = s.inPair p) ∧ t.sin.srcs = s.sin.srcs ∧
        s.changesOnly [.sin, .tmu, .rcr, .log, .hpo] t)

/-- An accepted reset edge of a channel: on the halt-release source it is W5.3 at the next releases; with the release armed it releases
Safe Halt into Boot's start-up BIST instead. Otherwise it releases what its channel is the reset source of, each where its condition has
cleared: channel faults and chatter; a pair in FAULT whose two channels have cleared, and have both gone off and on again; speed
channels and pairs, analog pairs and motion violations; output codes while the output is commanded off, group faults and cut-offs, a
group that is free of them closing at the next boundary of the partition that writes W8. A reset edge is accepted only where the
delivered state has been 1 for 50 ms to 3 s and falls with f, the source not jammed. Rules: R50, R81, R82, R91, R188, R222, R233, R234, R249, R284,
R299. Model choices: log entries 19 and 41. -/
def Obligations.ResetEdges : Prop :=
  (∀ (s : State) (n : Fin 48) (mv m : Nat), s.edgeFalls n mv m → s.lotD.hrType = 0 → s.lotD.hrChan = n.val →
    (s.released = true → ∃ t, exec (.filteredEdge n [(mv, m)]) s = .next t ∧ (∀ p, p < 16 → (t.part p).edge = true) ∧
      t.sup = s.sup ∧ t.lot = s.lot ∧ t.nmt = s.nmt) ∧
    (∀ u, s.sup.mode = .safeHalt → s.sup.pend = .armed u → s.clk.real ≤ u → ∃ t, exec (.filteredEdge n [(mv, m)]) s = .next t ∧
      t.sup.mode = .boot ∧ t.sup.bistRunning = true ∧ t.sup.firstCause = none ∧ t.sup.causes = 0 ∧ t.sup.pend = .none ∧
      t.sup.resumeTo = (if s.sup.haltFrom = some .run ∨ s.sup.haltFrom = some .commissioning ∨ s.sup.haltFrom = some .replay ∨
        s.sup.haltFrom = some .parked then none else some .unconfigured) ∧ t.lot = s.lot ∧ t.nmt = s.nmt)) ∧
  (∀ (s : State) (n : Fin 48) (mv m : Nat), s.edgeFalls n mv m → (s.lotD.hrType = 0 → s.lotD.hrChan = n.val → s.armedNow = false) →
    let served (code : Nat) : Prop := s.lotD.sourceIs code n = true
    ∃ t, exec (.filteredEdge n [(mv, m)]) s = .next t ∧ s.changesOnly [.sin, .tmu, .aaq, .sout, .sle, .rcr, .log, .hpo] t ∧
      (∀ k, k < 48 → k ≠ n.val → s.lotD.chUsed k = true → served (s.lotD.chReset k) →
        (t.chan k).fault = s.uncleared k ∧ (t.chan k).chatter = ((s.chan k).chatter && ! s.chatterCleared k) ∧ (t.chan k).f = (s.chan k).f) ∧
      (∀ k, k ≠ n.val → ¬ (s.lotD.chUsed k = true ∧ served (s.lotD.chReset k)) → t.chan k = s.chan k) ∧
      (∀ p, p < 24 → p ≠ n.val % 24 → s.lotD.prUsed p = true → served (s.lotD.prReset p) → (s.inPair p).state = .fault →
        (s.inPair p).baseAt ≠ some s.clk.now → (s.inPair p).both0 = true → (s.inPair p).both1 = true → (s.chan p).f = true →
        (s.chan (p + 24)).f = true →
        (s.chanCleared p = true → s.chanCleared (p + 24) = true → (t.inPair p).state = .active ∧ (t.inPair p).code = 0) ∧
        (s.chanCleared p = false ∨ s.chanCleared (p + 24) = false →
          (t.inPair p).state = .fault ∧ (t.inPair p).code = (s.inPair p).code)) ∧
      (∀ k i, k < 8 → i < 4 → s.lotD.spUsed k = true → served (s.lotD.spReset k) →
        (t.speed k).fault.getLsbD i = ((s.speed k).fault.getLsbD i && ! s.speedCleared k i)) ∧
      (∀ p, p < 4 → s.lotD.spPair p = true → served (s.lotD.spPairReset p) → (s.spair p).fault = true →
        (t.spair p).fault = ! (t.speedValid p && t.speedValid (p + 4) && ! t.pairApart p)) ∧
      (∀ p, p < 4 → s.lotD.apUsed p = true → served (s.lotD.apReset p) → (s.apair p).fault = true →
        (t.apair p).fault = ! ((s.ach p).valid && (s.ach (p + 4)).valid && decide ((s.apair p).diff ≤ s.lotD.apTol p))) ∧
      (∀ k, k < 4 → s.lotD.moType k ≠ 0 → served (s.lotD.moReset k) → (s.motion k).violated = true →
        (t.motion k).violated = ((s.motion k).request || ! (t.moValid k || (s.motion k).stand))) ∧
      (∀ g k, g < 2 → served (s.lotD.gReset g) → k ∈ grpOuts g → (s.out k).code ≠ 0 →
        (t.out k).code = (if s.outCleared k = true ∧ s.commanded k = false then 0 else (s.out k).code)) ∧
      (∀ g, g < 2 → served (s.lotD.gReset g) → (s.grp g).state ≠ .unused →
        (t.grp g).code = (if s.grpCleared g = true then 0 else (s.grp g).code) ∧
        ((s.grp g).latch = true → (s.grp g).good = true → s.mayClose = true →
          (s.w8Boundary = false → (t.grp g).latch = true ∧ (t.grp g).relCut = true) ∧
          (s.w8Boundary = true → (t.grp g).latch = false ∧ (t.grp g).cause = 0)) ∧
        ((s.grp g).latch = true → (s.grp g).good = false → (s.grp g).relCut = false → (t.grp g).latch = true ∧ (t.grp g).cause = (s.grp g).cause) ∧
        (((s.grp g).latch = true → (s.grp g).good = true) → s.mayClose = true → (t.grp g).code = 0 →
          (∀ k, k ∈ grpOuts g → groupCode (t.out k).code = false) → (s.grp g).state ≠ .closing → (s.grp g).state ≠ .closed →
          (s.w8Boundary = false → (t.grp g).relDue = true) ∧
          (s.w8Boundary = true → (t.grp g).state = .closing ∧ (t.grp g).closeAt = s.clk.now)))) ∧
  (∀ (s : State) (n at_ u : Nat), (s.chan n).rise = some u → s.edgeAccepted n at_ false = true →
    s.delivered n = true ∧ (s.chan n).jam = false ∧ u + 2500000 ≤ at_ ∧ at_ ≤ u + 150000000)

/-- Pulses: TEST_PULSE starts a due pulse of a running source; a pulse of the channel's own source that is seen clears the count of
missed ones, the second missed in a row latches fault 1; the second foreign window in a row with a pulse latches fault 2. A sample of a source that
decides a fault (1 ms in current limit, from the source's own limit of 110 to 150 mA, above 5 V in the last 20 us of its pulse, 1 ms below 18 V outside its windows) switches it off
with its code and latches code 3 on the channels it feeds; after 1 s the source is tried again, and it is good again after 100 ms without
a fault, a PULSED one after four pulses. Rules: R175, R178, R180, R181, R187. Model choices: log entry 19. -/
def Obligations.TestPulsesAndSources : Prop :=
  (∀ (s : State) (n : Fin 48) (k : Fin 8) (a : Nat),
    (s.srcLive k = true → s.lotD.srMode k = 2 → s.srcRuns k = true → s.clk.running = true →
      s.clk.now / 500000 % max 1 (s.lotD.srPeriod k) = 0 → s.clk.now % 500000 = s.lotD.slotOff k * usTicks →
      ∃ t, exec (.testPulse k) s = .next t ∧ (t.src k).pulseAt = some s.clk.now ∧ (t.src k).state = (s.src k).state ∧
        (t.src k).code = (s.src k).code ∧ (t.src k).faults = (s.src k).faults ∧
        (t.src k).good = (if (s.src k).code = 0 then (s.src k).good else (s.src k).good + 1) ∧
        (∀ j, j ≠ k.val → t.src j = s.src j) ∧ t.sin.chans = s.sin.chans ∧ t.sin.pairs = s.sin.pairs ∧ s.changesOnly [.sin] t) ∧
    ((s.src k).pulseAt = some a → s.chanLive n = true → s.atSample = true → s.lotD.srMode k = 2 → (s.chan n).judged.get 0 k ≠ a + 1 →
      a + s.lotD.window n k ≤ s.clk.now → (s.chan n).f = true →
      (∀ low inside, s.lotD.chSource n = some k.val → 2 ≤ low → s.lotD.chIsReset n = false →
        ∃ t, exec (.pulseDecision n k true low inside) s = .next t ∧ (t.chan n).missed = 0 ∧ (t.chan n).seen = (s.chan n).seen + 1 ∧
          (t.chan n).fault = (s.chan n).fault ∧ (∀ m, m ≠ n.val → t.chan m = s.chan m) ∧ s.changesOnly [.sin] t) ∧
      (∀ low inside, s.lotD.chSource n = some k.val → low < 2 → (s.chan n).missed = 0 →
        ∃ t, exec (.pulseDecision n k true low inside) s = .next t ∧ (t.chan n).missed = 1 ∧ (t.chan n).seen = 0 ∧
          (t.chan n).fault = (s.chan n).fault ∧ (∀ m, m ≠ n.val → t.chan m = s.chan m) ∧ s.changesOnly [.sin] t) ∧
      (∀ low inside, s.lotD.chSource n = some k.val → low < 2 → 1 ≤ (s.chan n).missed →
        ∃ t, exec (.pulseDecision n k true low inside) s = .next t ∧ (t.chan n).fault.getLsbD 1 = true ∧ t.delivered n = false ∧
          (∀ m, m ≠ n.val → t.chan m = s.chan m) ∧ s.changesOnly [.sin, .log, .hpo] t) ∧
      (∀ low, s.lotD.chSource n ≠ some k.val → (s.lotD.chMode n = 1 ∨ s.lotD.chMode n = 2) → 1 ≤ low →
        (s.chan n).foreign.getLsbD k = true →
        ∃ t, exec (.pulseDecision n k true low true) s = .next t ∧ (t.chan n).fault.getLsbD 2 = true ∧ t.delivered n = false ∧
          (∀ m, m ≠ n.val → t.chan m = s.chan m) ∧ s.changesOnly [.sin, .log, .hpo] t))) ∧
  (∀ (s : State) (k : Fin 8), s.srcLive k = true →
    (∀ ma mv, s.srcRuns k = true → s.atSample = true →
      let failed (code : Nat) : Prop := ∃ t, exec (.sourceFault k ma mv) s = .next t ∧
        t.src k = { s.src k with state := .retryWait, code := code, faultAt := s.clk.now, offAt := s.clk.now, good := 0,
                                 limitSince := none, lowSince := none, low := false, faults := (s.src k).faults + 1 } ∧
        (∀ j, j ≠ k.val → t.src j = s.src j) ∧
        (∀ n, n < 48 → s.lotD.chSource n = some k.val → (t.chan n).fault.getLsbD 3 = true ∧ t.delivered n = false) ∧
        (∀ n, s.lotD.chSource n ≠ some k.val → t.chan n = s.chan n) ∧ s.changesOnly [.sin, .log, .hpo] t
      (∀ u, sourceLimit k ≤ ma → (s.src k).limitSince = some u → u + msTicks ≤ s.clk.now → failed 1) ∧
      (ma < sourceLimit k → s.pulseTail k = true → 5000 < mv → failed 2) ∧
      (∀ u, ma < sourceLimit k → mv < 18000 → (s.src k).lowSince = some u → u + msTicks ≤ s.clk.now →
        (∀ a, (s.src k).pulseAt = some a → a + (s.lotD.srWidth k + s.lotD.maxRet k) * 500 + msTicks ≤ s.clk.now) → failed 3) ∧
      (ma < sourceLimit k → 18000 ≤ mv → s.pulseTail k = false → ∃ t, exec (.sourceFault k ma mv) s = .next t ∧
        (t.src k).code = (s.src k).code ∧ (t.src k).state = (s.src k).state ∧ (t.src k).limitSince = none ∧
        (∀ j, j ≠ k.val → t.src j = s.src j) ∧ t.sin.chans = s.sin.chans ∧ s.changesOnly [.sin] t)) ∧
    ((s.src k).state = .retryWait → (s.src k).faultAt + sTicks ≤ s.clk.now → ∃ t, exec (.sourceRetry k) s = .next t ∧
      t.src k = { s.src k with state := .fault, onAt := s.clk.now, good := 0 } ∧ (∀ j, j ≠ k.val → t.src j = s.src j) ∧
      t.sin.chans = s.sin.chans ∧ t.sin.pairs = s.sin.pairs ∧ s.changesOnly [.sin] t) ∧
    ((s.src k).state = .fault → (s.lotD.srMode k = 1 → (s.src k).onAt + 100 * msTicks ≤ s.clk.now) →
      (s.lotD.srMode k ≠ 1 → 4 < (s.src k).good) →
      ∃ t, exec (.sourceFaultClear k) s = .next t ∧ t.src k = { s.src k with state := .on, code := 0, good := 0 } ∧
      (∀ j, j ≠ k.val → t.src j = s.src j) ∧ s.changesOnly [.sin, .log, .hpo] t))

/-- A latched channel fault (proof timeout, loop-back) makes the delivered state 0; a sensor pulse restarts the proof timer; a
chatter that has cleared is released on a reset channel; a jam is latched after 3 s. The pair evaluator: both channels on makes
IDLE ACTIVE, one alone CLOSING; CLOSING or OPENING that reaches the discrepancy time goes to FAULT with code 2 or 1; a channel
condition goes to FAULT with code 3; FAULT stays until a reset. Rules: R183 to R190, R235. Model choices: log entry 18. -/
def Obligations.ChannelAndPairFaults : Prop :=
  (∀ (s : State) (n : Fin 48),
    (s.chanLive n = true → s.atSample = true → s.lotD.chMode n = 3 → s.lotD.chProof n ≠ 0 → (s.chan n).f = true →
      (s.chan n).proofFrom + s.lotD.chProof n * sTicks ≤ s.clk.now → ∃ t, exec (.proofTimeout n) s = .next t ∧
      (t.chan n).fault.getLsbD 4 = true ∧ t.delivered n = false ∧ (∀ m, m ≠ n.val → t.chan m = s.chan m) ∧
      s.changesOnly [.sin, .log, .hpo] t) ∧
    (∀ low, s.chanLive n = true → s.clk.running = true → s.lotD.chMode n = 3 → (s.chan n).f = true → 2 ≤ low → low < 20 * s.lotD.chFilter n →
      s.lotD.chIsReset n = false →
      ∃ t, exec (.sensorPulse n low) s = .next t ∧ t.chan n = { s.chan n with proofFrom := s.clk.now, sensorSeen := true } ∧
      (∀ m, m ≠ n.val → t.chan m = s.chan m) ∧ t.sin.pairs = s.sin.pairs ∧ s.changesOnly [.sin] t) ∧
    (s.chanLive n = true → s.lotD.chIsReset n = true → (s.chan n).chatter = true → (s.chan n).stamp + sTicks ≤ s.clk.now →
      ∃ t, exec (.chatterClear n) s = .next t ∧ (t.chan n).chatter = false ∧ (∀ m, m ≠ n.val → t.chan m = s.chan m) ∧
      s.changesOnly [.sin, .log, .hpo] t) ∧
    (s.clk.running = true → s.sin.nextLoop = n.val → s.loopDue = true → s.blanked n s.clk.now = false → s.bankOn n = true → s.lotD.chUsed n = true → ∃ t, exec (.loopBackTest false) s = .next t ∧
      (t.chan n).loop = 1 ∧ (t.chan n).fault.getLsbD 5 = true ∧ t.delivered n = false ∧ t.sin.nextLoop = (n.val + 1) % 48 ∧
      t.bist.failed.getLsbD 4 = true ∧ (∀ m, m ≠ n.val → t.chan m = s.chan m) ∧ s.changesOnly [.sin, .bist, .log, .hpo] t) ∧
    (∀ u, (s.chan n).rise = some u → s.lotD.judged n = true → s.delivered n = true → (s.chan n).jam = false → s.atSample = true →
      u + 150000000 < s.clk.now → ∃ t, exec (.resetJam (.channel n)) s = .next t ∧ t.chan n = { s.chan n with jam := true } ∧
      (∀ m, m ≠ n.val → t.chan m = s.chan m) ∧ t.sin.pairs = s.sin.pairs ∧ s.changesOnly [.sin, .log, .hpo] t)) ∧
  (∀ (s : State) (p : Fin 24),
    (∀ (q : PairEv) (now disc : Nat),
      (q.state = .idle → (q.eval now disc true true false).state = .active ∧ (q.eval now disc true false false).state = .closing ∧
        (q.eval now disc false true false).state = .closing ∧ q.eval now disc false false false = q) ∧
      (q.state = .closing → now - q.t0 < disc → (q.eval now disc true true false).state = .active ∧
        (q.eval now disc false false false).state = .idle ∧ q.eval now disc true false false = q) ∧
      (q.state = .active → (q.eval now disc false false false).state = .idle ∧ (q.eval now disc false true false).state = .opening ∧
        q.eval now disc true true false = q) ∧
      (q.state = .opening → now - q.t0 < disc → (q.eval now disc false false false).state = .idle ∧
        q.eval now disc true true false = q) ∧
      (∀ a b, (q.eval now disc a b true).state = .fault ∧ (q.state ≠ .fault → (q.eval now disc a b true).code = 3)) ∧
      (∀ a b c, q.state = .fault → (q.eval now disc a b c).state = .fault ∧ (q.eval now disc a b c).code = q.code)) ∧
    (s.inputsOn = true → s.atSample = true → (s.inPair p).baseAt ≠ some s.clk.now → s.lotD.prUsed p = true → s.chanCond p = false → s.chanCond (p + 24) = false →
      ((s.inPair p).state = .closing ∨ (s.inPair p).state = .opening) →
      (s.inPair p).t0 + s.lotD.prDisc p * msTicks ≤ s.clk.now → ∃ t, exec (.discrepancyTimeout p) s = .next t ∧
      (t.inPair p).state = .fault ∧ (t.inPair p).code = (if (s.inPair p).state = .closing then 2 else 1) ∧
      (t.inPair p).faults = (s.inPair p).faults + 1 ∧ (∀ j, j ≠ p.val → t.inPair j = s.inPair j) ∧ t.sin.chans = s.sin.chans ∧
      t.sin.srcs = s.sin.srcs ∧ s.changesOnly [.sin, .log, .hpo] t))

/-! ### Safety outputs and field supplies -/

/-- An output switch is on only as R200 allows: SAFETY mode, commanded by its lane of W8 or by the lanes of all members of its
parallel group, W8 not FAULT, the group CLOSED, no latched code, no own pulse, the module in Commissioning or Run as Solo or Active
with drive present; in every other case it is off. The model asks two things more: no command held for the output's own slot
(R214), and OUT on; after a resume both groups must be released first (R150). A group switch is closed only in CLOSING CHECK, in CLOSED,
and in FAULT during a retry, where every output of the group is off. Rules: R150, R200, R209, R214, R221. Model choices: log entry 41. -/
def Obligations.SwitchOnConditions : Prop :=
  ∀ (s : State) (role : Role) (n g : Nat),
    (s.switchOn role n = true ↔
      s.lotD.oSafety n = true ∧ (s.lotD.oPar n = 0 → s.sout.w8.getLsbD n = true) ∧
      (s.lotD.oPar n ≠ 0 → ∀ m, m ∈ s.lotD.parMembers (s.lotD.oPar n) → s.sout.w8.getLsbD m = true) ∧ s.sout.w8q ≠ 3 ∧
      (s.grp (outGrp n)).state = .closed ∧ (s.out n).code = 0 ∧ s.inPulse n = false ∧
      (s.sup.mode = .commissioning ∨ s.sup.mode = .run) ∧ (role = .solo ∨ role = .active) ∧ s.sup.driveRemoved = false ∧
      (s.out n).held = false ∧ s.sout.holdBoth = false ∧ s.domOn 8 = true) ∧
    (s.groupClosed g = true → s.mayClose = true ∧ ((s.grp g).state = .closing ∨ (s.grp g).state = .closed ∨
      ((s.grp g).state = .fault ∧ ((∃ a len, s.openRetryAt g = some (a, len) ∧ a ≤ s.clk.now) ∨ ∃ a, s.closeRetryAt g = some a)))) ∧
    ((s.grp (outGrp n)).state = .fault → s.switchOn role n = false)

/-- CLOSING_CHECK_END: with the rail closed and no pin high for 10 ms the group is CLOSED; with the rail not closed after 1 ms it is in
FAULT with code 2, and an output that reads not low at two samples latches code 1. GROUP_TEST opens a CLOSED group in its slot; its
decision passes, or gives group fault 1, and an output that was on as the test began and reads not low throughout latches code 2. DARK_TEST
opens the output switches of its source, one output or a parallel group, in its slot; a pulse that is seen is counted, and gives code 7 where
its urgent reading is 6.5 V or more; an output that does not show it latches code 2 and opens the group. The bleed check: a watched output that
the pulse bleeds onto latches code 4, with the outputs of a dark source, and the groups open. Rules: R209 to R212, R215, R216, R218. Model
choices: log entry 41. -/
def Obligations.OutputTests : Prop :=
  (∀ (s : State) (g : Fin 2), s.domOn 8 = true → (s.grp g).state = .closing →
    ((s.grp g).closeAt + 10 * msTicks ≤ s.clk.now → ∃ t, exec (.closingCheckEnd g 0 true) s = .next t ∧
      t.grp g = { s.grp g with state := .closed, closeAt := s.clk.now } ∧ (∀ h, h ≠ g.val → t.grp h = s.grp h) ∧
      (∀ n, (t.out n).code = (s.out n).code) ∧ s.changesOnly [.sout] t) ∧
    ((s.grp g).closeAt + msTicks ≤ s.clk.now → ∃ t, exec (.closingCheckEnd g 0 false) s = .next t ∧ (t.grp g).state = .fault ∧
      (t.grp g).code = 2 ∧ (∀ n, n ∈ grpOuts g → t.switchOn s.cplRole n = false) ∧ (∀ h, h ≠ g.val → t.grp h = s.grp h) ∧
      s.changesOnly [.sout, .log, .hpo] t) ∧
    (∀ n rail, n ∈ grpOuts g → s.lotD.oMode n ≠ 2 → s.passive n = false → (s.out n).code = 0 → (s.grp g).closeAt + 250 ≤ s.clk.now →
      ∃ t, exec (.closingCheckEnd g (BitVec.ofNat 16 (2 ^ n)) rail) s = .next t ∧ (t.out n).code = 1 ∧ (t.grp g).state = .fault ∧
        s.changesOnly [.sout, .log, .hpo] t)) ∧
  (∀ (s : State) (g : Fin 2),
    (s.slotStart (.group g) = true → s.testsRun = true → (s.grp g).state = .closed → ∃ t, exec (.groupTest g) s = .next t ∧
      t.sout = { s.sout with test := some { of := .group g, start := s.clk.now, notLow := s.notLowMask, wasOn := s.onMask } } ∧
      (∀ n, n < 16 → s.onMask.getLsbD n = s.switchOn s.cplRole n) ∧ t.groupClosed g = false ∧ s.changesOnly [.sout] t) ∧
    (s.slotStart (.group g) = true → s.testsRun = true → (s.grp g).state = .cutOff → ∃ t, exec (.groupTest g) s = .next t ∧
      t.grp g = { s.grp g with lastTest := 2 } ∧ (∀ h, h ≠ g.val → t.grp h = s.grp h) ∧ t.sout.outs = s.sout.outs ∧
      s.changesOnly [.sout] t) ∧
    (∀ u, s.sout.test = some u → u.of = .group g → u.start + s.lotD.testWidth (.group g) * usTicks ≤ s.clk.now →
      (∃ t, exec (.groupTestDecision g true 0 0) s = .next t ∧ t.sout.test = none ∧
        t.grp g = { s.grp g with lastTest := 0, testEnd := s.clk.now } ∧
        (∀ h, h ≠ g.val → t.grp h = s.grp h) ∧ (∀ n, (t.out n).code = (s.out n).code) ∧ s.changesOnly [.sout] t) ∧
      ((s.grp g).state ≠ .unused → ∃ t, exec (.groupTestDecision g false 0 0) s = .next t ∧ t.sout.test = none ∧
        (t.grp g).state = .fault ∧ (t.grp g).code = 1 ∧ (t.grp g).lastTest = 1 ∧ s.changesOnly [.sout, .log, .hpo] t) ∧
      (∀ n (notLow : BitVec 16), n ∈ grpOuts g → notLow.getLsbD n = true → s.lotD.oMode n ≠ 2 → (s.out n).code = 0 →
        (u.wasOn.getLsbD n = true → ∃ t, exec (.groupTestDecision g true notLow 0) s = .next t ∧ (t.out n).code = 2 ∧
          ((s.grp g).state ≠ .unused → (t.grp g).state = .fault) ∧ s.changesOnly [.sout, .log, .hpo] t) ∧
        ((∀ m, m ∈ grpOuts g → u.wasOn.getLsbD m = false) → ∃ t, exec (.groupTestDecision g true notLow 0) s = .next t ∧
          (t.out n).code = 0 ∧ (t.grp g).state = (s.grp g).state ∧ s.changesOnly [.sout] t)) ∧
      (∀ (bled : BitVec 16) (k : Nat), k < 16 → bled.getLsbD k = true → u.notLow.getLsbD k = true → u.moved.getLsbD k = false →
        k ∉ grpOuts g → s.lotD.oMode k ≠ 2 → s.passive k = false → (∀ v, s.lotD.outSource k = some v → s.inSlot v = false) →
        (s.out k).code = 0 → ∃ t, exec (.groupTestDecision g true 0 bled) s = .next t ∧ (t.out k).code = 4 ∧
          ((s.grp g).state ≠ .unused → (t.grp g).state = .fault) ∧
          ((s.grp (outGrp k)).state ≠ .unused → (t.grp (outGrp k)).state = .fault) ∧ s.changesOnly [.sout, .log, .hpo] t))) ∧
  (∀ (s : State) (src : DarkSource), s.lotD.darkOuts src ≠ [] →
    let outs := s.lotD.darkOuts src
    (s.slotStart (.dark src) = true → s.testsRun = true → (∀ n, n ∈ outs → s.testable n = true) →
      ∃ t, exec (.darkTest src) s = .next t ∧ (∀ n, n ∈ outs → t.inPulse n = true ∧ t.switchOn s.cplRole n = false) ∧
        (∀ m, (t.out m).code = (s.out m).code) ∧ (∀ g, t.grp g = s.grp g) ∧ s.changesOnly [.sout] t) ∧
    (∀ u (seen : BitVec 16), s.sout.test = some u → u.of = .dark src → u.start + s.lotD.testWidth (.dark src) * usTicks ≤ s.clk.now →
      ((∀ n, n ∈ outs → seen.getLsbD n = true) → (∀ r, r ∈ u.urgent → r.1 ∈ outs → r.2 < 6500) →
        (∃ t, exec (.darkTestDecision src seen 0) s = .next t ∧ t.sout.test = none ∧
          (∀ n, n ∈ outs → (t.out n).lastTest = 0 ∧ (t.out n).seen = (s.out n).seen + 1) ∧
          (∀ m, (t.out m).code = (s.out m).code) ∧ (∀ g, t.grp g = s.grp g) ∧ s.changesOnly [.sout] t) ∧
        (∀ (bled : BitVec 16) (k : Nat), k < 16 → bled.getLsbD k = true → u.notLow.getLsbD k = true → u.moved.getLsbD k = false → k ∉ outs →
          s.lotD.oMode k ≠ 2 → s.passive k = false → (∀ v, s.lotD.outSource k = some v → s.inSlot v = false) → (s.out k).code = 0 →
          ∃ t, exec (.darkTestDecision src seen bled) s = .next t ∧ (t.out k).code = 4 ∧
            (∀ n, n ∈ outs → s.lotD.oMode n ≠ 2 → (s.out n).code = 0 → (t.out n).code = 4) ∧
            ((s.grp (outGrp k)).state ≠ .unused → (t.grp (outGrp k)).state = .fault) ∧
            (∀ n, n ∈ outs → s.lotD.oMode n ≠ 2 → (s.grp (outGrp n)).state ≠ .unused → (t.grp (outGrp n)).state = .fault) ∧
            s.changesOnly [.sout, .log, .hpo] t)) ∧
      (∀ n mv, n ∈ outs → seen.getLsbD n = true → (n, mv) ∈ u.urgent → 6500 ≤ mv → s.lotD.oMode n ≠ 2 → (s.out n).code = 0 → ∃ t,
        exec (.darkTestDecision src seen 0) s = .next t ∧ t.sout.test = none ∧ (t.out n).code = 7 ∧
        (t.out n).seen = (s.out n).seen + 1 ∧ s.changesOnly [.sout, .log, .hpo] t) ∧
      (∀ n, n ∈ outs → seen.getLsbD n = false → s.lotD.oMode n ≠ 2 → (s.out n).code = 0 → (s.grp (outGrp n)).state ≠ .unused → ∃ t,
        exec (.darkTestDecision src seen 0) s = .next t ∧ t.sout.test = none ∧
        (t.out n).lastTest = 1 ∧ (t.out n).code = 2 ∧ (t.grp (outGrp n)).state = .fault ∧ s.changesOnly [.sout, .log, .hpo] t)))

/-- Output faults: readback (a pin not low, or not high, at 20 samples in a row outside the settle times and tests; 10 ms in current
limit), parallel mismatch at 20 samples, open load for 100 ms and overtemperature latch their codes on an output without one of its own; codes 1 and 5
among them open the group with fault 4; an output with a code is off. Group faults and retries: overcurrent is fault 3 of a group whose
switch is closed; a rail that does not read open is fault 1, one not closed while CLOSED fault 2; a retry of faults 1 and 2 tells
whether they have cleared. Rules: R208, R215, R216, R219 to R221. Model choices: log entries 18 and 41. -/
def Obligations.OutputAndGroupFaults : Prop :=
  (∀ (s : State) (n : Fin 16), s.domOn 8 = true → s.lotD.oMode n = 1 → (s.out n).code = 0 →
    let latched (t : State) (code : Nat) : Prop :=
      (t.out n).code = code ∧ (t.out n).faults = (s.out n).faults + 1 ∧ t.switchOn s.cplRole n = false ∧ (t.out n).sw = false ∧
      s.changesOnly [.sout, .log, .hpo] t
    (s.switchOn s.cplRole n = false → s.sout.test = none → s.passive n = false → (s.out n).pinLow = false →
      (s.out n).notLowSince + 4750 ≤ s.clk.now → (s.out n).offAt + s.lotD.oSettle n * 500 + 4750 < s.clk.now →
      (s.grp (outGrp n)).testEnd + 4750 < s.clk.now →
      ∃ t, exec (.readbackFault n .notLow) s = .next t ∧ latched t 1 ∧
        ((s.grp (outGrp n)).state ≠ .unused → (t.grp (outGrp n)).state = .fault) ∧
        ((s.grp (outGrp n)).state = .unused → (t.grp (outGrp n)).state = .unused)) ∧
    (s.switchOn s.cplRole n = true → s.sout.test = none → (s.grp (outGrp n)).railClosed = true → (s.grp (outGrp n)).warn = false →
      ((s.out n).pinHigh = false → (s.out n).notHighSince + 4750 ≤ s.clk.now → (s.out n).onAt + s.lotD.oRec n * 500 + 4750 < s.clk.now →
        ∃ t, exec (.readbackFault n .notHigh) s = .next t ∧ latched t 3 ∧ (∀ g, t.grp g = s.grp g)) ∧
      ((s.out n).onAt + 10 * msTicks ≤ s.clk.now → (s.out n).onAt + s.lotD.oRec n * 500 < s.clk.now →
        ∃ t, exec (.readbackFault n .currentLimit) s = .next t ∧ latched t 3 ∧ (∀ g, t.grp g = s.grp g))) ∧
    (∀ u, s.lotD.oOpenLoad n = true → s.switchOn s.cplRole n = true → (s.out n).onAt + s.lotD.oRec n * 500 ≤ s.clk.now →
      (s.out n).onSince = some u → u + s.lotD.oRec n * 500 + 100 * msTicks ≤ s.clk.now →
      ∃ t, exec (.openLoad n) s = .next t ∧ latched t 6 ∧ (∀ g, t.grp g = s.grp g)) ∧
    (s.lotD.oSafety n = true → s.sup.mode ≠ .safeHalt → s.sup.mode ≠ .replay →
      ∃ t, exec (.driverOvertemperature n) s = .next t ∧ latched t 8 ∧ (∀ g, t.grp g = s.grp g)) ∧
    (∀ (g : Fin 4) (u : Nat), n.val ∈ s.lotD.parMembers (g.val + 1) → (s.lotD.parMembers (g.val + 1)).Nodup →
      s.switchOn s.cplRole n = true → s.sout.unlike.get none (g.val + 1) = some u → u + 4750 ≤ s.clk.now →
      s.inSlot (.dark (.parallel g)) = false → s.lotD.slotAt (.dark (.parallel g)) (s.clk.now - 4750) = false →
      ∃ t, exec (.parallelMismatch g) s = .next t ∧ (t.out n).code = 5 ∧ (t.grp (outGrp n)).state = .fault ∧
        s.changesOnly [.sout, .log, .hpo] t)) ∧
  (∀ (s : State) (g : Fin 2), s.domOn 8 = true →
    let failed (t : State) (code : Nat) : Prop :=
      (t.grp g).state = .fault ∧ (t.grp g).code = code ∧ (t.grp g).faults = (s.grp g).faults + 1 ∧
      (∀ n, n ∈ grpOuts g → t.switchOn s.cplRole n = false) ∧ (∀ h, h ≠ g.val → t.grp h = s.grp h) ∧ s.changesOnly [.sout, .log, .hpo] t
    (s.groupClosed g = true → ∃ t, exec (.groupOvercurrent g) s = .next t ∧ failed t 3) ∧
    ((s.grp g).state = .cutOff → (s.grp g).railOpen = false → (s.grp g).openAt + 200 * usTicks ≤ s.clk.now → (s.grp g).code ≠ 1 →
      ∃ t, exec (.railReadbackFault g) s = .next t ∧ failed t 1) ∧
    ((s.grp g).state = .closed → (s.grp g).railClosed = false → s.groupClosed g = true → (s.grp g).notClosedSince + 4750 ≤ s.clk.now →
      (s.grp g).closeAt + 4750 < s.clk.now → (s.grp g).testEnd + 4750 < s.clk.now →
      ∃ t, exec (.railReadbackFault g) s = .next t ∧ failed t 2) ∧
    (∀ seen a len, s.openRetryAt g = some (a, len) → s.mayClose = true → a + s.lotD.testWidth (.group g) * usTicks ≤ s.clk.now →
      s.clk.now ≤ a + len → ∃ t, exec (.groupOpenRetry g seen) s = .next t ∧
      t.grp g = { s.grp g with
        cleared := seen, triedAt := s.clk.now, openAt := max (s.grp g).openAt (a + s.lotD.testWidth (.group g) * usTicks) } ∧ (∀ h, h ≠ g.val → t.grp h = s.grp h) ∧
      t.sout.outs = s.sout.outs ∧ s.changesOnly [.sout] t) ∧
    (∀ closed a, s.closeRetryAt g = some a → s.mayClose = true →
      (a + (if closed = true then 10 * msTicks else msTicks) ≤ s.clk.now → ∃ t, exec (.groupCloseRetry g 0 closed) s = .next t ∧
        t.grp g = { s.grp g with cleared := closed, triedAt := s.clk.now, openAt := min s.clk.now (a + 10 * msTicks) } ∧ (∀ h, h ≠ g.val → t.grp h = s.grp h) ∧
        t.sout.outs = s.sout.outs ∧ s.changesOnly [.sout] t) ∧
      (∀ n, n ∈ grpOuts g → s.lotD.oMode n ≠ 2 → s.passive n = false → (s.out n).code = 0 → a + 250 ≤ s.clk.now →
        ∃ t, exec (.groupCloseRetry g (BitVec.ofNat 16 (2 ^ n)) closed) s = .next t ∧ (t.out n).code = 1 ∧ (t.grp g).cleared = false ∧
          (t.grp g).code = 2 ∧ s.changesOnly [.sout, .log, .hpo] t)))

/-- READBACK_CHANGE takes the pin and rail decisions of a sample, at the thresholds of Table: Readback decisions; HELD_ON_COMMAND_APPLY
frees a held on command after the output's own slot. Field supply, each command a sample of the group's LF monitor: at 19.05 V or less the
warning is set and Good ends; the first of the conditions that qualify (collapse, overvoltage, sag) latches the group's cut-off with its
cause and opens its switch, and a cut-off of an earlier sample keeps its cause; 100 ms of Good clear the warning, and 100 ms of it since
the entry to Commissioning or Run at the earliest let a cut-off be released. Rules: R48 to R51, R202,
R214. Model choices: log entries 20 and 42. -/
def Obligations.ReadbackAndFieldSupply : Prop :=
  (∀ (s : State),
    (∀ pins rails lf, s.domOn 8 = true → s.clk.running = true → s.clk.now % 250 = 0 →
      ∃ t, exec (.readbackChange pins rails lf) s = .next t ∧ s.changesOnly [.sout] t ∧
      (∀ n, n < 16 → (t.out n).code = (s.out n).code ∧
        (9200 ≤ pins.getD n 0 → lf.getD (outGrp n) 0 ≤ pins.getD n 0 + 1800 → (t.out n).pinHigh = true) ∧
        (pins.getD n 0 ≤ 8800 ∨ pins.getD n 0 + 2200 ≤ lf.getD (outGrp n) 0 → (t.out n).pinHigh = false) ∧
        (pins.getD n 0 ≤ 4000 → (t.out n).pinLow = true) ∧ (6000 ≤ pins.getD n 0 → (t.out n).pinLow = false)) ∧
      (∀ g, g < 2 → (t.grp g).state = (s.grp g).state ∧ (t.grp g).latch = (s.grp g).latch ∧ (t.grp g).code = (s.grp g).code ∧
        (9200 ≤ rails.getD g 0 → lf.getD g 0 ≤ rails.getD g 0 + 800 → (t.grp g).railClosed = true) ∧
        (rails.getD g 0 ≤ 8800 ∨ rails.getD g 0 + 1200 ≤ lf.getD g 0 → (t.grp g).railClosed = false) ∧
        (rails.getD g 0 ≤ 4000 → (t.grp g).railOpen = true) ∧ (6000 ≤ rails.getD g 0 → (t.grp g).railOpen = false))) ∧
    (∀ n : Fin 16, (s.out n).held = true → (∀ u, s.lotD.outSource n = some u → s.inSlot u = false) →
      ∃ t, exec (.heldOnCommandApply n) s = .next t ∧ (t.out n).held = false ∧ (∀ m, (t.out m).code = (s.out m).code) ∧
        (∀ g, t.grp g = s.grp g) ∧ s.changesOnly [.sout] t)) ∧
  (∀ (s : State) (g : Fin 2) (mv : Nat), s.domOn 8 = true → s.clk.running = true → s.clk.now % 250 = 0 →
    let v := s.grp g
    let idle := v.lf.sag.since = none ∧ v.lf.collapse.since = none ∧ v.lf.ovolt.since = none
    (idle → 16800 ≤ mv → mv ≤ 19050 → ∃ t, exec (.lfWarning g mv) s = .next t ∧
      (t.grp g).warn = true ∧ (t.grp g).good = false ∧ (t.grp g).latch = v.latch ∧ (t.grp g).cause = v.cause ∧
      (t.grp g).state = v.state ∧ (∀ h, h ≠ g.val → t.grp h = s.grp h) ∧ (∀ n, (t.out n).code = (s.out n).code) ∧
      s.changesOnly [.sout, .log, .hpo] t) ∧
    (∀ c cs, v.lfCauses g s.clk.real s.clk.now mv = c :: cs →
      (v.latch = false → ∃ t, exec (.lfCutOff g mv) s = .next t ∧ (t.grp g).latch = true ∧ (t.grp g).cause = c ∧
        (t.grp g).cutOffs = v.cutOffs + 1 ∧ (t.grp g).state ≠ .closed ∧ (t.grp g).state ≠ .closing ∧
        (∀ n, n ∈ grpOuts g → t.switchOn s.cplRole n = false) ∧ (∀ h, h ≠ g.val → t.grp h = s.grp h) ∧
        s.changesOnly [.sout, .log, .hpo, .rcr, .tmu, .fresh] t) ∧
      (v.latch = true → v.cutAt ≠ s.clk.now → ∃ t, exec (.lfCutOff g mv) s = .next t ∧ (t.grp g).cause = v.cause ∧
        (t.grp g).latch = true ∧ (t.grp g).relCut = false ∧ (t.grp g).cutOffs = v.cutOffs ∧ s.changesOnly [.sout, .log, .hpo] t)) ∧
    (∀ u, mv ≤ 11850 → v.lf.collapse = ⟨some u, false⟩ → u + 250 ≤ s.clk.now → (v.lfCauses g s.clk.real s.clk.now mv).head? = some 3) ∧
    (∀ u, 30150 ≤ mv → v.lf.ovolt = ⟨some u, false⟩ → u + 4750 ≤ s.clk.now → 4 ∈ v.lfCauses g s.clk.real s.clk.now mv) ∧
    (∀ u, mv ≤ 16650 → v.lf.sag = ⟨some u, false⟩ → u + 99750 ≤ s.clk.now → 2 ∈ v.lfCauses g s.clk.real s.clk.now mv) ∧
    (idle → 16800 ≤ mv → mv ≤ 30000 → v.lfCauses g s.clk.real s.clk.now mv = []) ∧
    (idle → 19350 ≤ mv → mv ≤ 29850 → v.lf.good = true →
      ∃ t, exec (.lfGoodQualified g mv) s = .next t ∧
      (t.grp g).warn = (v.warn && decide (s.clk.now < v.clearSince + 100 * msTicks)) ∧
      (t.grp g).good = decide (v.goodSince + 100 * msTicks ≤ s.clk.now) ∧ (t.grp g).latch = v.latch ∧ (t.grp g).cause = v.cause ∧
      (t.grp g).state = v.state ∧ (∀ h, h ≠ g.val → t.grp h = s.grp h) ∧ (∀ n, (t.out n).code = (s.out n).code) ∧
      s.changesOnly [.sout, .log, .hpo] t))

/-! ### Compare channels, speed, swatch, time discipline, analog inputs -/

/-- A channel without a link: a pending target that has come fires it at its target (COMPARE_EVENT); ARM of a host channel fixes a
target, which fires at once with LATE where it has passed, and is refused in mode OFF. An unlinked channel that is not due and
captures no channel's event stays as it is. The other commands and writes of a host channel that is unlinked, not due and captures
no channel's event: DISARM, CLEAR FLAGS, a software capture, a target, a period. CAPTURE_VALUE_READ answers the oldest value; on a
CAPTURE channel NEW clears, and a capture on the same handshake is held for the next read. Rules: R264, R266 to R272, R289. Model
choices: log entry 27. -/
def Obligations.CompareChannels : Prop :=
  (∀ (s : State) (c : Fin 256), s.clk.running = true → (s.tc c).link = 0 →
    let now := s.clk.now
    let u := s.tc c
    let rest (t : State) : Prop := s.changesOnly [.tmu, .hpo, .rcr] t ∧ t.tmu.swatch = s.tmu.swatch ∧ t.tmu.speeds = s.tmu.speeds ∧
      ∀ k, k ≠ c.val → (s.tc k).link = 0 → (s.tc k).due now = false → (s.tc k).source / 256 ≠ 3 → t.tc k = s.tc k
    let armed : TChan := { u with armed := true, fired := false, late := false, gated := false, clocks := 0, masterFired := false }
    let passed (v : TChan) : TChan :=
      { v with armed := false, fired := true, late := true, value := now, events := v.events + 1, everFired := true }
    (u.due now = true → s.recordedChan c = false → ∃ t, exec (.compareEvent c) s = .next t ∧ rest t ∧ t.hpo = s.hpo ∧
      t.tc c = { u with armed := false, fired := true, late := false, value := u.target, events := u.events + 1, everFired := true }) ∧
    (s.lotD.chOwner c = 3 → u.due now = false →
      (u.mode = 1 → now < u.target → ∃ t, exec (.arm c) s = .next t ∧ rest t ∧ t.hpo.reply = some .done ∧ t.tc c = armed) ∧
      (u.mode = 1 → u.target ≤ now → ∃ t, exec (.arm c) s = .next t ∧ rest t ∧ t.hpo.reply = some .done ∧ t.tc c = passed armed) ∧
      (u.mode = 2 → ∃ t, exec (.arm c) s = .next t ∧ rest t ∧ t.hpo.reply = some .done ∧
        (let b := (if u.everFired = true then u.value else now) + u.period
         (now < b → t.tc c = { armed with target := b }) ∧ (b ≤ now → t.tc c = passed { armed with target := b }))) ∧
      (u.mode = 0 → ∃ t, exec (.arm c) s = .next t ∧ t.hpo.reply = some (.abort 0x0F000304) ∧ s.changesOnly [.hpo] t)) ∧
    (s.lotD.chOwner c ≠ 3 → ∃ t, exec (.arm c) s = .next t ∧ t.hpo.reply = some (.abort 0x0F000301) ∧ s.changesOnly [.hpo] t)) ∧
  (∀ (s : State) (c : Fin 256), s.clk.running = true → (s.tc c).link = 0 → s.lotD.chOwner c = 3 → (s.tc c).due s.clk.now = false →
    (s.tc c).source / 256 ≠ 3 →
    let now := s.clk.now
    let u := s.tc c
    let out (t : State) : Prop := t.hpo = { s.hpo with reply := some .done } ∧ s.changesOnly [.tmu, .hpo, .rcr] t
    let armed : TChan := { u with armed := true, fired := false, late := false, gated := false, clocks := 0, masterFired := false }
    let passed (v : TChan) : TChan :=
      { v with armed := false, fired := true, late := true, value := now, events := v.events + 1, everFired := true }
    (∃ t, exec (.disarm c) s = .next t ∧ out t ∧ t.tc c = { u with armed := false, gated := false }) ∧
    (∃ t, exec (.clearFlags c) s = .next t ∧ out t ∧ t.tc c = { u with fired := false, late := false, new := false, ovr := false }) ∧
    (u.mode = 3 → u.armed = true → u.source / 256 = 4 → u.held = false → ∃ t, exec (.softwareCapture c) s = .next t ∧ out t ∧
      t.tc c = { u with value := now, new := true, fired := true, events := u.events + 1, everFired := true, ovr := u.ovr || u.new }) ∧
    (∀ v : BitVec 64, u.mode = 1 → ∃ t, exec (.targetWrite c v) s = .next t ∧ out t ∧
      t.tc c = (if now < v.toNat then { armed with target := v.toNat } else passed { armed with target := v.toNat })) ∧
    (∀ v : BitVec 32, u.mode = 2 → v ≠ 0 → ∃ t, exec (.periodWrite c v) s = .next t ∧ out t ∧
      (let b := (if u.everFired = true then u.value else now) + v.toNat
       t.tc c = (if now < b then { armed with target := b, period := v.toNat } else passed { armed with target := b, period := v.toNat }))) ∧
    (∀ v : BitVec 64, u.mode ≠ 1 → ∃ t, exec (.targetWrite c v) s = .next t ∧ t.hpo.reply = some (.abort 0x0F000304) ∧
      s.changesOnly [.hpo] t)) ∧
  (∀ (s : State) (c : Fin 256),
    let u := s.tc c
    let old := if u.held = true then u.hold else u.value
    s.domOn 3 = true → s.sup.mode ≠ .parked → s.clk.running = true →
    (u.mode ≠ 3 → ∃ t, exec (.captureValueRead c none) s = .next t ∧ t.hpo = { s.hpo with reply := some (.data (leBytes 8 old)) } ∧
      s.changesOnly [.hpo] t) ∧
    (u.mode = 3 → ∃ t, exec (.captureValueRead c none) s = .next t ∧ t.hpo = { s.hpo with reply := some (.data (leBytes 8 old)) } ∧
      t.tc c = { u with value := old, hold := 0, held := false, new := false } ∧ (∀ k, k ≠ c.val → t.tc k = s.tc k) ∧
      s.changesOnly [.tmu, .hpo] t) ∧
    (∀ v : BitVec 64, u.mode = 3 → u.armed = true → u.link = 0 → u.source / 256 ≠ 3 → s.recordedChan c = false → ∃ t,
      exec (.captureValueRead c (some v)) s = .next t ∧ t.hpo = { s.hpo with reply := some (.data (leBytes 8 old)) } ∧
      t.tc c = { u with value := old, hold := v.toNat, held := true, new := true, fired := true, events := u.events + 1,
                        everFired := true } ∧ s.changesOnly [.tmu, .hpo, .rcr] t))

/-- Speed inputs: a pulse shorter than t_pw is rejected, the ninth within 1 ms latches fault 1; a measured edge forms the complete
period over the most periods that fit the averaging window; a channel fault whose condition holds is latched; the loop-back test goes
round the eight channels every 125 ms, passes over one whose bank is off, and its failure is latched. MOTION_UPDATE, at the multiples of
10 us: the estimates of the channels in use with fault 1 above 210 kHz, the plausibility of the pairs, the end of an SS1-t ramp; of an SS1
ramp with monitored deceleration, which a rise of its lane in W8 starts, the envelope, the stop and the fallback to time; the violations by
overspeed, underspeed and an invalid speed while monitoring. Rules: R245 to R248, R280 to R283.
Model choices: log entries 25 and 26. -/
def Obligations.SpeedAndMotion : Prop :=
  (∀ (s : State) (n : Fin 8) (level : Bool) (stamp held : Nat), s.lotD.spUsed n = true → s.speedOn n = true →
    let u := s.speed n
    let faulted (f : SpeedFault) (code : Nat) : Prop := s.clk.running = true → ∃ t, exec (.speedChannelFault n f) s = .next t ∧
      (t.speed n).fault.getLsbD code = true ∧ t.speedValid n = false ∧ (t.speed n).est = u.est ∧ (t.speed n).stamps = u.stamps ∧
      (∀ k, k ≠ n.val → t.speed k = s.speed k) ∧ s.changesOnly [.tmu, .log, .hpo] t
    (s.clk.running = true → held < 500 * s.lotD.spWidth n → u.rejTimes.length < 8 → ∃ t, exec (.speedEdge n level stamp held) s = .next t ∧
      (t.speed n).rejected = u.rejected + 1 ∧ (t.speed n).edges = u.edges ∧ (t.speed n).stamps = u.stamps ∧ (t.speed n).fault = u.fault ∧
      (∀ k, k ≠ n.val → t.speed k = s.speed k) ∧ s.changesOnly [.tmu] t) ∧
    (s.clk.running = true → held < 500 * s.lotD.spWidth n → 8 ≤ u.rejTimes.length → (∀ x, x ∈ u.rejTimes → s.clk.now - x ≤ msTicks) →
      ∃ t, exec (.speedEdge n level stamp held) s = .next t ∧ (t.speed n).fault.getLsbD 1 = true ∧ t.speedValid n = false ∧
      (∀ k, k ≠ n.val → t.speed k = s.speed k) ∧ s.changesOnly [.tmu, .log, .hpo] t) ∧
    (s.clk.running = true → 500 * s.lotD.spWidth n ≤ held → level ≠ u.level → level = decide (s.lotD.spEdge n = 0) →
      ∃ t, exec (.speedEdge n level stamp held) s = .next t ∧ (t.speed n).level = level ∧ (t.speed n).edges = u.edges + 1 ∧
        (t.speed n).stamps = (stamp :: u.stamps).take 65 ∧ (u.stamps = [] → (t.speed n).m = 0) ∧
        (u.stamps ≠ [] → 1 ≤ (t.speed n).m ∧ (t.speed n).m ≤ 64 ∧
          ∃ x, u.stamps[(t.speed n).m - 1]? = some x ∧ (t.speed n).span = stamp - x) ∧
        (∀ i x, i < 64 → u.stamps[i]? = some x → stamp - x ≤ s.lotD.spAvg n * 5000 → i + 1 ≤ (t.speed n).m) ∧
        (∀ k, k ≠ n.val → t.speed k = s.speed k) ∧ s.changesOnly [.tmu, .rcr] t) ∧
    (210000000 < u.est ∨ 8 < (u.rejTimes.filter (fun x => decide (s.clk.now - x ≤ msTicks))).length → faulted .overRange 1) ∧
    (∀ ns, 1000000 ≤ ns → faulted (.indeterminate ns) 2) ∧
    (s.clk.running = true → s.tmu.nextLoop = n.val → (∀ x, s.tmu.loopAt = some x → x + 125 * msTicks ≤ s.clk.now) →
      (∃ t, exec (.speedLoopBack true) s = .next t ∧ t.speed n = { u with loop := 0 } ∧ t.tmu.nextLoop = (n.val + 1) % 8 ∧
        s.changesOnly [.tmu, .bist, .log, .hpo] t) ∧
      (∃ t, exec (.speedLoopBack false) s = .next t ∧ (t.speed n).loop = 1 ∧ (t.speed n).fault.getLsbD 3 = true ∧
        t.tmu.nextLoop = (n.val + 1) % 8 ∧ t.bist.failed.getLsbD 4 = true ∧ s.changesOnly [.tmu, .bist, .log, .hpo] t))) ∧
  (∀ s : State, s.clk.running = true → (s.domOn 6 = true ∨ s.domOn 7 = true) → s.speedOn s.tmu.nextLoop = false →
    (∀ x, s.tmu.loopAt = some x → x + 125 * msTicks ≤ s.clk.now) → ∀ ok, ∃ t, exec (.speedLoopBack ok) s = .next t ∧
      t.tmu = { s.tmu with nextLoop := (s.tmu.nextLoop + 1) % 8, loopAt := some s.clk.now } ∧ s.changesOnly [.tmu] t) ∧
  (∀ s : State, s.clk.running = true → s.clk.now % 500 = 0 → ∃ t, exec .motionUpdate s = .next t ∧ s.changesOnly [.tmu, .log, .hpo] t ∧
    t.tmu.chans = s.tmu.chans ∧ t.tmu.swatch = s.tmu.swatch ∧
    (∀ n, n < 8 → s.lotD.spUsed n = true →
      let c := s.speed n
      let dt := s.clk.now - c.stamps.headD c.startAt
      let beyond := 210000000 < (t.speed n).est ∨ 8 < (c.rejTimes.filter (fun x => decide (s.clk.now - x ≤ msTicks))).length
      (beyond → (t.speed n).fault.getLsbD 1 = true ∧ t.speedValid n = false) ∧ (¬ beyond → (t.speed n).fault = c.fault) ∧
      (t.speed n).stamps = c.stamps ∧
      (500000000 < dt → (t.speed n).est = 0) ∧
      (dt ≤ 500000000 → c.m ≠ 0 → dt * c.m ≤ c.span → (t.speed n).est = mHz c.m c.span) ∧
      (dt ≤ 500000000 → 0 < dt → (c.m = 0 ∨ c.span < dt * c.m) → (t.speed n).est = mHz 1 dt)) ∧
    (∀ n, s.lotD.spUsed n = false → t.speed n = s.speed n) ∧
    (∀ p u, p < 4 → s.lotD.spPair p = true → t.speedValid p = true → t.speedValid (p + 4) = true → (s.spair p).since = some u →
      (t.pairApart p = true → u + s.lotD.spPlaus p * msTicks ≤ s.clk.now → (t.spair p).fault = true) ∧
      (t.pairApart p = false → (t.spair p).fault = (s.spair p).fault ∧ (t.spair p).since = none)) ∧
    (∀ m, m < 4 → s.lotD.moType m = 2 → (s.motion m).ramp = true →
      (t.motion m).violated = (s.motion m).violated ∧
      (s.clk.now < (s.motion m).tr + s.lotD.moTmax m * (10 * msTicks) → (t.motion m).ramp = true) ∧
      ((s.motion m).tr + s.lotD.moTmax m * (10 * msTicks) ≤ s.clk.now → (t.motion m).ramp = false ∧ (t.motion m).stopped = true)) ∧
    (∀ m, m < 4 →
      let q := s.motion m
      let up := q.tr + s.lotD.moTmax m * (10 * msTicks)
      let above := s.lotD.envelope50k m q.tr q.vr s.clk.now < 50000 * t.moHigh m
      (s.lotD.moType m = 1 → q.ramp = true →
        (∀ u, q.fallback = false → t.moValid m = true → above → q.envSince = some u → u + msTicks ≤ s.clk.now →
          (t.motion m).ramp = false ∧ (t.motion m).stopped = true ∧ (t.motion m).violated = true ∧
          (q.violated = false → (t.motion m).cause = 1)) ∧
        (q.fallback = false → t.moValid m = true → ¬ above → s.clk.now < up →
          (t.motion m).ramp = ! (t.motion m).stand ∧ ((t.motion m).stand = true → (t.motion m).stopped = true)) ∧
        (q.fallback = false → t.moValid m = true → ¬ above → up ≤ s.clk.now → (t.motion m).ramp = false ∧ (t.motion m).stopped = true) ∧
        (q.fallback = true ∨ t.moValid m = false → (t.motion m).fallback = true ∧
          (s.clk.now < up → (t.motion m).ramp = true ∧ (t.motion m).violated = q.violated) ∧
          (up ≤ s.clk.now → (t.motion m).ramp = false ∧ (t.motion m).stopped = true))) ∧
      (q.ramp = false → q.stopped = true → (t.motion m).stopped = (decide (s.lotD.moType m = 0) || q.request)) ∧
      (∀ u, (s.lotD.moType m = 1 ∨ s.lotD.moType m = 3 ∨ s.lotD.moType m = 4) → q.ramp = false → s.lotD.moVmax m ≠ 0 → t.moValid m = true →
        1000 * s.lotD.moVmax m < t.moOver m → q.overSince = some u → u + s.lotD.moTlim m * msTicks ≤ s.clk.now →
        (t.motion m).violated = true ∧ (q.violated = false → (t.motion m).cause = 2)) ∧
      (∀ a u, s.lotD.moType m = 3 → q.ramp = false → s.w4.val.getLsbD (s.lotD.moEnable m) = true → q.enableSince = some a →
        a + s.lotD.moStart m * (10 * msTicks) ≤ s.clk.now → t.moValid m = true → (s.lotD.moRef m < 4 → t.pairValid (s.lotD.moRef m) = true) →
        t.moUnder m = true → q.underSince = some u → u + s.lotD.moTlim m * msTicks ≤ s.clk.now → t.moOver m ≤ 1000 * s.lotD.moVmax m →
        (t.motion m).violated = true ∧ (q.violated = false → (t.motion m).cause = 3)) ∧
      (q.ramp = false → t.moValid m = false → s.lotD.moType m = 4 → (t.motion m).violated = true ∧ (q.violated = false → (t.motion m).cause = 4)) ∧
      (∀ a, q.ramp = false → t.moValid m = false → s.lotD.moType m = 3 → s.w4.val.getLsbD (s.lotD.moEnable m) = true → q.enableSince = some a →
        a + s.lotD.moStart m * (10 * msTicks) ≤ s.clk.now →
        (t.motion m).violated = true ∧ (q.violated = false → (t.motion m).cause = 4)))) ∧
  (∀ (s : State) (m : Nat) (w8 : Lanes), m < 4 → s.lotD.moType m = 1 → w8.getLsbD (16 + m) = true → (s.motion m).request = false →
    (s.motion m).ramp = false → (s.motion m).stopped = false → s.moStand m (s.motion m) = false →
    ((s.motionTake w8).motion m).ramp = true ∧ ((s.motionTake w8).motion m).tr = s.clk.now ∧
    ((s.motionTake w8).motion m).vr = s.moHigh m ∧ ((s.motionTake w8).motion m).fallback = ! s.moValid m)

/-- The swatch of a module by itself: a request for now latches at once, one for a time ahead is scheduled, one for a time that has
passed latches with LATE, and one while a swatch is scheduled is refused with 0x0F00_0303; in a set of modules a member refuses, the lead
time is 1 ms, and a swatch is scheduled. A latch comes behind the channel events of its tick, and changes no channel. The scheduled latch, the gathering of the other modules' records with
its end after 100 ms, and a swatch that another module calls. Rules: R275, R277, R278. Model choices: log entries 60 and 62. -/
def Obligations.Swatch : Prop :=
  (∀ (s : State) (v : BitVec 64), s.clk.running = true →
    let id := (s.tmu.swatch.id + 1) % 2 ^ 32
    let latched (t : State) (tsw : Nat) (late : Bool) : Prop :=
      (∃ r, t.tmu.swatch.record = some r ∧ r.id = id ∧ r.origin = 0 ∧ r.tsw = tsw ∧ r.latchedAt = s.clk.now ∧ r.late = late) ∧
      t.tmu.swatch.state = 3 ∧ t.hpo = { s.hpo with reply := some .done } ∧
      ((∀ c, (s.tc c).due s.clk.now = false) → t.tmu = { s.tmu with swatch := t.tmu.swatch }) ∧
      s.changesOnly [.tmu, .hpo, .rcr, .pwr, .fresh] t
    let refused (k : Nat) : Prop := ∃ t, exec (.swatchRequest v) s = .next t ∧ t.hpo = { s.hpo with reply := some (.abort k) } ∧
      s.changesOnly [.hpo] t
    (s.swAlone = true → s.tmu.swatch.state ≠ 1 → v = 0 → ∃ t, exec (.swatchRequest v) s = .next t ∧ latched t s.clk.now false) ∧
    (s.swAlone = true → s.tmu.swatch.state ≠ 1 → v ≠ 0 → v.toNat ≤ s.clk.now → ∃ t, exec (.swatchRequest v) s = .next t ∧
      latched t v.toNat true) ∧
    (s.swAlone = true → s.tmu.swatch.state ≠ 1 → s.clk.now < v.toNat → ∃ t, exec (.swatchRequest v) s = .next t ∧
      t.hpo = { s.hpo with reply := some .done } ∧
      t.tmu.swatch = { s.tmu.swatch with id := id, origin := 0, tsw := v.toNat, late := false, state := 1 } ∧
      s.changesOnly [.tmu, .hpo] t) ∧
    (s.swAlone = true → s.tmu.swatch.state = 1 → refused 0x0F000303) ∧
    (s.swAlone = false → s.lotD.member ≠ 0 → refused 0x0F000201) ∧
    (s.swAlone = false → s.lotD.member = 0 → (s.cplRole = .solo ∨ s.cplRole = .active) →
      (v ≠ 0 → v.toNat < s.clk.now + msTicks → refused 0x0F000302) ∧
      (v = 0 ∨ s.clk.now + msTicks ≤ v.toNat → s.tmu.swatch.state = 1 → refused 0x0F000303) ∧
      (v = 0 ∨ s.clk.now + msTicks ≤ v.toNat → s.tmu.swatch.state ≠ 1 → s.tmu.swatch.state ≠ 2 →
        ∃ t, exec (.swatchRequest v) s = .next t ∧ t.hpo = { s.hpo with reply := some .done } ∧
          t.tmu.swatch = { s.tmu.swatch with
            id := id, origin := 0, tsw := if v = 0 then s.clk.now + 2 * msTicks else v.toNat, late := false, state := 1 } ∧
          s.changesOnly [.tmu, .hpo, .cpl] t))) ∧
  (∀ s : State,
    (s.clk.running = true → s.tmu.swatch.state = 1 → s.tmu.swatch.tsw ≤ s.clk.now → ∃ t, exec .swatchLatch s = .next t ∧
      (∃ r, t.tmu.swatch.record = some r ∧ r.id = s.tmu.swatch.id ∧ r.tsw = s.tmu.swatch.tsw ∧ r.latchedAt = s.clk.now ∧
        r.late = s.tmu.swatch.late) ∧
      t.tmu.swatch.state = (if s.tmu.swatch.origin = 1 ∨ s.tmu.swatch.origin = 2 ∨ s.gathers = [] then 3 else 2) ∧
      ((∀ c, (s.tc c).due s.clk.now = false) → t.tmu = { s.tmu with swatch := t.tmu.swatch }) ∧
      s.changesOnly [.tmu, .rcr, .pwr, .fresh] t) ∧
    (∀ recs : List (Nat × List Byte), s.tmu.swatch.state = 2 →
      let have_ (k : Nat) : Prop := s.tmu.swatch.held.getLsbD k = true ∨ (k < 16 ∧ ∃ r, (k, r) ∈ recs ∧ s.gathered k r = true)
      ((∀ k, k ∈ s.gathers → have_ k) → ∃ t, exec (.swatchGatherTimeout recs) s = .next t ∧ t.tmu.swatch.state = 3 ∧
        t.tmu.swatch.record = s.tmu.swatch.record ∧ t.tmu.chans = s.tmu.chans ∧ s.changesOnly [.tmu] t) ∧
      (∀ k, k ∈ s.gathers → k < 16 → ¬ have_ k → s.tmu.swatch.startedAt + 100 * msTicks ≤ s.clk.now →
        ∃ t, exec (.swatchGatherTimeout recs) s = .next t ∧ t.tmu.swatch.state = 4 ∧ t.tmu.swatch.held.getLsbD k = false ∧
          s.logged t 0x2500 0x11 1 0 4 ∧ s.hpoGens t ∧ t.tmu.chans = s.tmu.chans ∧ s.changesOnly [.tmu, .log, .hpo] t)) ∧
    (∀ (via : CtlVia) (id low : BitVec 32) (T : Nat), s.clk.running = true → s.ctlComes via → T % 2 ^ 32 = low.toNat →
      (s.clk.now < T → T < s.clk.now + 2 ^ 31 → ∃ t, exec (.controlSwatch via id low) s = .next t ∧
        t.tmu.swatch = { s.tmu.swatch with id := id.toNat, origin := 3, tsw := T, late := false, state := 1 } ∧
        t.tmu.chans = s.tmu.chans ∧ s.changesOnly (.tmu :: ctlBlocks via) t) ∧
      (T ≤ s.clk.now → s.clk.now < T + 2 ^ 31 → ∃ t, exec (.controlSwatch via id low) s = .next t ∧
        t.tmu.swatch.state = (if s.gathers = [] then 3 else 2) ∧
        (∃ r, t.tmu.swatch.record = some r ∧ r.id = id.toNat ∧ r.origin = 3 ∧ r.tsw = T ∧ r.latchedAt = s.clk.now ∧ r.late = true) ∧
        s.changesOnly ([.tmu, .rcr, .pwr, .fresh] ++ ctlBlocks via) t)))

/-- Time discipline: a symbol of the reference gives the offset and steps the discipline's states, the correction acts against the offset
within 200 ppm, and a member sends the symbol on with its residence time added; without an epoch a free time base takes the reference's
time; the symbol brings the reference's epoch. 1 ms without a symbol is HOLDOVER; a reference sends every 125 us; the round trip, once a
second, halves into the link allowance. Rules: R258, R259, R261. Model choices: log entries 2 and 69. -/
def Obligations.TimeDiscipline : Prop :=
  ∀ s : State,
    (∀ link carried res own ep, s.clk.running = true → s.isReference link = true → (s.released = false ∨ s.sle.epoch ≠ none) →
      ∃ t, exec (.syncSymbol link carried res own ep) s = .next t ∧ s.changesOnly [.clk, .fresh, .sle, .trk, .rcr] t ∧
      t.clk.lastSymbol = some s.clk.real ∧
      (∀ hops, link = .cascade hops → t.clk.forwarded = some (carried, res + own)) ∧
      (link = .crossLink → t.clk.forwarded = s.clk.forwarded) ∧
      (∀ e, ep = some e → t.clk.refEpoch = some e ∧
        (s.released = true → s.sup.mode ≠ .replay → t.sle.epoch = some e)) ∧
      (ep = none → t.clk.refEpoch = s.clk.refEpoch ∧ t.sle = s.sle ∧ t.trk = s.trk ∧ t.rcr = s.rcr) ∧
      (let allowance : Nat := match link with
        | .cascade hops => 8 * hops
        | .crossLink => s.clk.linkAllowanceNs
       let ref : Nat := 20 * carried + res + allowance
       let o : Int := 20 * (t.clk.now : Int) - (ref : Int)
       t.clk.now = (if s.clk.disc = .free ∧ s.sle.epoch = none then ref / 20 else s.clk.now) ∧ t.clk.offsetNs = o ∧
       (s.clk.disc = .free → t.clk.disc = (if s.sle.epoch = none then .acquiring else .holdover)) ∧
       (s.clk.disc = .acquiring → -50 ≤ o → o ≤ 50 → 63 ≤ s.clk.goodRun → t.clk.disc = .locked) ∧
       (s.clk.disc = .holdover → -50 ≤ o → o ≤ 50 → 63 ≤ s.clk.goodRun → t.clk.disc = .locked) ∧
       (s.clk.disc = .locked → (o < -1000 ∨ 1000 < o) → 1 ≤ s.clk.badRun → t.clk.disc = .holdover) ∧
       (s.clk.disc = .locked → -1000 ≤ o → o ≤ 1000 → t.clk.disc = .locked) ∧
       (t.clk.disc ≠ .holdover → -200000 ≤ t.clk.rateCorr ∧ t.clk.rateCorr ≤ 200000 ∧ (0 < o → t.clk.rateCorr ≤ 0) ∧
         (o < 0 → 0 ≤ t.clk.rateCorr) ∧ (o = 0 → t.clk.rateCorr = 0)) ∧
       (t.clk.disc = .holdover → t.clk.rateCorr = s.clk.rateCorr))) ∧
    (∀ u, s.clk.lastSymbol = some u → u + msTicks ≤ s.clk.real → (s.clk.disc = .acquiring ∨ s.clk.disc = .locked) →
      (s.released = false ∨ s.sle.epoch ≠ none → ∃ t, exec .disciplineHoldover s = .next t ∧
        t.clk = { s.clk with disc := .holdover, goodRun := 0, badRun := 0 } ∧
        s.logged t 0x2500 2 1 0 3 ∧ s.hpoGens t ∧ s.changesOnly [.clk, .log, .hpo] t) ∧
      (s.released = true → s.sle.epoch = none → ∃ t, exec .disciplineHoldover s = .next t ∧
        t.clk = { s.clk with disc := .holdover, goodRun := 0, badRun := 0 } ∧ (∃ e, t.sle.epoch = some e) ∧
        s.changesOnly [.clk, .log, .hpo, .sle, .trk, .rcr] t)) ∧
    (s.clk.running = true → ((s.caOn = true ∧ s.lotD.member = 0) ∨ (s.xlUp = true ∧ s.cplRole = .active)) →
      s.clk.lastSync + 125 * usTicks ≤ s.clk.now →
      ∃ t, exec .syncSymbolSend s = .next t ∧ t.clk = { s.clk with lastSync := s.clk.now } ∧ s.changesOnly [.clk] t) ∧
    (∀ ns, s.xlUp = true → (∀ u, s.cpl.tripTimeAt = some u → u + sTicks ≤ s.clk.real) →
      ∃ t, exec (.crossLinkRoundTrip ns) s = .next t ∧
      t.clk = { s.clk with linkAllowanceNs := ns / 2 } ∧ t.cpl = { s.cpl with tripTimeAt := some s.clk.real } ∧
      s.changesOnly [.clk, .cpl] t)

/-- AAQ_CONVERSION of analog inputs: outside the mode's band invalid at once with cause 1 or 2, valid again at the third conversion
in a row inside it; the comparators with their hysteresis; under a ground fault invalid with cause 3, under a fault of their
reference with cause 4. An analog pair is compared at the conversion of its second input while both are valid: the difference, and the
tolerance fault once it has been above the tolerance for its time. A pin that disagrees with the comparators at 3 readings latches code 7; LF that
does so cuts the group off with cause 5; 3 retained readings of a source below 18 V are fault 3, one inside its pulse or blanking window is discarded.
A die temperature of 125 degC halts with cause 10; US below 18 V is in current limit; 3 readings of a rail outside its window are a rail
fault; 2 bulk readings below 245 V are PFS, 3 that differ from PDM by more than 15 V are logged. Both references off at 2 checks halt with cause 6, one
of them is in fault until 10 checks are good. A ground fault begins at 10 readings of 0.5 V and ends after 1 s below 0.25 V. An urgent request of
SOUT is served before the entries of the table.
Rules: R43, R45, R51, R178, R211, R220, R291 to R302. Model choices: log entries 10 and 28. -/
def Obligations.AnalogConversions : Prop :=
  (∀ (s : State) (e : Fin 64) (raw : BitVec 16) (v : Int), s.convertible e = true → s.urgentOpen = false →
    let c := s.ach e
    let l := s.lotD
    let taken (t : State) : Prop := t.aaq.rounds.get 0 e = s.clk.now / 5000 + 1 ∧ (∀ m, m ≠ e.val → t.ach m = s.ach m) ∧
      (t.ach e).raw = raw.toNat ∧ (t.ach e).value = v ∧ (t.ach e).at_ = s.clk.now ∧ s.changesOnly [.aaq, .log, .hpo] t
    (e.val < 8 → l.aiMode e ≠ 3 → s.aaq.gnd = false → s.refBad e = false →
      (v < (bandOf (l.aiMode e)).1 → ∃ t, exec (.aaqConversion e raw v) s = .next t ∧ taken t ∧ (t.ach e).valid = false ∧
        (t.ach e).cause = 1 ∧ (t.ach e).run = 0) ∧
      ((bandOf (l.aiMode e)).1 ≤ v → (bandOf (l.aiMode e)).2 < v → ∃ t, exec (.aaqConversion e raw v) s = .next t ∧ taken t ∧
        (t.ach e).valid = false ∧ (t.ach e).cause = 2 ∧ (t.ach e).run = 0) ∧
      ((bandOf (l.aiMode e)).1 ≤ v → v ≤ (bandOf (l.aiMode e)).2 → ∃ t, exec (.aaqConversion e raw v) s = .next t ∧ taken t ∧
        (t.ach e).cause = 0 ∧ (t.ach e).run = min 3 (c.run + 1) ∧ (t.ach e).valid = (c.valid || decide (2 ≤ c.run)) ∧
        (2 ≤ c.run → c.valid = true → c.below = true → (t.ach e).below = decide (v < l.aiHigh e)) ∧
        (2 ≤ c.run → c.valid = true → c.below = false → (t.ach e).below = decide (v < l.aiHigh e - l.aiHyst e)) ∧
        (2 ≤ c.run → c.valid = true → c.above = true → (t.ach e).above = decide (l.aiLow e < v)) ∧
        (2 ≤ c.run → c.valid = true → c.above = false → (t.ach e).above = decide (l.aiLow e + l.aiHyst e < v)))) ∧
    (e.val < 8 → l.aiMode e ≠ 3 → s.aaq.gnd = true → ∃ t, exec (.aaqConversion e raw v) s = .next t ∧ taken t ∧
      (t.ach e).valid = false ∧ (t.ach e).cause = 3) ∧
    (e.val < 8 → l.aiMode e ≠ 3 → s.aaq.gnd = false → s.refBad e = true → ∃ t, exec (.aaqConversion e raw v) s = .next t ∧ taken t ∧
      (t.ach e).valid = false ∧ (t.ach e).cause = 4) ∧
    ((e.val = 37 ∨ e.val = 38) → 1250 ≤ v → s.sup.pfsOrder = 0 → s.sup.mode ≠ .off → s.sup.mode ≠ .parked → s.sup.mode ≠ .safeHalt → ∃ t,
      exec (.aaqConversion e raw v) s = .next t ∧ s.halted 10 t ∧ t.otp = s.otp) ∧
    (e.val = 26 → v < 18000 → s.pwr.us = .on → ∃ t, exec (.aaqConversion e raw v) s = .next t ∧
      t.pwr.usMv = reading v ∧ t.pwr.us = .limit ∧ t.pwr.usSince = s.clk.real ∧ (∀ d, d < 10 → (t.dom d).state = (s.dom d).state) ∧
      t.aaq.chans = s.aaq.chans ∧ s.changesOnly [.aaq, .pwr, .fresh] t)) ∧
  (∀ (s : State) (e : Fin 64) (raw : BitVec 16) (v : Int), s.convertible e = true → s.urgentOpen = false →
    let q := s.aaq
    (∀ p : Nat, p < 4 → e.val = p + 4 → s.lotD.apUsed p = true → q.rounds.get 0 p = s.clk.now / 5000 + 1 →
      ∃ t, exec (.aaqConversion e raw v) s = .next t ∧ s.changesOnly [.aaq, .log, .hpo] t ∧ (∀ k, k ≠ p → t.apair k = s.apair k) ∧
      (((t.ach p).valid = false ∨ (t.ach e).valid = false) → t.apair p = { s.apair p with since := none }) ∧
      ((t.ach p).valid = true → (t.ach e).valid = true →
        let d := ((t.ach p).value - (t.ach e).value).natAbs
        (t.apair p).diff = d ∧
        (d ≤ s.lotD.apTol p → (t.apair p).fault = (s.apair p).fault ∧ (t.apair p).since = none) ∧
        (∀ u, s.lotD.apTol p < d → (s.apair p).since = some u → u + s.lotD.apTime p * (10 * msTicks) ≤ s.clk.now →
          (t.apair p).fault = true) ∧
        (s.lotD.apTol p < d → (s.apair p).since = none → (t.apair p).since = some s.clk.now))) ∧
    (∀ n : Nat, e.val = n + 8 → n < 16 → s.urgentFor n = none →
      let off := ((s.out n).pinLow = true ∧ 6500 ≤ v) ∨ ((s.out n).pinHigh = true ∧ v ≤ ((s.grp (outGrp n)).mv : Int) - 2700)
      (off → 2 ≤ (s.out n).disagree → s.lotD.oMode n ≠ 2 → (s.out n).code = 0 → ∃ t, exec (.aaqConversion e raw v) s = .next t ∧
        (t.out n).code = 7 ∧ ((s.grp (outGrp n)).state ≠ .unused → (t.grp (outGrp n)).state = .fault) ∧
        s.changesOnly [.aaq, .sout, .log, .hpo] t) ∧
      (¬ off → ∃ t, exec (.aaqConversion e raw v) s = .next t ∧ (t.out n).disagree = 0 ∧ (t.out n).mv = reading v ∧
        (t.out n).code = (s.out n).code ∧ (∀ g, t.grp g = s.grp g) ∧ s.changesOnly [.aaq, .sout] t)) ∧
    (∀ g : Nat, g < 2 → e.val = g + 24 →
      ((s.grp g).lf.off v = true → (s.grp g).disagree = 2 → (s.grp g).latch = false → ∃ t, exec (.aaqConversion e raw v) s = .next t ∧
        (t.grp g).latch = true ∧ (t.grp g).cause = 5 ∧ (t.grp g).mv = reading v ∧ (∀ n, n ∈ grpOuts g → t.switchOn s.cplRole n = false) ∧
        s.changesOnly [.aaq, .sout, .log, .hpo, .rcr, .tmu, .fresh] t) ∧
      ((s.grp g).lf.off v = false → ∃ t, exec (.aaqConversion e raw v) s = .next t ∧
        t.grp g = { s.grp g with mv := reading v, disagree := 0 } ∧ t.sout.outs = s.sout.outs ∧ s.changesOnly [.aaq, .sout] t)) ∧
    (∀ k : Fin 8, e.val = k.val + 27 →
      (s.srcBlank k = true → ∃ t, exec (.aaqConversion e raw v) s = .next t ∧ t.sin = s.sin ∧ t.aaq.srcLow = q.srcLow ∧ s.changesOnly [.aaq] t) ∧
      (s.srcBlank k = false → v < 18000 → s.srcLive k = true → s.srcRuns k = true → (s.src k).low = false → 2 ≤ q.srcLow.get 0 k →
        ∃ t, exec (.aaqConversion e raw v) s = .next t ∧ (t.src k).code = 3 ∧ (t.src k).state = .retryWait ∧
        (∀ n, n < 48 → s.lotD.chSource n = some k.val → (t.chan n).fault.getLsbD 3 = true) ∧ s.changesOnly [.aaq, .sin, .log, .hpo] t) ∧
      (s.srcBlank k = false → 18000 ≤ v → ∃ t, exec (.aaqConversion e raw v) s = .next t ∧ t.aaq.srcLow.get 0 k = 0 ∧
        t.src k = { s.src k with mv := reading v } ∧ t.sin.chans = s.sin.chans ∧ s.changesOnly [.aaq, .sin] t))) ∧
  (∀ (s : State) (e : Fin 64) (raw : BitVec 16) (v : Int), s.convertible e = true → s.urgentOpen = false →
    let q := s.aaq
    let runs : Prop := s.sup.pfsOrder = 0 ∧ s.sup.mode ≠ .off ∧ s.sup.mode ≠ .parked ∧ s.sup.mode ≠ .safeHalt
    (e.val = 36 →
      let off := vrefOff v (s.vrefCal true)
      (q.devA = true → off = true → 1 ≤ q.badBoth → runs → ∃ t, exec (.aaqConversion e raw v) s = .next t ∧ s.halted 6 t) ∧
      (q.devA = true → off = false → 1 ≤ q.badA → ∃ t, exec (.aaqConversion e raw v) s = .next t ∧ t.aaq.refA = true ∧
        (q.gnd = false → q.refA = false → ∀ n, n < 4 → (t.ach n).valid = false ∧ (t.ach n).cause = 4 ∨ (s.ach n).cause = 4) ∧
        s.changesOnly [.aaq, .bist, .log, .hpo] t) ∧
      (q.devA = false → off = true → 1 ≤ q.badB → ∃ t, exec (.aaqConversion e raw v) s = .next t ∧ t.aaq.refB = true ∧
        s.changesOnly [.aaq, .bist, .log, .hpo] t) ∧
      (q.devA = false → off = false → ∃ t, exec (.aaqConversion e raw v) s = .next t ∧
        t.aaq.refA = (q.refA && decide (q.goodA < 9)) ∧ t.aaq.refB = (q.refB && decide (q.goodB < 9)) ∧ t.sup = s.sup ∧
        s.changesOnly [.aaq, .bist, .log, .hpo] t)) ∧
    (∀ d : Nat, d < 10 → e.val = d + 39 → s.domOn d = true →
      (railOutside d v = true → 2 ≤ q.railBad.get 0 d → runs → ∃ t, exec (.aaqConversion e raw v) s = .next t ∧ t.domOn d = false ∧
        (t.dom d).faults = ((s.dom d).faults + 1) % 2 ^ 32 ∧
        (s.restartsOnce d = false → s.halted (if d = 0 then 9 else 11) t) ∧ (s.restartsOnce d = true → t.sup.mode = s.sup.mode)) ∧
      (railOutside d v = true → q.railBad.get 0 d < 2 → ∃ t, exec (.aaqConversion e raw v) s = .next t ∧
        t.aaq.railBad.get 0 d = q.railBad.get 0 d + 1 ∧ (t.dom d).state = (s.dom d).state ∧ s.changesOnly [.aaq, .pwr] t) ∧
      (railOutside d v = false → ∃ t, exec (.aaqConversion e raw v) s = .next t ∧ t.aaq.railBad.get 0 d = 0 ∧
        t.dom d = { s.dom d with mv := reading v } ∧ s.changesOnly [.aaq, .pwr] t)) ∧
    (e.val = 49 →
      (v < 245 → 1 ≤ q.bulkLow → s.sup.pfsOrder = 0 → ∃ t, exec (.aaqConversion e raw v) s = .next t ∧ t.sup.pfsOrder = 1 ∧
        t.pwr.mains = .pfs ∧ t.sup.driveRemoved = true ∧ t.outputsOff) ∧
      (v < 245 → q.bulkLow = 0 → ∃ t, exec (.aaqConversion e raw v) s = .next t ∧ t.aaq.bulkLow = 1 ∧ t.pwr.bulkV = reading v ∧
        t.sup = s.sup ∧ s.changesOnly [.aaq, .pwr, .log, .hpo] t) ∧
      (245 ≤ v → s.bulkOff v = true → q.bulkApart = 2 → ∃ t, exec (.aaqConversion e raw v) s = .next t ∧
        s.logged t 0x260B 4 1 0 (reading v) ∧ t.aaq.bulkLow = 0 ∧ s.changesOnly [.aaq, .pwr, .log, .hpo] t)) ∧
    (e.val = 50 →
      (500 ≤ v.natAbs → q.gnd = false → 9 ≤ q.gndRun → ∃ t, exec (.aaqConversion e raw v) s = .next t ∧ t.aaq.gnd = true ∧
        (∀ n, n < 8 → (s.ach n).cause = 3 ∨ (t.ach n).cause = 3 ∧ (t.ach n).valid = false) ∧ s.changesOnly [.aaq, .log, .hpo] t) ∧
      (∀ u, v.natAbs < 250 → q.gnd = true → q.gndLow = some u → u + sTicks ≤ s.clk.now → ∃ t, exec (.aaqConversion e raw v) s = .next t ∧
        t.aaq.gnd = false ∧ t.aaq.offset = v ∧ s.changesOnly [.aaq, .log, .hpo] t) ∧
      (250 ≤ v.natAbs → v.natAbs < 500 → q.gndWarn = none → ∃ t, exec (.aaqConversion e raw v) s = .next t ∧
        s.logged t 0x2348 5 1 0 (v.natAbs % 65536) ∧ t.aaq.gnd = q.gnd ∧ t.aaq.gndRun = 0 ∧ s.changesOnly [.aaq, .log, .hpo] t))) ∧
  (∀ (s : State) (e : Fin 64) (raw : BitVec 16) (v : Int) (n u : Nat), e.val = n + 8 → n < 16 →
    (s.urgentFor n = some u → ∃ t, exec (.aaqConversion e raw v) s = .next t ∧ (t.out n).mv = reading v ∧ t.aaq.urgent = s.aaq.urgent + 1 ∧
      t.aaq.urgentAt = some u ∧ t.aaq.rounds = s.aaq.rounds ∧ (∀ x, s.sout.test = some x → ∃ y, t.sout.test = some y ∧
        y = { x with urgent := x.urgent ++ [(n, reading v)] }) ∧ s.changesOnly [.aaq, .sout, .log, .hpo] t) ∧
    (s.urgentFor n = none → s.urgentOpen = true → exec (.aaqConversion e raw v) s = .next s))

/-! ### The host port and the trunk -/

/-- The checks of a record: parked, a repeated tag, the limit of 8, the access checks. A record that is refused changes nothing but
the host port's own state, and of a fuse repair refused for the state what 0x2800:09 shows. Rules: R320, R322, R323, R330, R485. Model choices: log entry 43. -/
def Obligations.RecordChecks : Prop :=
  ∀ (s : State) (c : Instr) (ty len : Nat) (tag : Byte) (a : BitVec 32),
    ((c = .read tag a ∧ ty = 0x10 ∧ len = 0) ∨ (∃ b, c = .write tag a b ∧ ty = 0x11 ∧ len = b.length) ∨
     (c = .beatRead tag a ∧ ty = 0x12 ∧ len = 0) ∨ (∃ b, c = .beatWrite tag a b ∧ ty = 0x13 ∧ len = b.length) ∨
     (∃ o n, c = .blockRead tag a o n ∧ ty = 0x14 ∧ len = 6) ∨ (∃ o d, c = .blockWrite tag a o d ∧ ty = 0x15 ∧ len = 4 + d.length)) →
    let refused (k : Nat) : Prop := ∃ t, exec c s = .next t ∧ t.hpo.reply = some (.abort k) ∧ s.changesOnly [.hpo] t
    (s.domOn 3 = false → exec c s = .next s) ∧
    (s.domOn 3 = true → s.sup.mode = .parked → refused 0x0F000401) ∧
    (s.domOn 3 = true → s.sup.mode ≠ .parked →
      (∀ k, s.hpo.kept.find? (fun k => decide (k.tag = tag.toNat)) = some k →
        (k.type = ty → k.addr = a.toNat → exec c s = .next { s with hpo := { s.hpo with reply := some k.reply } }) ∧
        ((k.type ≠ ty ∨ k.addr ≠ a.toNat) → refused 0x0F000403)) ∧
      ((∀ k, k ∈ s.hpo.kept → k.tag ≠ tag.toNat) → (∀ o, o ∈ s.hpo.out → o.rec0.tag ≠ tag.toNat) → 8 ≤ s.hpo.load →
        refused 0x0F000402)) ∧
    (s.recordFree tag → s.programBusy (a.toNat / 4096) (a.toNat / 16 % 256) = false → ∀ k, s.accessRefusal ty a.toNat len = some k →
      ∃ t, exec c s = .next t ∧ t.answered ty tag a (.abort k) ∧ s.changesOnly [.hpo, .bist] t ∧
        (a.toNat / 16 % 2 ^ 24 ≠ 0x280008 ∨ k ≠ 0x0F000408 → t.bist = s.bist))

/-- READ answers the value of an entry, RECORD_COMPLETE that of the record whose turn it is; a beat of a node word at offset 0
latches value and tag for 1 ms, and the later beats come from the latch; BLOCK READ answers offset, generation and bytes. WRITE and
OD_WRITE of the wake delay; BEAT WRITE of a compare target, held until its highest beat and for 1 ms, each entry for itself;
BLOCK WRITE of the lot image in ascending offset. Rules: R99, R321, R322, R324 to R327. Model choices: log entries 43 and 44. -/
def Obligations.ObjectAccess : Prop :=
  (∀ s : State,
    (∀ (tag : Byte) (a : BitVec 32) (r : OdRow), odRow (a.toNat / 4096) (a.toNat / 16 % 256) = some r → a.toNat / 4096 ≠ 0x1E00 →
      s.accessRefusal 0x10 a.toNat 0 = none → s.odReadRefusal (a.toNat / 4096) (a.toNat / 16 % 256) = none →
      let answer := Reply.data (leBytes r.ty.size (s.odValue (a.toNat / 4096) (a.toNat / 16 % 256) r))
      (s.recordFree tag → ∃ t, exec (.read tag a) s = .next t ∧ t.answered 0x10 tag a answer ∧ s.changesOnly [.hpo, .pwr, .fresh, .tmu] t ∧
        (a.toNat / 16 % 256 ≠ 0x0C → t.tmu = s.tmu)) ∧
      (∀ rest, s.hpo.out = { rec0 := ⟨0x10, tag.toNat, a.toNat, 0, []⟩ } :: rest → s.domOn 3 = true → s.sup.mode ≠ .parked →
        ∃ t, exec .recordComplete s = .next t ∧ t.hpo.kept.getLast? = some ⟨tag.toNat, 0x10, a.toNat, answer⟩ ∧
          t.hpo.out.head? = some { rec0 := ⟨0x10, tag.toNat, a.toNat, 0, []⟩, final := some answer, started := true } ∧
          s.changesOnly [.hpo, .pwr, .fresh, .tmu] t)) ∧
    (∀ w : Fin 2048, s.domOn 3 = true → s.sup.mode ≠ .parked → s.domOn 0 = true →
      let latch : BeatLatch := ⟨0x3000 + w.val, (s.view w).val.toNat, (s.view w).tag.toNat, s.clk.real⟩
      (∃ t, exec (.nodeWordRead w) s = .next t ∧ t.nmt = { s.nmt with beat := some latch } ∧
        t.hpo = { s.hpo with reply := some (.data (leBytes 4 (s.view w).val.toNat)) } ∧ s.changesOnly [.hpo, .nmt] t) ∧
      (∀ (tag : Byte) (a : BitVec 32), s.recordFree tag →
        (a.toNat = (0x3000 + w.val) * 4096 + 16 → ∃ t, exec (.beatRead tag a) s = .next t ∧
          t.answered 0x12 tag a (.data (leBytes 4 (s.view w).val.toNat)) ∧ t.nmt = { s.nmt with beat := some latch } ∧
          s.changesOnly [.hpo, .nmt] t) ∧
        (∀ b o, (o = 4 ∨ o = 8 ∨ o = 12) → a.toNat = (0x3000 + w.val) * 4096 + 16 + o → s.nmt.beat = some b →
          b.addr = 0x3000 + w.val → s.clk.real < b.at_ + msTicks → ∃ t, exec (.beatRead tag a) s = .next t ∧
          t.answered 0x12 tag a (.data (leBytes 4 (b.val / 256 ^ o))) ∧ s.changesOnly [.hpo] t))) ∧
    (∃ t, exec .beatLatchLapse s = .next t ∧ s.changesOnly [.nmt] t ∧ t.nmt = { s.nmt with beat := t.nmt.beat, capBeat := t.nmt.capBeat } ∧
      (∀ b, s.nmt.beat = some b → t.nmt.beat = (if s.clk.real < b.at_ + msTicks then some b else none)) ∧
      (∀ b, s.nmt.capBeat = some b → t.nmt.capBeat = (if s.clk.real < b.at_ + msTicks then some b else none))) ∧
    (∀ (tag : Byte) (a off : BitVec 32) (len : BitVec 16), s.recordFree tag → s.accessRefusal 0x14 a.toNat 6 = none → len ≠ 0 →
      len.toNat ≤ 1024 → a.toNat / 4096 ≠ 0x2A00 → s.domainRefusal (a.toNat / 4096) = none →
      let d := s.domain (a.toNat / 4096) (a.toNat / 16 % 256)
      off.toNat ≤ d.length → ∃ t, exec (.blockRead tag a off len) s = .next t ∧
        t.answered 0x14 tag a (.data (leBytes 4 off.toNat ++ leBytes 4 (s.generation (a.toNat / 4096) (a.toNat / 16 % 256)) ++
          (d.drop off.toNat).take len.toNat)) ∧ s.changesOnly [.hpo] t)) ∧
  (∀ (s : State), s.domOn 2 = true → s.sup.mode ≠ .parked →
    (∀ v : BitVec 64, v.toNat < 2 ^ 32 → (v.toNat ≤ 31536000 → ∃ t, exec (.odWrite 0x2000 6 v) s = .next t ∧
        t.sup = { s.sup with wakeDelay := v.toNat } ∧ t.hpo.reply = some .done ∧ s.changesOnly [.sup, .hpo] t) ∧
      (31536000 < v.toNat → ∃ t, exec (.odWrite 0x2000 6 v) s = .next t ∧ t.hpo.reply = some (.abort 0x06090031) ∧
        s.changesOnly [.hpo] t)) ∧
    (∀ tag, s.recordFree tag →
      (∀ v, v ≤ 31536000 → ∃ t, exec (.write tag 0x02000060 (leBytes 4 v)) s = .next t ∧ t.answered 0x11 tag 0x02000060 .done ∧
        t.sup = { s.sup with wakeDelay := v } ∧ s.changesOnly [.sup, .hpo] t) ∧
      (∀ (c : Fin 256) (a : BitVec 32) (b : List Byte), s.domOn 0 = true → b.length = 4 →
        let mine := s.hpo.held.find? (fun h => decide (h.addr = 256 * (0x2400 + c.val) + 5))
        let others := s.hpo.held.filter (fun h => decide (h.addr ≠ 256 * (0x2400 + c.val) + 5))
        (a.toNat = (0x2400 + c.val) * 4096 + 0x50 → ∃ t, exec (.beatWrite tag a b) s = .next t ∧ t.answered 0x13 tag a .done ∧
          t.hpo.held = others ++ [⟨256 * (0x2400 + c.val) + 5, 4, b, s.clk.real⟩] ∧ s.changesOnly [.hpo] t) ∧
        (a.toNat = (0x2400 + c.val) * 4096 + 0x54 → mine = none → ∃ t, exec (.beatWrite tag a b) s = .next t ∧
          t.answered 0x13 tag a (.abort 0x0F000405) ∧ t.hpo.held = s.hpo.held ∧ s.changesOnly [.hpo] t) ∧
        (∀ h, a.toNat = (0x2400 + c.val) * 4096 + 0x54 → mine = some h → h.next = 4 →
          (s.clk.real < h.at_ + msTicks → s.lotD.chOwner c = 3 → (s.tc c).mode = 1 → (s.tc c).link = 0 →
            ∃ t, exec (.beatWrite tag a b) s = .next t ∧ t.answered 0x13 tag a .done ∧ t.hpo.held = others ∧
              (t.tc c).target = leNat (h.bytes ++ b) ∧ s.changesOnly [.tmu, .hpo, .rcr] t) ∧
          (h.at_ + msTicks ≤ s.clk.real → ∃ t, exec (.beatWrite tag a b) s = .next t ∧ t.answered 0x13 tag a (.abort 0x0F000405) ∧
            t.hpo.held = others ∧ s.changesOnly [.hpo] t))) ∧
      (∀ (off : BitVec 32) (d : List Byte), s.sup.mode = .configuring → 1 ≤ d.length → d.length ≤ 1024 →
        (off = 0 → ∃ t, exec (.blockWrite tag 0x01F50000 off d) s = .next t ∧ t.answered 0x15 tag 0x01F50000 .done ∧
          t.lot = { s.lot with image := d } ∧ s.changesOnly [.lot, .hpo] t) ∧
        (off ≠ 0 → off.toNat = s.lot.image.length → off.toNat + d.length ≤ 2097152 →
          ∃ t, exec (.blockWrite tag 0x01F50000 off d) s = .next t ∧ t.answered 0x15 tag 0x01F50000 .done ∧
            t.lot = { s.lot with image := s.lot.image ++ d } ∧ s.changesOnly [.lot, .hpo] t) ∧
        (off ≠ 0 → off.toNat ≠ s.lot.image.length → ∃ t, exec (.blockWrite tag 0x01F50000 off d) s = .next t ∧
          t.answered 0x15 tag 0x01F50000 (.abort 0x0F000404) ∧ s.changesOnly [.hpo] t))) ∧
    (∃ t, exec .beatWriteTimeout s = .next t ∧ s.changesOnly [.hpo] t ∧ t.hpo = { s.hpo with held := t.hpo.held } ∧
      ∀ h, h ∈ t.hpo.held ↔ h ∈ s.hpo.held ∧ s.clk.real < h.at_ + msTicks))

/-- CYCLE_FRAME: a frame that fails its checks, repeats n_c, or comes in on HB where the partner's frame of the same tick goes first on
HA, is discarded and counted; a frame of another host is answered with a Response Frame of one BUSY record that names the partner; the
partner's frame is accepted: its words land, its records are queued, and a Response Frame goes out to it on that port, with its n_c, the
host-out image and the answers that wait; RELEASE ends the binding. The host watchdog: 3.5 periods without a landing make the host words
STALE, 10.5 periods FAULT, and the binding ends; a landing at that very tick wins. Rules: R307 to R319, R329. Model choices: log entries 14
and 43. -/
def Obligations.CycleFrames : Prop :=
  (∀ (s : State) (port : HostPort) (bytes : List Byte), s.frameComes port bytes →
    let framed (f : CycleFrame) (pay : List Byte) : List Byte :=
      withFcs (ethFrame (leBytes 6 f.mac) s.macBytes s.etherNow (pay ++ leBytes 4 (linkCheck s.macBytes f.nc pay)))
    let onPort : Nat := match port with
      | .ha => 1
      | .hb => 2
    (checkFrame s.macBytes bytes = .bad → ∃ t, exec (.cycleFrame port bytes) s = .next t ∧
      t.hpo = { s.hpo with discarded := (s.hpo.discarded + 1) % 2 ^ 32 } ∧ s.changesOnly [.hpo] t) ∧
    (checkFrame s.macBytes bytes = .badLink → ∃ t, exec (.cycleFrame port bytes) s = .next t ∧
      t.hpo = { s.hpo with discarded := (s.hpo.discarded + 1) % 2 ^ 32, linkFails := (s.hpo.linkFails + 1) % 2 ^ 32 } ∧
      s.changesOnly [.hpo] t) ∧
    (∀ f, checkFrame s.macBytes bytes = .ok f → s.sup.mode ≠ .parked →
      (s.hpo.partner ≠ none → s.hpo.partner ≠ some f.mac → ∃ t, exec (.cycleFrame port bytes) s = .next t ∧
        t.hpo.busy = (s.hpo.busy + 1) % 2 ^ 32 ∧ t.hpo.partner = s.hpo.partner ∧ t.hpo.nc = s.hpo.nc ∧ t.hpo.out = s.hpo.out ∧
        t.hpo.responsePort = onPort ∧
        t.hpo.response = framed f (s.responseHead f.nc ((if s.hpo.out = [] then 0 else 1) + 4) s.clk.now 0 1 ++
          recBytes 0x24 0 0 (leBytes 1 s.hpo.active ++ [0] ++ leBytes 6 (s.hpo.partner.getD 0))) ∧ s.changesOnly [.hpo, .fresh] t) ∧
      ((s.hpo.partner = none ∨ s.hpo.partner = some f.mac) → (s.hpo.nc = some f.nc ∨ s.yields port f = true) →
        ∃ t, exec (.cycleFrame port bytes) s = .next t ∧
        t.hpo = { s.hpo with discarded := (s.hpo.discarded + 1) % 2 ^ 32 } ∧ s.changesOnly [.hpo] t) ∧
      ((s.hpo.partner = none ∨ s.hpo.partner = some f.mac) → s.hpo.nc ≠ some f.nc → s.yields port f = false → f.release = false →
        let gap := match s.hpo.nc with
          | some n => decide (f.nc ≠ (n + 1) % 65536)
          | none => false
        let flags (more : Bool) : Nat := (if more then 1 else 0) + (if gap then 2 else 0) + (if f.words.length = s.lotD.slots 5 then 0 else 4)
        ∃ t, exec (.cycleFrame port bytes) s = .next t ∧ t.hpo.partner = some f.mac ∧ t.hpo.nc = some f.nc ∧ t.hpo.seq = f.nc ∧
          t.hpo.accepted = (s.hpo.accepted + 1) % 2 ^ 32 ∧ t.hpo.active = onPort ∧ t.hpo.responsePort = onPort ∧
          (∃ more n ans, t.hpo.response = framed f
            (s.responseHead f.nc (flags more) s.clk.now (s.lotD.slots 6) n ++ outBytes s.hostOut ++ ans) ∧
            (s.hpo.out = [] → s.hpo.heldFor f.mac = [] → more = ! f.recs.isEmpty ∧ n = 0 ∧ ans = [])) ∧
          (∀ n, s.hpo.nc = some n → f.nc ≠ (n + 1) % 65536 → t.hpo.gaps = (s.hpo.gaps + 1) % 2 ^ 32) ∧
          (∀ n, s.hpo.nc = some n → f.nc = (n + 1) % 65536 → t.hpo.gaps = s.hpo.gaps) ∧
          (f.words.length = s.lotD.slots 5 → t.hpo.landed = true ∧ t.hpo.tLast = s.clk.now ∧ t.hpo.period = f.period ∧ t.hpo.quality = 0 ∧
            ∀ i w x, f.words[i]? = some x → s.lotD.slotWord 5 i = some w → t.landing w = ⟨x, 0x30, 0⟩) ∧
          (f.words.length ≠ s.lotD.slots 5 → t.hpo.landed = s.hpo.landed ∧ t.hpo.quality = s.hpo.quality ∧ t.nmt = s.nmt) ∧
          (s.hpo.out = [] → f.recs.length = 1 → ∀ q, q ∈ f.recs → (∀ k, k ∈ s.hpo.kept → k.tag ≠ q.tag) → t.hpo.out = [{ rec0 := q }]) ∧
          s.landsOnly [.hpo, .fresh, .nmt, .tmu, .rcr] t) ∧
      ((s.hpo.partner = none ∨ s.hpo.partner = some f.mac) → s.hpo.nc ≠ some f.nc → s.yields port f = false → f.release = true →
        ∃ t, exec (.cycleFrame port bytes) s = .next t ∧ t.hpo.partner = none ∧ t.hpo.nc = none ∧ t.hpo.out = [] ∧ t.hpo.kept = [] ∧
          t.hpo.held = [] ∧ (∀ c, t.sup.cmd = some c → c.tag = none) ∧
          s.landsOnly [.hpo, .fresh, .nmt, .tmu, .rcr, .sup, .cpl, .otp, .bist] t))) ∧
  (∀ s : State, s.hpo.landed = true →
    (s.hpo.quality = 0 → s.hpo.tLast + 175 * s.hpo.period ≤ s.clk.now →
      (s.clk.now = s.hpo.tLast + 175 * s.hpo.period → s.landingWaits = false) → ∃ t, exec .hostStale s = .next t ∧
      t.hpo = { s.hpo with quality := 2 } ∧ s.changesOnly [.hpo] t) ∧
    (s.clk.now = s.hpo.tLast + 175 * s.hpo.period → s.landingWaits = true → exec .hostStale s = .next s) ∧
    (s.clk.now = s.hpo.tLast + 525 * s.hpo.period → s.landingWaits = true → exec .hostWatchdogExpiry s = .next s) ∧
    (s.hpo.tLast + 525 * s.hpo.period ≤ s.clk.now →
      (s.clk.now = s.hpo.tLast + 525 * s.hpo.period → s.landingWaits = false) →
      ∃ t, exec .hostWatchdogExpiry s = .next t ∧ t.hpo.quality = 3 ∧
      t.hpo.landed = false ∧ t.hpo.partner = none ∧ t.hpo.out = [] ∧ t.hpo.kept = [] ∧
      (s.hpo.partner ≠ none → t.hpo.releases = (s.hpo.releases + 1) % 2 ^ 32) ∧ s.changesOnly [.hpo, .sup, .cpl, .otp, .bist] t))

/-- The trunk's cycle: a start numbers the cycle and sends its frames on both ports; an accepted copy of which the other has not come lands,
and a GOOD station of which nothing has landed turns STALE; a station whose watchdog has run out goes to FAULT with an image of 0, but a
landing at that very tick wins. A returning copy of either direction that passes R365: each station's slot is judged once per direction; a
failure counts, an accepted one is kept; with the second copy the record lands, where the two agree or the other has failed, with quality,
data and the earlier stamp, and two accepted ones that differ land nothing and count. The trunk halt-release bit is judged on the records of
its station: the stamps of its rise and of its fall make the accepted edge, and a record that is missing discards the pulse. Rules: R236,
R349, R361, R364 to R368. Model choices: log entries 14 and 46. -/
def Obligations.Trunk : Prop :=
  (∀ s : State, s.trk.running = true → s.clk.running = true → s.lotD.hrType ≠ 1 →
    (∀ k, (s.cplRole = .solo ∨ s.cplRole = .active) → s.lotD.trkCycle ≠ 0 → s.clk.now = s.trk.epoch + k * s.lotD.trkCycle → k < 2 ^ 32 →
      s.trk.cycle ≠ some k → s.domOn 4 = true → (s.lotD.stations.map (·.addr)).Nodup →
      ∃ t, exec .trunkCycleStart s = .next t ∧ t.trk.cycle = some k ∧ t.trk.sent.length = s.lotD.frames.length ∧
        t.trk.sentB.length = s.lotD.frames.length ∧
        (∀ j f, s.lotD.frames[j]? = some f → t.trk.sent[j]? = some (t.trunkFrame k j s.lotD.frames.length false f) ∧
          t.trk.sentB[j]? = some (t.trunkFrame k j s.lotD.frames.length true f)) ∧
        (∀ e c, e ∈ s.lotD.stations → s.trk.cycle = some c →
          let v := s.copiesNow.st e.addr
          (v.copyA = none → v.copyB = none → v.landedNow = false →
            (t.st e.addr).quality = (if v.quality = 0 then 2 else v.quality) ∧
            (t.st e.addr).goodPrev = v.goodNow ∧ (t.st e.addr).image = v.image ∧ (t.st e.addr).landed = v.landed) ∧
          (∀ d t0, (v.judgedA = false ∨ v.judgedB = false) → (v.copyA = some (0, d, t0) ∧ v.copyB = none ∨ v.copyA = none ∧ v.copyB = some (0, d, t0)) →
            (v.quality ≠ 3 ∨ v.goodPrev = true) →
            (t.st e.addr).quality = 0 ∧ (t.st e.addr).image = d % 2 ^ e.width ∧ (t.st e.addr).landed = v.landed + 1 ∧
            (t.st e.addr).stamp = t0 ∧ (t.st e.addr).goodPrev = true)) ∧
        s.landsOnly [.trk, .rcr, .log, .hpo] t) ∧
    (∀ (a : Fin 4096) (e : StEntry), s.lotD.station a = some e → (s.st a).quality ≠ 3 →
      (s.st a).stamp + e.wd * msTicks + 499 ≤ s.clk.now →
      (s.landsNow a = false → ∃ t, exec (.stationWatchdogExpiry a) s = .next t ∧
        t.st a = { s.st a with quality := 3, image := 0, expiries := (s.st a).expiries + 1 } ∧ (∀ b, b ≠ a.val → t.st b = s.st b) ∧
        s.changesOnly [.trk, .rcr, .log, .hpo] t) ∧
      (s.landsNow a = true → s.clk.now = (s.st a).stamp + e.wd * msTicks + 499 → s.clk.now % 500 = 0 →
        exec (.stationWatchdogExpiry a) s = .next s))) ∧
  (∀ (s : State) (port : TrunkPort) (bytes : List Byte) (c j : Nat) (tb wrapped : Bool) (pre post : List StEntry) (e : StEntry),
    s.copyComes port bytes c j tb wrapped → s.lotD.frames.getD j [] = pre ++ e :: post →
    ((pre ++ e :: post).map (·.addr)).Nodup → (∀ x, x ∈ pre ++ post → s.lotD.hrStation x = false) →
    let p := (bytes.take (bytes.length - 4)).drop 14
    let at_ := pre.foldl (fun a x => a + x.span) 16 + (if e.out = 0 then 0 else e.slot)
    let v := s.st e.addr
    let said := judgeSlot p at_ e (c % 256)
    let other := if tb then v.copyA else v.copyB
    let first : Prop := (if tb then v.judgedA else v.judgedB) = false
    let lands (t : State) (d stamp crc : Nat) : Prop :=
      (t.st e.addr).quality = 0 ∧ (t.st e.addr).image = d % 2 ^ e.width ∧ (t.st e.addr).landed = v.landed + 1 ∧ (t.st e.addr).crc = crc ∧
      (t.st e.addr).stamp = stamp ∧ (t.st e.addr).goodNow = true ∧ (t.st e.addr).landedNow = true
    (s.lotD.hrStation e = false → ∃ t, exec (.trunkFrame port bytes) s = .next t ∧ s.landsOnly [.trk, .rcr, .log, .hpo] t ∧
      (∀ a, (∀ x, x ∈ pre ++ e :: post → x.addr ≠ a) → t.st a = s.st a) ∧
      (first → said = none → t.st e.addr = v.judge tb none v.crc) ∧
      (first → said = some none → t.st e.addr = v.judge tb none (v.crc + 1)) ∧
      (∀ q d, first → said = some (some (q, d)) → t.st e.addr = v.judge tb (some (q, d, s.clk.now)) v.crc) ∧
      (∀ d t0, ¬ first → other = some (0, d, t0) → said = some (some (0, d)) → (v.quality ≠ 3 ∨ v.goodPrev = true) →
        lands t d (min s.clk.now t0) v.crc) ∧
      (∀ d, ¬ first → other = none → said = some (some (0, d)) → (v.quality ≠ 3 ∨ v.goodPrev = true) → lands t d s.clk.now v.crc) ∧
      (∀ d t0, ¬ first → other = some (0, d, t0) → said = some none → (v.quality ≠ 3 ∨ v.goodPrev = true) → lands t d t0 (v.crc + 1)) ∧
      (∀ q d q2 d2 t0, ¬ first → other = some (q2, d2, t0) → said = some (some (q, d)) → (q ≠ q2 ∨ d ≠ d2) →
        (t.st e.addr).landed = v.landed ∧ (t.st e.addr).image = v.image ∧ (t.st e.addr).quality = v.quality ∧
        (t.st e.addr).stamp = v.stamp ∧ (t.st e.addr).crc = v.crc + 1)) ∧
    (∀ d t0, s.lotD.hrStation e = true → ¬ first → other = some (0, d, t0) → said = some (some (0, d)) → (v.quality ≠ 3 ∨ v.goodPrev = true) →
      let h := s.sin.trunk
      let at2 := min s.clk.now t0
      ∃ t, exec (.trunkFrame port bytes) s = .next t ∧
        (bitOf d (s.lotD.hrChan - e.off) = true →
          (h.rise = none → t.sin.trunk = (if h.ready = true then { h with ready := false, rise := some at2, last := at2 } else h)) ∧
          (∀ r, h.rise = some r → t.sin.trunk = { h with last := at2, jam := h.jam || decide (150000000 < at2 - r) })) ∧
        (bitOf d (s.lotD.hrChan - e.off) = false →
          t.sin.trunk = { ready := true } ∧
          (∀ r, h.rise = some r → h.jam = false → r + 2500000 ≤ at2 → at2 ≤ r + 150000000 →
            (s.released = true → s.armedNow = false → ∀ q, q < 16 → (t.part q).edge = true) ∧
            (s.armedNow = true → t.sup.mode = .boot ∧ t.sup.bistRunning = true ∧ t.sup.firstCause = none ∧ t.sup.causes = 0)) ∧
          (∀ r, h.rise = some r → (h.jam = true ∨ at2 < r + 2500000 ∨ r + 150000000 < at2) → t.sle = s.sle ∧ t.sup = s.sup)))) ∧
  (∀ (s : State) (e : StEntry) (c : Nat), s.trk.cycle = some c → s.lotD.hrStation e = true → (s.st e.addr).landedNow = false →
    (s.st e.addr).copyA = none → (s.st e.addr).copyB = none → (s.endStation (c % 256) e).sin.trunk = {})

/-- A Cycle Frame as Table: Cycle Frame gives it, without records, passes the checks with the values it was built from. The bytes
that R374, R351 and R310 give a frame or a slot are read back with the values they were built from: a cascade frame, and an
accepted INPUT slot inside a payload. The records of the recorder's stream: a commit in Commissioning or Run puts one release record at its
end, whose head names the partition, the key and a retry, and whose last 8 bytes are the signature at every 256th release; what it was made
of is what the next one is compared with. The meter lets no more than 80,000 bytes through in a window, and no more than 1,000 without
budget; what does not fit opens a gap, or lengthens the one that is open; the next record that fits goes behind a marker with the stamp of
the first lost one and the bytes lost. A due keyframe that fits restarts its interval. After a record at most 262,144 bytes wait for NAND.
Rules: R310, R311, R351, R374, R447 to R453. Model choices: log entry 51. -/
def Obligations.FrameFormats : Prop :=
  ((∀ (mac src : List Byte) (et nc p : Nat) (ws : List Lanes) (release : Bool), mac.length = 6 → src.length = 6 → nc < 65536 →
    250 ≤ p → p ≤ 100000 → ws.length ≤ 64 →
    let head : List Byte := [1, 1] ++ leBytes 2 nc ++ leBytes 4 p ++ [BitVec.ofNat 8 ws.length, 0, if release then 1 else 0] ++
      List.replicate 5 0 ++ ws.flatMap laneBytes
    let pay := head ++ leBytes 4 (crc32c (mac ++ leBytes 2 nc ++ head)).toNat
    checkFrame mac (withFcs (ethFrame mac src et pay)) = .ok ⟨leNat src, nc, p, ws, release, []⟩) ∧
  ((∀ (type src dst hop n : Nat) (body : List Byte), type < 256 → src < 256 → dst < 256 → hop < 256 → n < 2 ^ 32 →
    let h := [BitVec.ofNat 8 type, BitVec.ofNat 8 src, BitVec.ofNat 8 dst, BitVec.ofNat 8 hop] ++ leBytes 4 n ++ body
    readCFrame (h ++ caCheck h) = ⟨type, src, dst, hop, n, body, true⟩) ∧
  (∀ (pre post : List Byte) (e : StEntry) (seq q data : Nat), e.addr < 4096 → e.width ≤ 128 → seq < 256 → (q = 0 ∨ q = 3) →
    data < 2 ^ e.width → judgeSlot (pre ++ slotBytes e 1 seq q data ++ post) pre.length e seq = some (some (q, data))))) ∧
  (∀ (s : State) (p : Nat), s.frcRuns = true → s.rcr.gap = none →
    let b := s.releaseRecord p
    let q := s.part p
    b.take 2 = [BitVec.ofNat 8 (16 + p), BitVec.ofNat 8 (q.key.toNat + (if q.attempt = 2 then 128 else 0))] ∧
    ((q.seq + 1) % 2 ^ 32 % 256 = 0 → b.drop (b.length - 8) = leBytes 8 q.sigG) ∧
    (s.rcr.fits b.length = true → s.changesOnly [.rcr] (s.frcCommit p) ∧
      (s.frcCommit p).rcr.total = s.rcr.total + b.length ∧ (s.frcCommit p).rcr.winBytes = s.rcr.winBytes + b.length ∧
      (s.rcr.total + b.length ≤ s.rcr.written + 262144 →
        (s.frcCommit p).rcr.recs = s.rcr.recs ++ [⟨s.rcr.total, s.clk.real, q.stamp, b⟩]) ∧
      (∀ w, w ∈ s.planeInputs p → (s.frcCommit p).lastInput p w = s.plane .ground p w) ∧
      (∀ c, q.workG.get none 8 = some c → (s.frcCommit p).rcr.lastW8 = some { c with key := 0 })) ∧
    (s.rcr.fits b.length = false → (s.frcCommit p).rcr.gap = some (q.stamp, b.length))) ∧
  (∀ (r : Rec) (n : Nat), r.fits n = true →
    r.winBytes + r.mark.length + n ≤ 80000 ∧ (r.winBytes + r.mark.length + n ≤ 1000 ∨ 0 < r.budget)) ∧
  (∀ (s : State) (stamp : Nat) (b : List Byte), s.frcOn = true →
    (s.rcr.fits b.length = false → s.rcr.gap = none →
      let t := s.frcPut stamp b
      t.rcr.gap = some (stamp, b.length) ∧ t.rcr.gaps = (s.rcr.gaps + 1) % 2 ^ 32 ∧ t.rcr.keyOwed = true ∧ t.rcr.lastRel = none ∧
        s.changesOnly [.rcr] t) ∧
    (∀ t0 k, s.rcr.fits b.length = false → s.rcr.gap = some (t0, k) →
      let t := s.frcPut stamp b
      t.rcr.gap = some (t0, k + b.length) ∧ t.rcr.gaps = s.rcr.gaps ∧ t.rcr.recs = s.rcr.recs ∧ t.rcr.total = s.rcr.total ∧
        s.changesOnly [.rcr] t) ∧
    (∀ t0 k, s.rcr.fits b.length = true → s.rcr.gap = some (t0, k) → s.rcr.total + 17 + b.length ≤ s.rcr.written + 262144 →
      let t := s.frcPut stamp b
      t.rcr.gap = none ∧ t.rcr.total = s.rcr.total + 17 + b.length ∧
        t.rcr.recs = s.rcr.recs ++ [⟨s.rcr.total, s.clk.real, s.clk.now, [0x40#8] ++ leBytes 8 t0 ++ leBytes 8 k⟩,
          ⟨s.rcr.total + 17, s.clk.real, stamp, b⟩] ∧ s.changesOnly [.rcr] t) ∧
    (s.frcStore stamp b).rcr.total ≤ (s.frcStore stamp b).rcr.written + 262144) ∧
  (∀ s : State, s.frcRuns = true →
    (s.keyDue = false → s.frcRelease = s) ∧
    (s.keyDue = true → s.rcr.fits s.keyframe.length = true → s.frcRelease.rcr.keyOwed = false ∧ s.frcRelease.rcr.keyAt = s.clk.real ∧
      s.frcRelease.rcr.keyPos = s.rcr.total + s.rcr.mark.length ∧ s.frcRelease.rcr.gap = none ∧
      s.frcRelease.rcr.lastW8 = s.recordedW8) ∧
    (s.keyDue = true → s.rcr.fits s.keyframe.length = false → s.frcRelease.rcr.keyOwed = true ∧ s.frcRelease.rcr.keyAt = s.rcr.keyAt))

/-! ### Cascade and pair -/

/-- Cascade frames at CI: one whose hop count is 0 is discarded; a wrong check is counted and changes nothing else; WORDS lands the words of its source; KEEPALIVE with
WORDS INVALID, and 1 ms without a frame, put them to FAULT with all lanes 0. In every state, without an active
lot too, a frame for another module goes on with its hop count lowered. What the module sends by itself, in every state: KEEPALIVE every 250
us with its state, role and whether its words hold; STATUS every 50,000 ticks. Rules: R373 to R376, R379. Model choices: log entry
54. -/
def Obligations.Cascade : Prop :=
  (∀ (s : State) (bytes : List Byte), s.caOn = true →
    let f := readCFrame bytes
    let c := s.csrc f.src
    let faulted (t : State) (m : Nat) : Prop := (t.csrc m).fault = true ∧
      ∀ w, w ∈ s.lotD.cascadeWords false m → t.landing w = ⟨0, s.lotD.force w (mkTag false 2 3), 0⟩
    (f.hop = 0 → ∀ i, (i = .words bytes ∨ i = .keepalive bytes) → exec i s = .next s) ∧
    (f.hop ≠ 0 → f.ok = false → ∀ i, (i = .words bytes ∨ i = .keepalive bytes) → ∃ t, exec i s = .next t ∧
      t.cpl.discarded = s.cpl.discarded + 1 ∧ t.cpl.sources = s.cpl.sources ∧ s.changesOnly [.cpl] t) ∧
    (f.hop ≠ 0 → f.ok = true → f.src ≠ s.lotD.member → (c.present = false ∨ c.hop = f.hop) → c.dupAt = none →
      (f.type = 0x11 → f.dst = s.lotD.member → f.dst ≠ 0xFF → seqLater c.seq f.seq = true → ∃ t, exec (.words bytes) s = .next t ∧
        t.csrc f.src = (⟨some s.clk.real, some f.seq, false, true, f.hop, none⟩ : CSource) ∧
        (∀ pre e post w, blocks 20 f.body = pre ++ e :: post → (∀ x, x ∈ post → u8 x 0 ≠ u8 e 0) →
          s.lotD.cascadeIn f.src (u8 e 0) = some w →
          t.landing w = ⟨if tagQ (e.getD 1 0) = 3 then 0 else bytesLanes (e.drop 4),
            s.lotD.force w (mkTag (tagNS (e.getD 1 0)) 2 (tagQ (e.getD 1 0))), 0⟩) ∧
        s.landsOnly [.cpl, .nmt, .log, .hpo] t) ∧
      (f.type = 0x11 → seqLater c.seq f.seq = false → ∃ t, exec (.words bytes) s = .next t ∧ (t.csrc f.src).present = true ∧
        (t.csrc f.src).fault = c.fault ∧ s.changesOnly [.cpl, .log, .hpo] t) ∧
      (f.type = 0x12 → (f.dst = s.lotD.member ∨ f.dst = 0xFF) → bitOf (u8 f.body 2) 0 = true → ∃ t, exec (.keepalive bytes) s = .next t ∧
        faulted t f.src ∧ (t.csrc f.src).lastValid = some s.clk.real ∧ s.landsOnly [.cpl, .nmt, .log, .hpo] t) ∧
      (f.type = 0x12 → bitOf (u8 f.body 2) 0 = false → ∃ t, exec (.keepalive bytes) s = .next t ∧ (t.csrc f.src).fault = c.fault ∧
        (t.csrc f.src).lastValid = some s.clk.real ∧ s.changesOnly [.cpl, .log, .hpo] t)) ∧
    (∀ (m : Fin 8) u, (s.csrc m).present = true → (s.csrc m).lastValid = some u → u + msTicks ≤ s.clk.real →
      ∃ t, exec (.cascadeSourceTimeout m) s = .next t ∧ faulted t m ∧ (t.csrc m).present = false ∧
        (s.lotD.member = 0 → s.expected m = true → t.cpl.breaks = (s.cpl.breaks + 1) % 2 ^ 32) ∧
        s.landsOnly [.cpl, .nmt, .log, .hpo] t) ∧
    (∀ ns, s.cpl.ringAt = none → ∃ t, exec (.ringLatencyMeasure ns) s = .next t ∧
      t.cpl = { s.cpl with ringNs := ns % 2 ^ 32, ringAt := some s.clk.real } ∧ s.changesOnly [.cpl] t)) ∧
  (∀ (s : State) (bytes : List Byte) (i : Instr), s.caPort = true → s.caOn = false → 12 ≤ bytes.length →
    (i = .words bytes ∨ i = .keepalive bytes) →
    let f := readCFrame bytes
    f.ok = true → f.dst ≠ s.memberNo → f.src ≠ s.memberNo → 1 < f.hop → ∃ t b, exec i s = .next t ∧ t.cpl.caOut.getLast? = some b ∧
      readCFrame b = { f with hop := f.hop - 1 } ∧ s.changesOnly [.cpl] t) ∧
  (∀ (s : State) (u : Nat),
    (s.caPort = true → s.cpl.keepAt = some u → u + 250 * usTicks ≤ s.clk.real → ∃ t, exec .keepaliveSend s = .next t ∧
      s.changesOnly [.cpl] t ∧ t.cpl.keepAt = some s.clk.real ∧ t.cpl.seqs.get 0 0xFF = (s.cpl.seqs.get 0 0xFF + 1) % 2 ^ 32 ∧
      (let h := [0x12#8, BitVec.ofNat 8 s.memberNo, 0xFF#8, 8#8] ++ leBytes 4 ((s.cpl.seqs.get 0 0xFF + 1) % 2 ^ 32) ++
        [BitVec.ofNat 8 s.sup.mode.code, BitVec.ofNat 8 s.cplRole.code, if s.wordsValid then 0 else 1, 0, 0, 0, 0, 0]
       t.cpl.caOut.getLast? = some (h ++ caCheck h))) ∧
    (s.xlUp = true → s.cpl.statusAt = some u → u + 50000 ≤ s.clk.real → ∃ t, exec .statusSend s = .next t ∧ s.changesOnly [.cpl] t ∧
      t.cpl.statusAt = some s.clk.real ∧ t.cpl.frames = (s.cpl.frames + 1) % 2 ^ 32 ∧
      ∃ body, body.length = (if s.lotD.digest.isEmpty then 48 else 16 + s.lotD.digest.length) ∧
        body.take 4 = [BitVec.ofNat 8 s.sup.mode.code, BitVec.ofNat 8 s.cplRole.code, if s.cplReady then 1 else 0,
          BitVec.ofNat 8 (s.sup.firstCause.getD 255)] ∧
        t.cpl.xlOut.getLast? = some (xlHead 3 0xFF t.cpl.frames body ++ xlCheck s.cpl.fold (xlHead 3 0xFF t.cpl.frames body))))

/-- The cross-link: a training sends the module's own nonce and answer; the partner's right answer brings the link up, a wrong one does not; 1 ms without a good frame or three wrong
checks in a row take it down, the PAIR words go to FAULT, a standby whose loop is not free is isolated; a wrong check changes only its
count. Frames of
the partner that pass the check: RESULT is compared with the module's own, STATUS is kept, an Isolated Standby that hears its Active goes to Resync
and a second Active trips, PAIR WORDS land, an IMAGE is held or gives the waiting release its input-bound words. Rules: R378 to R383, R393. Model choices: log entry 55. -/
def Obligations.CrossLinkFrames : Prop :=
  (∀ s : State,
    (∀ own peer answer, s.pairPort = true → s.cpl.link ≠ 2 →
      let mac := s.trainingAnswer own peer
      let sent : Cpl := { s.cpl with
        outAt := s.clk.real, xlOut := (if s.cpl.outAt = s.clk.real then s.cpl.xlOut else []) ++ [own, mac],
        caOut := if s.cpl.outAt = s.clk.real then s.cpl.caOut else [] }
      (answer = mac → ∃ t, exec (.crossLinkTraining own peer answer) s = .next t ∧
        t.cpl = { sent with link := 2, fold := answer, lastGood := s.clk.real, badRun := 0, peer := s.cpl.peer.gone } ∧
        s.logged t 0x2700 0x10 0 0 2 ∧ s.hpoGens t ∧ s.changesOnly [.cpl, .log, .hpo] t) ∧
      (answer ≠ mac → ∃ t, exec (.crossLinkTraining own peer answer) s = .next t ∧
        t.cpl = { sent with link := 1 } ∧ s.changesOnly [.cpl] t)) ∧
    (∀ bad, s.cpl.link = 2 → (s.cpl.lastGood + msTicks ≤ s.clk.real ∨ 3 ≤ s.cpl.badRun + bad) →
      ∃ t, exec (.crossLinkDown bad) s = .next t ∧ t.cpl.link = 1 ∧ t.cpl.fold = [] ∧ t.cpl.peer = s.cpl.peer.gone ∧ t.xlUp = false ∧
        (∀ w, 16 ≤ w → w < 2048 → s.lotD.bType w = 9 → t.landing w = ⟨0, s.lotD.force w (mkTag false 6 3), 0⟩) ∧
        (bandFree s.cpl.ownBand = false → t.cplRole = (if s.cplRole = .standby then .isolated else s.cplRole)) ∧
        (s.cplRole = .solo ∨ s.cplRole = .active → s.changesOnly [.cpl, .nmt, .bist, .log, .hpo] t ∧
          (s.bist.wanted = [] → t.bist = s.bist))) ∧
    (∀ bytes c, (c = .image bytes ∨ c = .result bytes ∨ c = .status bytes ∨ c = .fullImage bytes ∨ c = .pairWords bytes) →
      s.xlUp = true → s.cpl.badRun < 2 → (∀ ty p n body, ¬ s.xlGood bytes ty p n body) →
      ∃ t, exec c s = .next t ∧ t.cpl = { s.cpl with badRun := s.cpl.badRun + 1 } ∧ s.changesOnly [.cpl] t)) ∧
  (∀ (s : State) (bytes body : List Byte) (p n : Nat), 
    (s.xlGood bytes 2 p n body → p < 16 → body.length = 34 →
      let r := readResult n body
      ((s.cpart p).own = none → ∃ t, exec (.result bytes) s = .next t ∧ t.cpart p = { s.cpart p with peer := some r } ∧
        (∀ q, q ≠ p → t.cpart q = s.cpart q) ∧ s.changesOnly [.cpl] t) ∧
      (∀ a, (s.cpart p).own = some a → s.inStepNow p = true → a.seq = n → (s.cpart p).compared ≠ n + 1 →
        (a.agrees r = true → ∃ t, exec (.result bytes) s = .next t ∧ (t.cpart p).compared = n + 1 ∧ (t.cpart p).missing = 0 ∧
          t.cpl.disagreements = s.cpl.disagreements ∧ s.changesOnly [.cpl] t) ∧
        (a.agrees r = false → ∃ t, exec (.result bytes) s = .next t ∧ t.cpl.disagreements = (s.cpl.disagreements + 1) % 2 ^ 32 ∧
          (s.cplRole = .active → s.logged t 0x2700 0x15 2 p n ∧ t.cpl.disNow = true ∧ s.changesOnly [.cpl, .log, .hpo] t) ∧
          (s.cplRole = .standby → s.logged t 0x2700 0x15 2 p n ∧ t.cpl.disAt = some s.clk.now ∧ t.sle.locOpen = true ∧ t.cplReady = false ∧
            s.changesOnly [.cpl, .sle, .log, .hpo] t)))) ∧
    (s.xlGood bytes 3 p n body → body.length = 48 →
      ((s.cplRole = .solo ∨ (bandFree s.cpl.ownBand = false ∧ (s.cplRole = .standby ∨ (s.cplRole = .isolated ∧ u8 body 1 ≠ 1)))) →
        ∃ t, exec (.status bytes) s = .next t ∧ s.changesOnly [.cpl] t ∧
        t.cpl.peer.seen = true ∧ t.cpl.peer.state = u8 body 0 ∧ t.cpl.peer.role = u8 body 1 ∧ t.cpl.peer.ready = decide (u8 body 2 = 1) ∧
        t.cpl.peer.cause = u8 body 3 ∧ t.cpl.peer.lotId = u64 body 8 ∧ t.cpl.peer.sha = slice body 16 32) ∧
      (s.cplRole = .isolated → u8 body 1 = 1 →
        (s.cpl.restarts.filter (fun u => decide (s.clk.real - u ≤ 3600 * sTicks))).length ≤ 3 →
        ∃ t, exec (.status bytes) s = .next t ∧ t.cplRole = .resync ∧ t.cpl.peer.role = 1) ∧
      (s.cplRole = .active → u8 body 1 = 1 → 1 ≤ s.cpl.peer.actRun → s.cpl.trip = 0 → s.sup.pfsOrder = 0 → (s.sup.mode = .run ∨ s.sup.mode = .commissioning) →
        ∃ t, exec (.status bytes) s = .next t ∧ s.halted 15 t ∧ t.cpl.trip = 1)) ∧
    (s.xlGood bytes 6 p n body → ∃ t, exec (.pairWords bytes) s = .next t ∧ s.landsOnly [.cpl, .nmt] t ∧
      ∀ pre e post w, readEntries body 0 (body.length / 20) = pre ++ e :: post → (∀ x, x ∈ post → x.1 ≠ e.1) → 16 ≤ w → w < 2048 →
        s.lotD.bType w = 9 → s.lotD.bPartner w = e.1 →
        t.landing w = ⟨if tagQ e.2.tag = 3 then 0 else e.2.val, s.lotD.force w (mkTag (tagNS e.2.tag) 6 (tagQ e.2.tag)), 0⟩) ∧
    (∀ x, s.xlGood bytes 1 p n body → p < 16 → body.length = 10 + 20 * u16 body 8 → s.cplRole = .standby → s.sle.cur = some x →
      s.lotD.feeding ≠ some p →
      ((s.part p).phase ≠ .image → ∃ t, exec (.image bytes) s = .next t ∧
        (t.cpart p).images = (s.cpart p).images.filter (fun j => decide (j.seq ≠ n)) ++ [readImage n body] ∧ s.changesOnly [.cpl] t) ∧
      ((s.part p).phase = .image → n = ((s.part p).seq + 1) % 2 ^ 32 → ∃ t, exec (.image bytes) s = .next t ∧
        (t.part p).phase = .ready ∧ (t.part p).stamp = u64 body 0 ∧ (t.cpart p).view = readEntries body 10 (u16 body 8) ∧
        s.changesOnly [.cpl, .nmt, .sle] t)))

/-- Resync: the request names a module boundary 10 ms ahead or later; the start opens the gathering; a FULL IMAGE is installed; a
DISAGREEMENT that the standby reports is counted once. Control messages: a partner's debug halt, at the WOP that it names or at the commit
gate of its partition, step and resume; the active's RUN or COMMISSION with its boundary; PARK of a group, its answers and its end, which a
module passes on to the ring or to the partner. Rules: R151, R400, R402 to R404. Model choices: log entries 55, 57 and 65. -/
def Obligations.ResyncAndControl : Prop :=
  (∀ s : State, s.xlUp = true →
    (∀ f e, s.cplRole = .active → s.released = true → s.lotD.feeding = some f → s.sle.epoch = some e → s.lotD.pPeriod f ≠ 0 →
      ∃ t, exec (.resyncRequest .crossLink) s = .next t ∧ s.changesOnly [.cpl] t ∧ s.clk.now + 10 * msTicks ≤ t.cpl.ts ∧
        e + s.lotD.pOffset f ≤ t.cpl.ts ∧ (t.cpl.ts - (e + s.lotD.pOffset f)) % s.lotD.pPeriod f = 0 ∧
        (e + s.lotD.pOffset f < t.cpl.ts → t.cpl.ts < s.clk.now + 10 * msTicks + s.lotD.pPeriod f) ∧ ∀ p, (t.cpart p).full = false) ∧
    (∀ ts : BitVec 64, s.cplRole = .resync → s.cpl.resync = .requested → ∃ t, exec (.resyncStart .crossLink ts) s = .next t ∧
      t.cpl = { s.cpl with lastGood := s.clk.real, badRun := 0, resync := .gathering, ts := ts.toNat, parts := {} } ∧ s.changesOnly [.cpl] t) ∧
    (∀ (bytes body : List Byte) (p n : Nat), s.xlGood bytes 5 p n body → s.cplRole = .resync → s.cpl.resync = .gathering → p < 16 →
      s.lotD.pInUse p = true →
      let c := readCommitted s.lotD p body (10 + 20 * u16 body 8)
      body.length = c.2.2.2 → (∃ q, q ∈ s.lotD.inUse ∧ q ≠ p ∧ (s.cpart q).full = false) →
      ∃ t, exec (.fullImage bytes) s = .next t ∧ s.changesOnly [.cpl, .nmt, .sle] t ∧ (t.cpart p).full = true ∧
        (t.cpart p).images = [readImage n body] ∧ t.cpl.resync = .gathering ∧ (t.part p).phase = .idle ∧ (t.part p).stamp = c.2.2.1 ∧
        (t.part p).seq = (n + 2 ^ 32 - 1) % 2 ^ 32 ∧
        (∀ pre e post, c.1 = pre ++ e :: post → (∀ x, x ∈ post → x.1 ≠ e.1) →
          t.comG e.1 = ⟨e.2.val, e.2.tag, 0⟩ ∧ t.comO e.1 = ⟨dye 0 e.2.val, e.2.tag, 0⟩) ∧
        (∀ w, (∀ x, x ∈ c.1 → x.1 ≠ w) → t.comG w = s.comG w ∧ t.comO w = s.comO w)) ∧
    (∀ (p : Fin 16) (n : BitVec 32), s.cplRole = .active → (s.cpart p).compared ≠ n.toNat + 1 →
      ∃ t, exec (.disagreement .crossLink p n) s = .next t ∧ (t.cpart p).compared = n.toNat + 1 ∧
        t.cpl.disagreements = (s.cpl.disagreements + 1) % 2 ^ 32 ∧ t.cpl.disNow = true ∧ s.logged t 0x2700 0x15 2 p n.toNat ∧
        s.changesOnly [.cpl, .log, .hpo] t)) ∧
  (∀ s : State,
    (∀ (p : Fin 256) (w : BitVec 16), s.xlUp = true → s.sup.mode = .commissioning → s.sle.dbg.state = 0 →
      (w ≠ 0xFFFF → s.lotD.pFirst p ≤ w.toNat → w.toNat < s.lotD.pFirst p + s.lotD.pCount p →
        ∃ t, exec (.controlHalt .crossLink p w) s = .next t ∧
        t.sle.dbg = { s.sle.dbg with state := 1, part := some p.val, idx := w.toNat, stopAt := some (w.toNat - s.lotD.pFirst p) } ∧
        t.sle.cur = s.sle.cur ∧ t.sle.parts = s.sle.parts ∧ s.changesOnly [.sle, .cpl] t) ∧
      (w = 0xFFFF → p.val < 16 → (s.part p).phase ≠ .idle → ∃ t, exec (.controlHalt .crossLink p w) s = .next t ∧
        t.sle.dbg = { s.sle.dbg with state := 1, part := none, idx := 0, atGate := some p.val } ∧
        t.sle.cur = s.sle.cur ∧ t.sle.parts = s.sle.parts ∧ s.changesOnly [.sle, .cpl] t)) ∧
    (∀ p i (fg fo : Fetch), s.xlUp = true → s.sup.mode = .commissioning → s.sle.dbg.state = 2 → s.sle.dbg.part = some p →
      s.sle.dbg.stopAt = some i → i + 1 < s.lotD.pCount p → fg.ecc = .clean → fo.ecc = .clean →
      ∃ t, exec (.stepResume .crossLink false fg fo) s = .next t ∧
        t.sle.dbg = { s.sle.dbg with idx := s.lotD.pFirst p + i + 1, stopAt := some (i + 1) } ∧
        (t.part p).gi = i + 2 ∧ (t.part p).oi = i + 2 ∧ s.changesOnly [.sle, .cpl] t) ∧
    (∀ fg fo : Fetch, s.xlUp = true → s.sup.mode = .commissioning → s.sle.dbg.state = 2 →
      ∃ t, exec (.stepResume .crossLink true fg fo) s = .next t ∧
      t.sle.dbg.state = 0 ∧ t.sup = { s.sup with driveRemoved := false, wdArmed := false } ∧
      (∀ g, g < 2 → (t.grp g).state ≠ .closed ∧ (t.grp g).state ≠ .closing) ∧ t.sout.holdBoth = true ∧
      s.changesOnly [.sup, .sle, .sout, .log, .hpo, .cpl] t) ∧
    (∀ b : BitVec 56, s.xlUp = true → (s.cplRole = .standby ∨ s.cplRole = .isolated ∨ s.cplRole = .resync) →
      (∃ t, exec (.controlCommand .crossLink 3 b) s = .next t ∧
        t.sup = { s.sup with cmd := some { cmd := .run, tag := none, at? := some b.toNat } } ∧ s.changesOnly [.sup, .cpl] t) ∧
      (∃ t, exec (.controlCommand .crossLink 4 b) s = .next t ∧
        t.sup = { s.sup with cmd := some { cmd := .commission, tag := none, at? := some b.toNat } } ∧ s.changesOnly [.sup, .cpl] t)) ∧
    (∀ (via : CtlVia) (t0 : BitVec 64) c1 c2 d, s.ctlComes via →
      let k := s.cmdRefusal { cmd := .park, tag := none, count1 := c1, count2 := c2, at? := some t0.toNat }
      (∀ x, k = some x → ∃ t, exec (.controlPark via t0 c1 c2 d) s = .next t ∧ s.changesOnly (ctlBlocks via) t) ∧
      (k = none → ∃ t, exec (.controlPark via t0 c1 c2 d) s = .next t ∧ t.sup = { s.sup with pend := .parked t0.toNat, wakeDelay := d % 2 ^ 32 } ∧
        t.clk = { s.clk with rho := rhoOf c1 c2 } ∧ s.changesOnly ([.sup, .clk] ++ ctlBlocks via) t)) ∧
    (∀ (via : CtlVia) g, s.ctlComes via → s.cpl.gpark = some g → viaSender via ∈ g.waiting → g.first = true → g.tag = none →
      let rest := g.waiting.filter (fun x => decide (x ≠ viaSender via))
      (rest ≠ [] → ∃ t, exec (.parkAnswer via 0) s = .next t ∧ t.cpl.gpark = some { g with waiting := rest } ∧ t.sup = s.sup ∧
        s.changesOnly (ctlBlocks via) t) ∧
      (rest = [] → ∃ t, exec (.parkAnswer via 0) s = .next t ∧ t.cpl.gpark = none ∧ t.hpo.reply = some .done ∧ t.sup = s.sup ∧
        s.changesOnly (.hpo :: ctlBlocks via) t) ∧
      (∀ code : BitVec 16, code ≠ 0 → ∃ t, exec (.parkAnswer via code) s = .next t ∧ t.sup = { s.sup with pend := .none } ∧
        t.cpl.gpark = none ∧ t.hpo.reply = some (.abort (0x0F000000 + code.toNat)) ∧
        s.changesOnly ([.sup, .log, .hpo] ++ ctlBlocks via) t)) ∧
    (∀ (via : CtlVia) u, s.sup.pend = .parked u → s.ctlComes via → ∃ t, exec (.abandonPark via) s = .next t ∧
      t.sup = { s.sup with pend := .none } ∧ t.cpl.gpark = none ∧ s.changesOnly ([.sup, .log, .hpo] ++ ctlBlocks via) t ∧
      (via = .crossLink → s.logged t 0x2000 5 1 1 0) ∧
      (∀ g, s.cpl.gpark = some g → g.first = true → g.tag = none → t.hpo.reply = some (.abort 0x0F000210)) ∧
      (via ≠ .crossLink → s.lotD.pair = true → s.xlUp = true → ∃ n,
        t.cpl.xlOut.getLast? = some (xlHead 4 0xFF n (controlBody 7 0) ++ xlCheck s.cpl.fold (xlHead 4 0xFF n (controlBody 7 0)))) ∧
      (via = .crossLink → s.lotD.cascade = true → ∃ n, t.cpl.caOut.getLast? = some (caFrame 0x13 s.memberNo 255 8 n (controlBody 7 0)))))

/-- No command gives a module the Active role while its OWN loop reads anything but released or unpowered: where the partner holds
the loop at 10 mA, no module becomes Active. Rules: R12, R389, R394, R395. Model choices: log entry 56. -/
def Obligations.ActiveOnFreeLoop : Prop :=
  ∀ (c : Instr) (s t : State), exec c s = .next t → t.cplRole = .active → s.cplRole ≠ .active →
    t.cpl.ownBand = .released ∨ t.cpl.ownBand = .unpowered

/-- The OWN and TRIP loops: four samples in one band qualify it; a released loop makes a ready standby take over; an active whose loop
does not hold halts with cause 15; side B becomes Active after 2 s of a free loop and no Active; a pulled TRIP halts with cause 15; 1 s below 0.5 mA is an open wire; the pull ends after
100 ms.
Rules: R389 to R395. Model choices: log entries 56 and 58. -/
def Obligations.OwnAndTripLoops : Prop :=
  ∀ s : State, s.domOn 5 = true →
    (∀ a b c d : Nat × Nat,
      let band := bandAt d
      let shown : Cpl := { s.cpl with ownCurrent := d.1 / 10 % 65536 }
      (¬ (bandAt a = band ∧ bandAt b = band ∧ bandAt c = band) ∨ band = s.cpl.ownBand →
        exec (.ownBandChange [a, b, c, d]) s = .next { s with cpl := shown }) ∧
      (bandAt a = band → bandAt b = band → bandAt c = band → band ≠ s.cpl.ownBand →
      (s.lotD.pair = false → ∃ t, exec (.ownBandChange [a, b, c, d]) s = .next t ∧
        t.cpl = { shown with ownBand := band,
                             ownSince := if bandFree band && bandFree s.cpl.ownBand then s.cpl.ownSince else s.clk.real } ∧
        s.changesOnly [.cpl] t) ∧
      (s.lotD.pair = true → s.cplRole = .active → s.sup.pfsOrder = 0 → (s.sup.mode = .run ∨ s.sup.mode = .commissioning) →
        band ≠ .openWire → band ≠ .holding → ∃ t, exec (.ownBandChange [a, b, c, d]) s = .next t ∧ s.halted 15 t) ∧
      (s.lotD.pair = true → s.cplRole = .standby → (band = .released ∨ band = .unpowered) → s.cplReady = true →
        ∃ t, exec (.ownBandChange [a, b, c, d]) s = .next t ∧ t.cplRole = .active ∧ t.sup.mode = s.sup.mode ∧
          t.cpl.takeOvers = (s.cpl.takeOvers + 1) % 2 ^ 32 ∧ t.clk.disc = .free ∧ t.nmt.comG = s.nmt.comG ∧ t.nmt.comO = s.nmt.comO) ∧
      (s.lotD.pair = true → s.cplRole = .standby → band = .holding → ∃ t, exec (.ownBandChange [a, b, c, d]) s = .next t ∧
        t.cpl.ownBand = band ∧ t.cplRole = .standby ∧ s.changesOnly [.cpl] t))) ∧
    (s.cplRole = .undecided → s.released = true → (s.cpl.ownBand = .released ∨ s.cpl.ownBand = .unpowered) →
      s.cpl.ownSince + 2 * sTicks ≤ s.clk.real → (∀ u, s.cpl.peer.activeAt = some u → u + 2 * sTicks ≤ s.clk.real) →
      ∃ t, exec .roleDecisionTimeout s = .next t ∧ t.cplRole = .active ∧
        t.clk = { s.clk with disc := .free, rateCorr := 0, goodRun := 0, badRun := 0 }) ∧
    (∀ a b c d : Nat, s.cpl.trip = 0 → 15000 ≤ a → 15000 ≤ b → 15000 ≤ c → 15000 ≤ d →
      (s.sup.mode = .run ∨ s.sup.mode = .commissioning) → s.sup.pfsOrder = 0 →
      ∃ t, exec (.tripPulled [a, b, c, d]) s = .next t ∧ s.halted 15 t ∧ t.cpl.trip = 2 ∧ t.cpl.tripOpen = false) ∧
    (∀ ua u, ua < 500 → s.cpl.tripLow = some u →
      (u + sTicks ≤ s.clk.real → s.cpl.tripOpen = false → ∃ t, exec (.tripOpenWire ua) s = .next t ∧
        t.cpl = { s.cpl with tripOpen := true } ∧ s.logged t 0x2700 0x13 2 1 0 ∧ s.hpoGens t ∧ s.changesOnly [.cpl, .log, .hpo] t) ∧
      (s.clk.real < u + sTicks → exec (.tripOpenWire ua) s = .next s)) ∧
    (∀ ua, 500 ≤ ua → exec (.tripOpenWire ua) s = .next { s with cpl := { s.cpl with tripLow := none, tripOpen := false } }) ∧
    ((s.cpl.trip = 1 ∧ s.cpl.tripAt + 100 * msTicks ≤ s.clk.real ∨ s.cpl.trip = 2) →
      exec .tripPullEnd s = .next { s with cpl := { s.cpl with trip := 0 } })
end

