-- ==== Sys2Proof/Laws/Table.lean ====
section
/-! SUPPORT. What a read after a write of a sparse table gives, and that a write keeps the canonical form. -/

namespace Sys2Proof.Machine

variable {α : Type}

theorem Tab.look_without_same (k : Nat) (l : List (Nat × α)) : Tab.look k (Tab.without k l) = none := by
  induction l with
  | nil => rfl
  | cons e r ih => by_cases h : e.1 = k <;> simp [Tab.without, Tab.look, h, ih]

theorem Tab.look_without_other {k j : Nat} (h : j ≠ k) (l : List (Nat × α)) :
    Tab.look j (Tab.without k l) = Tab.look j l := by
  induction l with
  | nil => rfl
  | cons e r ih =>
    by_cases hk : e.1 = k
    · have : ¬ e.1 = j := fun hj => h (hj.symm.trans hk)
      simp [Tab.without, Tab.look, hk, ih, Ne.symm h]
    · simp [Tab.without, Tab.look, hk, ih]

theorem Tab.look_put_same (k : Nat) (v : α) (l : List (Nat × α)) (h : Tab.look k l = none) :
    Tab.look k (Tab.put k v l) = some v := by
  induction l with
  | nil => simp [Tab.put, Tab.look]
  | cons e r ih =>
    by_cases hk : e.1 = k
    · simp [Tab.look, hk] at h
    · have hr : Tab.look k r = none := by simpa [Tab.look, hk] using h
      by_cases hl : k < e.1 <;> simp [Tab.put, Tab.look, hl, hk, ih hr]

theorem Tab.look_put_other {k j : Nat} (h : j ≠ k) (v : α) (l : List (Nat × α)) :
    Tab.look j (Tab.put k v l) = Tab.look j l := by
  induction l with
  | nil => simp [Tab.put, Tab.look, Ne.symm h]
  | cons e r ih => by_cases hl : k < e.1 <;> simp [Tab.put, Tab.look, hl, ih, Ne.symm h]

/-- A read after a write: the written number gives the written value, every other number what it gave before. -/
theorem Tab.get_set [DecidableEq α] (t : Tab α) (d v : α) (k j : Nat) (dj : α) (hd : j = k → dj = d) :
    (t.set d k v).get dj j = if j = k then v else t.get dj j := by
  by_cases h : j = k
  · subst h
    have hdd : dj = d := hd rfl
    by_cases hv : v = d
    · simp [Tab.set, Tab.get, hv, Tab.look_without_same, hdd]
    · simp [Tab.set, Tab.get, hv, Tab.look_put_same _ _ _ (Tab.look_without_same j t.cells)]
  · by_cases hv : v = d
    · simp [Tab.set, Tab.get, hv, h, Tab.look_without_other h]
    · simp [Tab.set, Tab.get, hv, h, Tab.look_put_other h, Tab.look_without_other h]

@[simp] theorem Tab.get_set_same [DecidableEq α] (t : Tab α) (d v : α) (k : Nat) :
    (t.set d k v).get d k = v := by simp [Tab.get_set]

theorem Tab.get_set_other [DecidableEq α] (t : Tab α) (d v : α) {k j : Nat} (h : j ≠ k) (dj : α) :
    (t.set d k v).get dj j = t.get dj j := by
  rw [Tab.get_set _ _ _ _ _ _ (fun e => absurd e h)]; simp [h]

@[simp] theorem Tab.get_empty (d : α) (k : Nat) : (⟨[]⟩ : Tab α).get d k = d := rfl

theorem Tab.mem_without {k : Nat} {l : List (Nat × α)} {e : Nat × α} :
    e ∈ Tab.without k l ↔ e ∈ l ∧ e.1 ≠ k := by
  induction l with
  | nil => simp [Tab.without]
  | cons x r ih =>
    by_cases hx : x.1 = k
    · simp only [Tab.without, hx, if_true, ih, List.mem_cons]
      constructor
      · rintro ⟨h1, h2⟩; exact ⟨Or.inr h1, h2⟩
      · rintro ⟨h1 | h1, h2⟩
        · exact absurd (h1 ▸ hx) h2
        · exact ⟨h1, h2⟩
    · simp only [Tab.without, hx, if_false, List.mem_cons, ih]
      constructor
      · rintro (h | ⟨h1, h2⟩)
        · exact ⟨Or.inl h, h ▸ hx⟩
        · exact ⟨Or.inr h1, h2⟩
      · rintro ⟨h1 | h1, h2⟩
        · exact Or.inl h1
        · exact Or.inr ⟨h1, h2⟩

theorem Tab.mem_put {k : Nat} {v : α} {l : List (Nat × α)} {e : Nat × α} :
    e ∈ Tab.put k v l ↔ e = (k, v) ∨ e ∈ l := by
  induction l with
  | nil => simp [Tab.put]
  | cons x r ih =>
    by_cases h : k < x.1
    · simp [Tab.put, h]
    · simp only [Tab.put, h, if_false, List.mem_cons, ih]
      constructor
      · rintro (h | h | h) <;> simp [h]
      · rintro (h | h | h) <;> simp [h]

theorem Tab.rising_without {k : Nat} {l : List (Nat × α)} (h : Tab.rising l = true) :
    Tab.rising (Tab.without k l) = true := by
  induction l with
  | nil => rfl
  | cons x r ih =>
    simp only [Tab.rising, Bool.and_eq_true, List.all_eq_true, decide_eq_true_eq] at h
    by_cases hx : x.1 = k
    · simpa [Tab.without, hx] using ih h.2
    · simp only [Tab.without, hx, if_false, Tab.rising, Bool.and_eq_true, List.all_eq_true, decide_eq_true_eq]
      exact ⟨fun e he => h.1 e (Tab.mem_without.1 he).1, ih h.2⟩

theorem Tab.rising_put {k : Nat} {v : α} {l : List (Nat × α)} (h : Tab.rising l = true) (hk : ∀ e ∈ l, e.1 ≠ k) :
    Tab.rising (Tab.put k v l) = true := by
  induction l with
  | nil => rfl
  | cons x r ih =>
    simp only [Tab.rising, Bool.and_eq_true, List.all_eq_true, decide_eq_true_eq] at h
    by_cases hl : k < x.1
    · simp only [Tab.put, hl, if_true, Tab.rising, Bool.and_eq_true, List.all_eq_true, decide_eq_true_eq, List.mem_cons]
      refine ⟨?_, h.1, h.2⟩
      rintro e (rfl | he)
      · exact hl
      · exact Nat.lt_trans hl (h.1 e he)
    · have hne : x.1 ≠ k := hk x (List.mem_cons_self ..)
      simp only [Tab.put, hl, if_false, Tab.rising, Bool.and_eq_true, List.all_eq_true, decide_eq_true_eq]
      refine ⟨fun e he => ?_, ih h.2 (fun e he => hk e (List.mem_cons_of_mem _ he))⟩
      rcases Tab.mem_put.1 he with rfl | he
      · exact Nat.lt_of_le_of_ne (Nat.le_of_not_lt hl) hne
      · exact h.1 e he

/-- A write keeps the canonical form. -/
theorem Tab.wf_set [DecidableEq α] (d : Nat → α) (t : Tab α) (k : Nat) (v : α) (h : t.wf d = true) :
    (t.set (d k) k v).wf d = true := by
  simp only [Tab.wf, Bool.and_eq_true, List.all_eq_true, decide_eq_true_eq] at h ⊢
  by_cases hv : v = d k
  · simp only [Tab.set, hv, if_true]
    exact ⟨Tab.rising_without h.1, fun e he => h.2 e (Tab.mem_without.1 he).1⟩
  · simp only [Tab.set, hv, if_false]
    refine ⟨Tab.rising_put (Tab.rising_without h.1) (fun e he => (Tab.mem_without.1 he).2), fun e he => ?_⟩
    rcases Tab.mem_put.1 he with rfl | he
    · exact hv
    · exact h.2 e (Tab.mem_without.1 he).1

theorem Tab.wf_upd [DecidableEq α] (d : Nat → α) (t : Tab α) (k : Nat) (f : α → α) (h : t.wf d = true) :
    (t.upd (d k) k f).wf d = true := Tab.wf_set d t k _ h

@[simp] theorem Tab.wf_empty [DecidableEq α] (d : Nat → α) : (⟨[]⟩ : Tab α).wf d = true := rfl

end Sys2Proof.Machine
end

