-- ==== Sys2Proof/Laws/State.lean ====
section
/-! SUPPORT. Reads after writes of the records that State holds by number: the written number gives the written value, every other
number what it gave before; a write leaves every other block alone. -/

namespace Sys2Proof.Machine

/-- `dom` after `setDom`. -/
@[simp] theorem State.setDom_dom (s : State) (n k : Nat) (v : Dom) : (s.setDom n v).dom k = if k = n then v else s.dom k :=
  Tab.get_set _ _ _ _ _ _ (fun _ => rfl)

/-- `part` after `setPart`. -/
@[simp] theorem State.setPart_part (s : State) (n k : Nat) (v : Part) : (s.setPart n v).part k = if k = n then v else s.part k :=
  Tab.get_set _ _ _ _ _ _ (fun _ => rfl)

/-- `grp` after `setGrp`. -/
@[simp] theorem State.setGrp_grp (s : State) (n k : Nat) (v : Grp) : (s.setGrp n v).grp k = if k = n then v else s.grp k :=
  Tab.get_set _ _ _ _ _ _ (fun _ => rfl)

/-- `chan` after `setChan`. -/
@[simp] theorem State.setChan_chan (s : State) (n k : Nat) (v : Chan) : (s.setChan n v).chan k = if k = n then v else s.chan k :=
  Tab.get_set _ _ _ _ _ _ (fun _ => rfl)

/-- `inPair` after `setInPair`. -/
@[simp] theorem State.setInPair_inPair (s : State) (n k : Nat) (v : InPair) : (s.setInPair n v).inPair k = if k = n then v else s.inPair k :=
  Tab.get_set _ _ _ _ _ _ (fun _ => rfl)

/-- `src` after `setSrc`. -/
@[simp] theorem State.setSrc_src (s : State) (n k : Nat) (v : Src) : (s.setSrc n v).src k = if k = n then v else s.src k :=
  Tab.get_set _ _ _ _ _ _ (fun _ => rfl)

/-- `out` after `setOut`. -/
@[simp] theorem State.setOut_out (s : State) (n k : Nat) (v : Out) : (s.setOut n v).out k = if k = n then v else s.out k :=
  Tab.get_set _ _ _ _ _ _ (fun _ => rfl)

/-- `speed` after `setSpeed`. -/
@[simp] theorem State.setSpeed_speed (s : State) (n k : Nat) (v : SpeedCh) : (s.setSpeed n v).speed k = if k = n then v else s.speed k :=
  Tab.get_set _ _ _ _ _ _ (fun _ => rfl)

/-- `spair` after `setSpair`. -/
@[simp] theorem State.setSpair_spair (s : State) (n k : Nat) (v : SpeedPair) : (s.setSpair n v).spair k = if k = n then v else s.spair k :=
  Tab.get_set _ _ _ _ _ _ (fun _ => rfl)

/-- `motion` after `setMotion`. -/
@[simp] theorem State.setMotion_motion (s : State) (n k : Nat) (v : Motion) : (s.setMotion n v).motion k = if k = n then v else s.motion k :=
  Tab.get_set _ _ _ _ _ _ (fun _ => rfl)

/-- `ach` after `setAch`. -/
@[simp] theorem State.setAch_ach (s : State) (n k : Nat) (v : AChan) : (s.setAch n v).ach k = if k = n then v else s.ach k :=
  Tab.get_set _ _ _ _ _ _ (fun _ => rfl)

/-- `apair` after `setApair`. -/
@[simp] theorem State.setApair_apair (s : State) (n k : Nat) (v : APair) : (s.setApair n v).apair k = if k = n then v else s.apair k :=
  Tab.get_set _ _ _ _ _ _ (fun _ => rfl)

/-- `otpWord` after `setOtpWord`. -/
@[simp] theorem State.setOtpWord_otpWord (s : State) (n k : Nat) (v : OtpWord) : (s.setOtpWord n v).otpWord k = if k = n then v else s.otpWord k :=
  Tab.get_set _ _ _ _ _ _ (fun _ => rfl)

/-- `cvu` after `setCvu`. -/
@[simp] theorem State.setCvu_cvu (s : State) (n k : Nat) (v : Cvu) : (s.setCvu n v).cvu k = if k = n then v else s.cvu k :=
  Tab.get_set _ _ _ _ _ _ (fun _ => rfl)

/-- `csrc` after `setCsrc`. -/
@[simp] theorem State.setCsrc_csrc (s : State) (n k : Nat) (v : CSource) : (s.setCsrc n v).csrc k = if k = n then v else s.csrc k :=
  Tab.get_set _ _ _ _ _ _ (fun _ => rfl)

/-- `cpart` after `setCpart`. -/
@[simp] theorem State.setCpart_cpart (s : State) (n k : Nat) (v : CPart) : (s.setCpart n v).cpart k = if k = n then v else s.cpart k :=
  Tab.get_set _ _ _ _ _ _ (fun _ => rfl)

/-! ### One lemma per block and write -/

@[simp ↓] theorem State.setDom_clk (s : State) (n : Nat) (v : Dom) : (s.setDom n v).clk = s.clk := id rfl
@[simp] theorem State.setDom_pwr (s : State) (n : Nat) (v : Dom) : (s.setDom n v).pwr = { s.pwr with doms := s.pwr.doms.set {} n v } := id rfl
@[simp ↓] theorem State.setDom_sup (s : State) (n : Nat) (v : Dom) : (s.setDom n v).sup = s.sup := id rfl
@[simp ↓] theorem State.setDom_lot (s : State) (n : Nat) (v : Dom) : (s.setDom n v).lot = s.lot := id rfl
@[simp ↓] theorem State.setDom_nmt (s : State) (n : Nat) (v : Dom) : (s.setDom n v).nmt = s.nmt := id rfl
@[simp ↓] theorem State.setDom_sle (s : State) (n : Nat) (v : Dom) : (s.setDom n v).sle = s.sle := id rfl
@[simp ↓] theorem State.setDom_sin (s : State) (n : Nat) (v : Dom) : (s.setDom n v).sin = s.sin := id rfl
@[simp ↓] theorem State.setDom_sout (s : State) (n : Nat) (v : Dom) : (s.setDom n v).sout = s.sout := id rfl
@[simp ↓] theorem State.setDom_tmu (s : State) (n : Nat) (v : Dom) : (s.setDom n v).tmu = s.tmu := id rfl
@[simp ↓] theorem State.setDom_aaq (s : State) (n : Nat) (v : Dom) : (s.setDom n v).aaq = s.aaq := id rfl
@[simp ↓] theorem State.setDom_hpo (s : State) (n : Nat) (v : Dom) : (s.setDom n v).hpo = s.hpo := id rfl
@[simp ↓] theorem State.setDom_trk (s : State) (n : Nat) (v : Dom) : (s.setDom n v).trk = s.trk := id rfl
@[simp ↓] theorem State.setDom_otp (s : State) (n : Nat) (v : Dom) : (s.setDom n v).otp = s.otp := id rfl
@[simp ↓] theorem State.setDom_bist (s : State) (n : Nat) (v : Dom) : (s.setDom n v).bist = s.bist := id rfl
@[simp ↓] theorem State.setDom_cvus (s : State) (n : Nat) (v : Dom) : (s.setDom n v).cvus = s.cvus := id rfl
@[simp ↓] theorem State.setDom_cpl (s : State) (n : Nat) (v : Dom) : (s.setDom n v).cpl = s.cpl := id rfl
@[simp ↓] theorem State.setDom_rcr (s : State) (n : Nat) (v : Dom) : (s.setDom n v).rcr = s.rcr := id rfl
@[simp ↓] theorem State.setDom_log (s : State) (n : Nat) (v : Dom) : (s.setDom n v).log = s.log := id rfl
@[simp ↓] theorem State.setDom_fresh (s : State) (n : Nat) (v : Dom) : (s.setDom n v).fresh = s.fresh := id rfl
@[simp ↓] theorem State.setDom_pending (s : State) (n : Nat) (v : Dom) : (s.setDom n v).pending = s.pending := id rfl

@[simp ↓] theorem State.setPart_clk (s : State) (n : Nat) (v : Part) : (s.setPart n v).clk = s.clk := id rfl
@[simp ↓] theorem State.setPart_pwr (s : State) (n : Nat) (v : Part) : (s.setPart n v).pwr = s.pwr := id rfl
@[simp ↓] theorem State.setPart_sup (s : State) (n : Nat) (v : Part) : (s.setPart n v).sup = s.sup := id rfl
@[simp ↓] theorem State.setPart_lot (s : State) (n : Nat) (v : Part) : (s.setPart n v).lot = s.lot := id rfl
@[simp ↓] theorem State.setPart_nmt (s : State) (n : Nat) (v : Part) : (s.setPart n v).nmt = s.nmt := id rfl
@[simp] theorem State.setPart_sle (s : State) (n : Nat) (v : Part) : (s.setPart n v).sle = { s.sle with parts := s.sle.parts.set {} n v } := id rfl
@[simp ↓] theorem State.setPart_sin (s : State) (n : Nat) (v : Part) : (s.setPart n v).sin = s.sin := id rfl
@[simp ↓] theorem State.setPart_sout (s : State) (n : Nat) (v : Part) : (s.setPart n v).sout = s.sout := id rfl
@[simp ↓] theorem State.setPart_tmu (s : State) (n : Nat) (v : Part) : (s.setPart n v).tmu = s.tmu := id rfl
@[simp ↓] theorem State.setPart_aaq (s : State) (n : Nat) (v : Part) : (s.setPart n v).aaq = s.aaq := id rfl
@[simp ↓] theorem State.setPart_hpo (s : State) (n : Nat) (v : Part) : (s.setPart n v).hpo = s.hpo := id rfl
@[simp ↓] theorem State.setPart_trk (s : State) (n : Nat) (v : Part) : (s.setPart n v).trk = s.trk := id rfl
@[simp ↓] theorem State.setPart_otp (s : State) (n : Nat) (v : Part) : (s.setPart n v).otp = s.otp := id rfl
@[simp ↓] theorem State.setPart_bist (s : State) (n : Nat) (v : Part) : (s.setPart n v).bist = s.bist := id rfl
@[simp ↓] theorem State.setPart_cvus (s : State) (n : Nat) (v : Part) : (s.setPart n v).cvus = s.cvus := id rfl
@[simp ↓] theorem State.setPart_cpl (s : State) (n : Nat) (v : Part) : (s.setPart n v).cpl = s.cpl := id rfl
@[simp ↓] theorem State.setPart_rcr (s : State) (n : Nat) (v : Part) : (s.setPart n v).rcr = s.rcr := id rfl
@[simp ↓] theorem State.setPart_log (s : State) (n : Nat) (v : Part) : (s.setPart n v).log = s.log := id rfl
@[simp ↓] theorem State.setPart_fresh (s : State) (n : Nat) (v : Part) : (s.setPart n v).fresh = s.fresh := id rfl
@[simp ↓] theorem State.setPart_pending (s : State) (n : Nat) (v : Part) : (s.setPart n v).pending = s.pending := id rfl

@[simp ↓] theorem State.setGrp_clk (s : State) (n : Nat) (v : Grp) : (s.setGrp n v).clk = s.clk := id rfl
@[simp ↓] theorem State.setGrp_pwr (s : State) (n : Nat) (v : Grp) : (s.setGrp n v).pwr = s.pwr := id rfl
@[simp ↓] theorem State.setGrp_sup (s : State) (n : Nat) (v : Grp) : (s.setGrp n v).sup = s.sup := id rfl
@[simp ↓] theorem State.setGrp_lot (s : State) (n : Nat) (v : Grp) : (s.setGrp n v).lot = s.lot := id rfl
@[simp ↓] theorem State.setGrp_nmt (s : State) (n : Nat) (v : Grp) : (s.setGrp n v).nmt = s.nmt := id rfl
@[simp ↓] theorem State.setGrp_sle (s : State) (n : Nat) (v : Grp) : (s.setGrp n v).sle = s.sle := id rfl
@[simp ↓] theorem State.setGrp_sin (s : State) (n : Nat) (v : Grp) : (s.setGrp n v).sin = s.sin := id rfl
@[simp] theorem State.setGrp_sout (s : State) (n : Nat) (v : Grp) : (s.setGrp n v).sout = { s.sout with grps := s.sout.grps.set {} n v } := id rfl
@[simp ↓] theorem State.setGrp_tmu (s : State) (n : Nat) (v : Grp) : (s.setGrp n v).tmu = s.tmu := id rfl
@[simp ↓] theorem State.setGrp_aaq (s : State) (n : Nat) (v : Grp) : (s.setGrp n v).aaq = s.aaq := id rfl
@[simp ↓] theorem State.setGrp_hpo (s : State) (n : Nat) (v : Grp) : (s.setGrp n v).hpo = s.hpo := id rfl
@[simp ↓] theorem State.setGrp_trk (s : State) (n : Nat) (v : Grp) : (s.setGrp n v).trk = s.trk := id rfl
@[simp ↓] theorem State.setGrp_otp (s : State) (n : Nat) (v : Grp) : (s.setGrp n v).otp = s.otp := id rfl
@[simp ↓] theorem State.setGrp_bist (s : State) (n : Nat) (v : Grp) : (s.setGrp n v).bist = s.bist := id rfl
@[simp ↓] theorem State.setGrp_cvus (s : State) (n : Nat) (v : Grp) : (s.setGrp n v).cvus = s.cvus := id rfl
@[simp ↓] theorem State.setGrp_cpl (s : State) (n : Nat) (v : Grp) : (s.setGrp n v).cpl = s.cpl := id rfl
@[simp ↓] theorem State.setGrp_rcr (s : State) (n : Nat) (v : Grp) : (s.setGrp n v).rcr = s.rcr := id rfl
@[simp ↓] theorem State.setGrp_log (s : State) (n : Nat) (v : Grp) : (s.setGrp n v).log = s.log := id rfl
@[simp ↓] theorem State.setGrp_fresh (s : State) (n : Nat) (v : Grp) : (s.setGrp n v).fresh = s.fresh := id rfl
@[simp ↓] theorem State.setGrp_pending (s : State) (n : Nat) (v : Grp) : (s.setGrp n v).pending = s.pending := id rfl

@[simp ↓] theorem State.setChan_clk (s : State) (n : Nat) (v : Chan) : (s.setChan n v).clk = s.clk := id rfl
@[simp ↓] theorem State.setChan_pwr (s : State) (n : Nat) (v : Chan) : (s.setChan n v).pwr = s.pwr := id rfl
@[simp ↓] theorem State.setChan_sup (s : State) (n : Nat) (v : Chan) : (s.setChan n v).sup = s.sup := id rfl
@[simp ↓] theorem State.setChan_lot (s : State) (n : Nat) (v : Chan) : (s.setChan n v).lot = s.lot := id rfl
@[simp ↓] theorem State.setChan_nmt (s : State) (n : Nat) (v : Chan) : (s.setChan n v).nmt = s.nmt := id rfl
@[simp ↓] theorem State.setChan_sle (s : State) (n : Nat) (v : Chan) : (s.setChan n v).sle = s.sle := id rfl
@[simp] theorem State.setChan_sin (s : State) (n : Nat) (v : Chan) : (s.setChan n v).sin = { s.sin with chans := s.sin.chans.set {} n v } := id rfl
@[simp ↓] theorem State.setChan_sout (s : State) (n : Nat) (v : Chan) : (s.setChan n v).sout = s.sout := id rfl
@[simp ↓] theorem State.setChan_tmu (s : State) (n : Nat) (v : Chan) : (s.setChan n v).tmu = s.tmu := id rfl
@[simp ↓] theorem State.setChan_aaq (s : State) (n : Nat) (v : Chan) : (s.setChan n v).aaq = s.aaq := id rfl
@[simp ↓] theorem State.setChan_hpo (s : State) (n : Nat) (v : Chan) : (s.setChan n v).hpo = s.hpo := id rfl
@[simp ↓] theorem State.setChan_trk (s : State) (n : Nat) (v : Chan) : (s.setChan n v).trk = s.trk := id rfl
@[simp ↓] theorem State.setChan_otp (s : State) (n : Nat) (v : Chan) : (s.setChan n v).otp = s.otp := id rfl
@[simp ↓] theorem State.setChan_bist (s : State) (n : Nat) (v : Chan) : (s.setChan n v).bist = s.bist := id rfl
@[simp ↓] theorem State.setChan_cvus (s : State) (n : Nat) (v : Chan) : (s.setChan n v).cvus = s.cvus := id rfl
@[simp ↓] theorem State.setChan_cpl (s : State) (n : Nat) (v : Chan) : (s.setChan n v).cpl = s.cpl := id rfl
@[simp ↓] theorem State.setChan_rcr (s : State) (n : Nat) (v : Chan) : (s.setChan n v).rcr = s.rcr := id rfl
@[simp ↓] theorem State.setChan_log (s : State) (n : Nat) (v : Chan) : (s.setChan n v).log = s.log := id rfl
@[simp ↓] theorem State.setChan_fresh (s : State) (n : Nat) (v : Chan) : (s.setChan n v).fresh = s.fresh := id rfl
@[simp ↓] theorem State.setChan_pending (s : State) (n : Nat) (v : Chan) : (s.setChan n v).pending = s.pending := id rfl

@[simp ↓] theorem State.setInPair_clk (s : State) (n : Nat) (v : InPair) : (s.setInPair n v).clk = s.clk := id rfl
@[simp ↓] theorem State.setInPair_pwr (s : State) (n : Nat) (v : InPair) : (s.setInPair n v).pwr = s.pwr := id rfl
@[simp ↓] theorem State.setInPair_sup (s : State) (n : Nat) (v : InPair) : (s.setInPair n v).sup = s.sup := id rfl
@[simp ↓] theorem State.setInPair_lot (s : State) (n : Nat) (v : InPair) : (s.setInPair n v).lot = s.lot := id rfl
@[simp ↓] theorem State.setInPair_nmt (s : State) (n : Nat) (v : InPair) : (s.setInPair n v).nmt = s.nmt := id rfl
@[simp ↓] theorem State.setInPair_sle (s : State) (n : Nat) (v : InPair) : (s.setInPair n v).sle = s.sle := id rfl
@[simp] theorem State.setInPair_sin (s : State) (n : Nat) (v : InPair) : (s.setInPair n v).sin = { s.sin with pairs := s.sin.pairs.set {} n v } := id rfl
@[simp ↓] theorem State.setInPair_sout (s : State) (n : Nat) (v : InPair) : (s.setInPair n v).sout = s.sout := id rfl
@[simp ↓] theorem State.setInPair_tmu (s : State) (n : Nat) (v : InPair) : (s.setInPair n v).tmu = s.tmu := id rfl
@[simp ↓] theorem State.setInPair_aaq (s : State) (n : Nat) (v : InPair) : (s.setInPair n v).aaq = s.aaq := id rfl
@[simp ↓] theorem State.setInPair_hpo (s : State) (n : Nat) (v : InPair) : (s.setInPair n v).hpo = s.hpo := id rfl
@[simp ↓] theorem State.setInPair_trk (s : State) (n : Nat) (v : InPair) : (s.setInPair n v).trk = s.trk := id rfl
@[simp ↓] theorem State.setInPair_otp (s : State) (n : Nat) (v : InPair) : (s.setInPair n v).otp = s.otp := id rfl
@[simp ↓] theorem State.setInPair_bist (s : State) (n : Nat) (v : InPair) : (s.setInPair n v).bist = s.bist := id rfl
@[simp ↓] theorem State.setInPair_cvus (s : State) (n : Nat) (v : InPair) : (s.setInPair n v).cvus = s.cvus := id rfl
@[simp ↓] theorem State.setInPair_cpl (s : State) (n : Nat) (v : InPair) : (s.setInPair n v).cpl = s.cpl := id rfl
@[simp ↓] theorem State.setInPair_rcr (s : State) (n : Nat) (v : InPair) : (s.setInPair n v).rcr = s.rcr := id rfl
@[simp ↓] theorem State.setInPair_log (s : State) (n : Nat) (v : InPair) : (s.setInPair n v).log = s.log := id rfl
@[simp ↓] theorem State.setInPair_fresh (s : State) (n : Nat) (v : InPair) : (s.setInPair n v).fresh = s.fresh := id rfl
@[simp ↓] theorem State.setInPair_pending (s : State) (n : Nat) (v : InPair) : (s.setInPair n v).pending = s.pending := id rfl

@[simp ↓] theorem State.setSrc_clk (s : State) (n : Nat) (v : Src) : (s.setSrc n v).clk = s.clk := id rfl
@[simp ↓] theorem State.setSrc_pwr (s : State) (n : Nat) (v : Src) : (s.setSrc n v).pwr = s.pwr := id rfl
@[simp ↓] theorem State.setSrc_sup (s : State) (n : Nat) (v : Src) : (s.setSrc n v).sup = s.sup := id rfl
@[simp ↓] theorem State.setSrc_lot (s : State) (n : Nat) (v : Src) : (s.setSrc n v).lot = s.lot := id rfl
@[simp ↓] theorem State.setSrc_nmt (s : State) (n : Nat) (v : Src) : (s.setSrc n v).nmt = s.nmt := id rfl
@[simp ↓] theorem State.setSrc_sle (s : State) (n : Nat) (v : Src) : (s.setSrc n v).sle = s.sle := id rfl
@[simp] theorem State.setSrc_sin (s : State) (n : Nat) (v : Src) : (s.setSrc n v).sin = { s.sin with srcs := s.sin.srcs.set {} n v } := id rfl
@[simp ↓] theorem State.setSrc_sout (s : State) (n : Nat) (v : Src) : (s.setSrc n v).sout = s.sout := id rfl
@[simp ↓] theorem State.setSrc_tmu (s : State) (n : Nat) (v : Src) : (s.setSrc n v).tmu = s.tmu := id rfl
@[simp ↓] theorem State.setSrc_aaq (s : State) (n : Nat) (v : Src) : (s.setSrc n v).aaq = s.aaq := id rfl
@[simp ↓] theorem State.setSrc_hpo (s : State) (n : Nat) (v : Src) : (s.setSrc n v).hpo = s.hpo := id rfl
@[simp ↓] theorem State.setSrc_trk (s : State) (n : Nat) (v : Src) : (s.setSrc n v).trk = s.trk := id rfl
@[simp ↓] theorem State.setSrc_otp (s : State) (n : Nat) (v : Src) : (s.setSrc n v).otp = s.otp := id rfl
@[simp ↓] theorem State.setSrc_bist (s : State) (n : Nat) (v : Src) : (s.setSrc n v).bist = s.bist := id rfl
@[simp ↓] theorem State.setSrc_cvus (s : State) (n : Nat) (v : Src) : (s.setSrc n v).cvus = s.cvus := id rfl
@[simp ↓] theorem State.setSrc_cpl (s : State) (n : Nat) (v : Src) : (s.setSrc n v).cpl = s.cpl := id rfl
@[simp ↓] theorem State.setSrc_rcr (s : State) (n : Nat) (v : Src) : (s.setSrc n v).rcr = s.rcr := id rfl
@[simp ↓] theorem State.setSrc_log (s : State) (n : Nat) (v : Src) : (s.setSrc n v).log = s.log := id rfl
@[simp ↓] theorem State.setSrc_fresh (s : State) (n : Nat) (v : Src) : (s.setSrc n v).fresh = s.fresh := id rfl
@[simp ↓] theorem State.setSrc_pending (s : State) (n : Nat) (v : Src) : (s.setSrc n v).pending = s.pending := id rfl

@[simp ↓] theorem State.setOut_clk (s : State) (n : Nat) (v : Out) : (s.setOut n v).clk = s.clk := id rfl
@[simp ↓] theorem State.setOut_pwr (s : State) (n : Nat) (v : Out) : (s.setOut n v).pwr = s.pwr := id rfl
@[simp ↓] theorem State.setOut_sup (s : State) (n : Nat) (v : Out) : (s.setOut n v).sup = s.sup := id rfl
@[simp ↓] theorem State.setOut_lot (s : State) (n : Nat) (v : Out) : (s.setOut n v).lot = s.lot := id rfl
@[simp ↓] theorem State.setOut_nmt (s : State) (n : Nat) (v : Out) : (s.setOut n v).nmt = s.nmt := id rfl
@[simp ↓] theorem State.setOut_sle (s : State) (n : Nat) (v : Out) : (s.setOut n v).sle = s.sle := id rfl
@[simp ↓] theorem State.setOut_sin (s : State) (n : Nat) (v : Out) : (s.setOut n v).sin = s.sin := id rfl
@[simp] theorem State.setOut_sout (s : State) (n : Nat) (v : Out) : (s.setOut n v).sout = { s.sout with outs := s.sout.outs.set {} n v } := id rfl
@[simp ↓] theorem State.setOut_tmu (s : State) (n : Nat) (v : Out) : (s.setOut n v).tmu = s.tmu := id rfl
@[simp ↓] theorem State.setOut_aaq (s : State) (n : Nat) (v : Out) : (s.setOut n v).aaq = s.aaq := id rfl
@[simp ↓] theorem State.setOut_hpo (s : State) (n : Nat) (v : Out) : (s.setOut n v).hpo = s.hpo := id rfl
@[simp ↓] theorem State.setOut_trk (s : State) (n : Nat) (v : Out) : (s.setOut n v).trk = s.trk := id rfl
@[simp ↓] theorem State.setOut_otp (s : State) (n : Nat) (v : Out) : (s.setOut n v).otp = s.otp := id rfl
@[simp ↓] theorem State.setOut_bist (s : State) (n : Nat) (v : Out) : (s.setOut n v).bist = s.bist := id rfl
@[simp ↓] theorem State.setOut_cvus (s : State) (n : Nat) (v : Out) : (s.setOut n v).cvus = s.cvus := id rfl
@[simp ↓] theorem State.setOut_cpl (s : State) (n : Nat) (v : Out) : (s.setOut n v).cpl = s.cpl := id rfl
@[simp ↓] theorem State.setOut_rcr (s : State) (n : Nat) (v : Out) : (s.setOut n v).rcr = s.rcr := id rfl
@[simp ↓] theorem State.setOut_log (s : State) (n : Nat) (v : Out) : (s.setOut n v).log = s.log := id rfl
@[simp ↓] theorem State.setOut_fresh (s : State) (n : Nat) (v : Out) : (s.setOut n v).fresh = s.fresh := id rfl
@[simp ↓] theorem State.setOut_pending (s : State) (n : Nat) (v : Out) : (s.setOut n v).pending = s.pending := id rfl

@[simp ↓] theorem State.setSpeed_clk (s : State) (n : Nat) (v : SpeedCh) : (s.setSpeed n v).clk = s.clk := id rfl
@[simp ↓] theorem State.setSpeed_pwr (s : State) (n : Nat) (v : SpeedCh) : (s.setSpeed n v).pwr = s.pwr := id rfl
@[simp ↓] theorem State.setSpeed_sup (s : State) (n : Nat) (v : SpeedCh) : (s.setSpeed n v).sup = s.sup := id rfl
@[simp ↓] theorem State.setSpeed_lot (s : State) (n : Nat) (v : SpeedCh) : (s.setSpeed n v).lot = s.lot := id rfl
@[simp ↓] theorem State.setSpeed_nmt (s : State) (n : Nat) (v : SpeedCh) : (s.setSpeed n v).nmt = s.nmt := id rfl
@[simp ↓] theorem State.setSpeed_sle (s : State) (n : Nat) (v : SpeedCh) : (s.setSpeed n v).sle = s.sle := id rfl
@[simp ↓] theorem State.setSpeed_sin (s : State) (n : Nat) (v : SpeedCh) : (s.setSpeed n v).sin = s.sin := id rfl
@[simp ↓] theorem State.setSpeed_sout (s : State) (n : Nat) (v : SpeedCh) : (s.setSpeed n v).sout = s.sout := id rfl
@[simp] theorem State.setSpeed_tmu (s : State) (n : Nat) (v : SpeedCh) : (s.setSpeed n v).tmu = { s.tmu with speeds := s.tmu.speeds.set {} n v } := id rfl
@[simp ↓] theorem State.setSpeed_aaq (s : State) (n : Nat) (v : SpeedCh) : (s.setSpeed n v).aaq = s.aaq := id rfl
@[simp ↓] theorem State.setSpeed_hpo (s : State) (n : Nat) (v : SpeedCh) : (s.setSpeed n v).hpo = s.hpo := id rfl
@[simp ↓] theorem State.setSpeed_trk (s : State) (n : Nat) (v : SpeedCh) : (s.setSpeed n v).trk = s.trk := id rfl
@[simp ↓] theorem State.setSpeed_otp (s : State) (n : Nat) (v : SpeedCh) : (s.setSpeed n v).otp = s.otp := id rfl
@[simp ↓] theorem State.setSpeed_bist (s : State) (n : Nat) (v : SpeedCh) : (s.setSpeed n v).bist = s.bist := id rfl
@[simp ↓] theorem State.setSpeed_cvus (s : State) (n : Nat) (v : SpeedCh) : (s.setSpeed n v).cvus = s.cvus := id rfl
@[simp ↓] theorem State.setSpeed_cpl (s : State) (n : Nat) (v : SpeedCh) : (s.setSpeed n v).cpl = s.cpl := id rfl
@[simp ↓] theorem State.setSpeed_rcr (s : State) (n : Nat) (v : SpeedCh) : (s.setSpeed n v).rcr = s.rcr := id rfl
@[simp ↓] theorem State.setSpeed_log (s : State) (n : Nat) (v : SpeedCh) : (s.setSpeed n v).log = s.log := id rfl
@[simp ↓] theorem State.setSpeed_fresh (s : State) (n : Nat) (v : SpeedCh) : (s.setSpeed n v).fresh = s.fresh := id rfl
@[simp ↓] theorem State.setSpeed_pending (s : State) (n : Nat) (v : SpeedCh) : (s.setSpeed n v).pending = s.pending := id rfl

@[simp ↓] theorem State.setSpair_clk (s : State) (n : Nat) (v : SpeedPair) : (s.setSpair n v).clk = s.clk := id rfl
@[simp ↓] theorem State.setSpair_pwr (s : State) (n : Nat) (v : SpeedPair) : (s.setSpair n v).pwr = s.pwr := id rfl
@[simp ↓] theorem State.setSpair_sup (s : State) (n : Nat) (v : SpeedPair) : (s.setSpair n v).sup = s.sup := id rfl
@[simp ↓] theorem State.setSpair_lot (s : State) (n : Nat) (v : SpeedPair) : (s.setSpair n v).lot = s.lot := id rfl
@[simp ↓] theorem State.setSpair_nmt (s : State) (n : Nat) (v : SpeedPair) : (s.setSpair n v).nmt = s.nmt := id rfl
@[simp ↓] theorem State.setSpair_sle (s : State) (n : Nat) (v : SpeedPair) : (s.setSpair n v).sle = s.sle := id rfl
@[simp ↓] theorem State.setSpair_sin (s : State) (n : Nat) (v : SpeedPair) : (s.setSpair n v).sin = s.sin := id rfl
@[simp ↓] theorem State.setSpair_sout (s : State) (n : Nat) (v : SpeedPair) : (s.setSpair n v).sout = s.sout := id rfl
@[simp] theorem State.setSpair_tmu (s : State) (n : Nat) (v : SpeedPair) : (s.setSpair n v).tmu = { s.tmu with spairs := s.tmu.spairs.set {} n v } := id rfl
@[simp ↓] theorem State.setSpair_aaq (s : State) (n : Nat) (v : SpeedPair) : (s.setSpair n v).aaq = s.aaq := id rfl
@[simp ↓] theorem State.setSpair_hpo (s : State) (n : Nat) (v : SpeedPair) : (s.setSpair n v).hpo = s.hpo := id rfl
@[simp ↓] theorem State.setSpair_trk (s : State) (n : Nat) (v : SpeedPair) : (s.setSpair n v).trk = s.trk := id rfl
@[simp ↓] theorem State.setSpair_otp (s : State) (n : Nat) (v : SpeedPair) : (s.setSpair n v).otp = s.otp := id rfl
@[simp ↓] theorem State.setSpair_bist (s : State) (n : Nat) (v : SpeedPair) : (s.setSpair n v).bist = s.bist := id rfl
@[simp ↓] theorem State.setSpair_cvus (s : State) (n : Nat) (v : SpeedPair) : (s.setSpair n v).cvus = s.cvus := id rfl
@[simp ↓] theorem State.setSpair_cpl (s : State) (n : Nat) (v : SpeedPair) : (s.setSpair n v).cpl = s.cpl := id rfl
@[simp ↓] theorem State.setSpair_rcr (s : State) (n : Nat) (v : SpeedPair) : (s.setSpair n v).rcr = s.rcr := id rfl
@[simp ↓] theorem State.setSpair_log (s : State) (n : Nat) (v : SpeedPair) : (s.setSpair n v).log = s.log := id rfl
@[simp ↓] theorem State.setSpair_fresh (s : State) (n : Nat) (v : SpeedPair) : (s.setSpair n v).fresh = s.fresh := id rfl
@[simp ↓] theorem State.setSpair_pending (s : State) (n : Nat) (v : SpeedPair) : (s.setSpair n v).pending = s.pending := id rfl

@[simp ↓] theorem State.setMotion_clk (s : State) (n : Nat) (v : Motion) : (s.setMotion n v).clk = s.clk := id rfl
@[simp ↓] theorem State.setMotion_pwr (s : State) (n : Nat) (v : Motion) : (s.setMotion n v).pwr = s.pwr := id rfl
@[simp ↓] theorem State.setMotion_sup (s : State) (n : Nat) (v : Motion) : (s.setMotion n v).sup = s.sup := id rfl
@[simp ↓] theorem State.setMotion_lot (s : State) (n : Nat) (v : Motion) : (s.setMotion n v).lot = s.lot := id rfl
@[simp ↓] theorem State.setMotion_nmt (s : State) (n : Nat) (v : Motion) : (s.setMotion n v).nmt = s.nmt := id rfl
@[simp ↓] theorem State.setMotion_sle (s : State) (n : Nat) (v : Motion) : (s.setMotion n v).sle = s.sle := id rfl
@[simp ↓] theorem State.setMotion_sin (s : State) (n : Nat) (v : Motion) : (s.setMotion n v).sin = s.sin := id rfl
@[simp ↓] theorem State.setMotion_sout (s : State) (n : Nat) (v : Motion) : (s.setMotion n v).sout = s.sout := id rfl
@[simp] theorem State.setMotion_tmu (s : State) (n : Nat) (v : Motion) : (s.setMotion n v).tmu = { s.tmu with motions := s.tmu.motions.set {} n v } := id rfl
@[simp ↓] theorem State.setMotion_aaq (s : State) (n : Nat) (v : Motion) : (s.setMotion n v).aaq = s.aaq := id rfl
@[simp ↓] theorem State.setMotion_hpo (s : State) (n : Nat) (v : Motion) : (s.setMotion n v).hpo = s.hpo := id rfl
@[simp ↓] theorem State.setMotion_trk (s : State) (n : Nat) (v : Motion) : (s.setMotion n v).trk = s.trk := id rfl
@[simp ↓] theorem State.setMotion_otp (s : State) (n : Nat) (v : Motion) : (s.setMotion n v).otp = s.otp := id rfl
@[simp ↓] theorem State.setMotion_bist (s : State) (n : Nat) (v : Motion) : (s.setMotion n v).bist = s.bist := id rfl
@[simp ↓] theorem State.setMotion_cvus (s : State) (n : Nat) (v : Motion) : (s.setMotion n v).cvus = s.cvus := id rfl
@[simp ↓] theorem State.setMotion_cpl (s : State) (n : Nat) (v : Motion) : (s.setMotion n v).cpl = s.cpl := id rfl
@[simp ↓] theorem State.setMotion_rcr (s : State) (n : Nat) (v : Motion) : (s.setMotion n v).rcr = s.rcr := id rfl
@[simp ↓] theorem State.setMotion_log (s : State) (n : Nat) (v : Motion) : (s.setMotion n v).log = s.log := id rfl
@[simp ↓] theorem State.setMotion_fresh (s : State) (n : Nat) (v : Motion) : (s.setMotion n v).fresh = s.fresh := id rfl
@[simp ↓] theorem State.setMotion_pending (s : State) (n : Nat) (v : Motion) : (s.setMotion n v).pending = s.pending := id rfl

@[simp ↓] theorem State.setAch_clk (s : State) (n : Nat) (v : AChan) : (s.setAch n v).clk = s.clk := id rfl
@[simp ↓] theorem State.setAch_pwr (s : State) (n : Nat) (v : AChan) : (s.setAch n v).pwr = s.pwr := id rfl
@[simp ↓] theorem State.setAch_sup (s : State) (n : Nat) (v : AChan) : (s.setAch n v).sup = s.sup := id rfl
@[simp ↓] theorem State.setAch_lot (s : State) (n : Nat) (v : AChan) : (s.setAch n v).lot = s.lot := id rfl
@[simp ↓] theorem State.setAch_nmt (s : State) (n : Nat) (v : AChan) : (s.setAch n v).nmt = s.nmt := id rfl
@[simp ↓] theorem State.setAch_sle (s : State) (n : Nat) (v : AChan) : (s.setAch n v).sle = s.sle := id rfl
@[simp ↓] theorem State.setAch_sin (s : State) (n : Nat) (v : AChan) : (s.setAch n v).sin = s.sin := id rfl
@[simp ↓] theorem State.setAch_sout (s : State) (n : Nat) (v : AChan) : (s.setAch n v).sout = s.sout := id rfl
@[simp ↓] theorem State.setAch_tmu (s : State) (n : Nat) (v : AChan) : (s.setAch n v).tmu = s.tmu := id rfl
@[simp] theorem State.setAch_aaq (s : State) (n : Nat) (v : AChan) : (s.setAch n v).aaq = { s.aaq with chans := s.aaq.chans.set {} n v } := id rfl
@[simp ↓] theorem State.setAch_hpo (s : State) (n : Nat) (v : AChan) : (s.setAch n v).hpo = s.hpo := id rfl
@[simp ↓] theorem State.setAch_trk (s : State) (n : Nat) (v : AChan) : (s.setAch n v).trk = s.trk := id rfl
@[simp ↓] theorem State.setAch_otp (s : State) (n : Nat) (v : AChan) : (s.setAch n v).otp = s.otp := id rfl
@[simp ↓] theorem State.setAch_bist (s : State) (n : Nat) (v : AChan) : (s.setAch n v).bist = s.bist := id rfl
@[simp ↓] theorem State.setAch_cvus (s : State) (n : Nat) (v : AChan) : (s.setAch n v).cvus = s.cvus := id rfl
@[simp ↓] theorem State.setAch_cpl (s : State) (n : Nat) (v : AChan) : (s.setAch n v).cpl = s.cpl := id rfl
@[simp ↓] theorem State.setAch_rcr (s : State) (n : Nat) (v : AChan) : (s.setAch n v).rcr = s.rcr := id rfl
@[simp ↓] theorem State.setAch_log (s : State) (n : Nat) (v : AChan) : (s.setAch n v).log = s.log := id rfl
@[simp ↓] theorem State.setAch_fresh (s : State) (n : Nat) (v : AChan) : (s.setAch n v).fresh = s.fresh := id rfl
@[simp ↓] theorem State.setAch_pending (s : State) (n : Nat) (v : AChan) : (s.setAch n v).pending = s.pending := id rfl

@[simp ↓] theorem State.setApair_clk (s : State) (n : Nat) (v : APair) : (s.setApair n v).clk = s.clk := id rfl
@[simp ↓] theorem State.setApair_pwr (s : State) (n : Nat) (v : APair) : (s.setApair n v).pwr = s.pwr := id rfl
@[simp ↓] theorem State.setApair_sup (s : State) (n : Nat) (v : APair) : (s.setApair n v).sup = s.sup := id rfl
@[simp ↓] theorem State.setApair_lot (s : State) (n : Nat) (v : APair) : (s.setApair n v).lot = s.lot := id rfl
@[simp ↓] theorem State.setApair_nmt (s : State) (n : Nat) (v : APair) : (s.setApair n v).nmt = s.nmt := id rfl
@[simp ↓] theorem State.setApair_sle (s : State) (n : Nat) (v : APair) : (s.setApair n v).sle = s.sle := id rfl
@[simp ↓] theorem State.setApair_sin (s : State) (n : Nat) (v : APair) : (s.setApair n v).sin = s.sin := id rfl
@[simp ↓] theorem State.setApair_sout (s : State) (n : Nat) (v : APair) : (s.setApair n v).sout = s.sout := id rfl
@[simp ↓] theorem State.setApair_tmu (s : State) (n : Nat) (v : APair) : (s.setApair n v).tmu = s.tmu := id rfl
@[simp] theorem State.setApair_aaq (s : State) (n : Nat) (v : APair) : (s.setApair n v).aaq = { s.aaq with pairs := s.aaq.pairs.set {} n v } := id rfl
@[simp ↓] theorem State.setApair_hpo (s : State) (n : Nat) (v : APair) : (s.setApair n v).hpo = s.hpo := id rfl
@[simp ↓] theorem State.setApair_trk (s : State) (n : Nat) (v : APair) : (s.setApair n v).trk = s.trk := id rfl
@[simp ↓] theorem State.setApair_otp (s : State) (n : Nat) (v : APair) : (s.setApair n v).otp = s.otp := id rfl
@[simp ↓] theorem State.setApair_bist (s : State) (n : Nat) (v : APair) : (s.setApair n v).bist = s.bist := id rfl
@[simp ↓] theorem State.setApair_cvus (s : State) (n : Nat) (v : APair) : (s.setApair n v).cvus = s.cvus := id rfl
@[simp ↓] theorem State.setApair_cpl (s : State) (n : Nat) (v : APair) : (s.setApair n v).cpl = s.cpl := id rfl
@[simp ↓] theorem State.setApair_rcr (s : State) (n : Nat) (v : APair) : (s.setApair n v).rcr = s.rcr := id rfl
@[simp ↓] theorem State.setApair_log (s : State) (n : Nat) (v : APair) : (s.setApair n v).log = s.log := id rfl
@[simp ↓] theorem State.setApair_fresh (s : State) (n : Nat) (v : APair) : (s.setApair n v).fresh = s.fresh := id rfl
@[simp ↓] theorem State.setApair_pending (s : State) (n : Nat) (v : APair) : (s.setApair n v).pending = s.pending := id rfl

@[simp ↓] theorem State.setOtpWord_clk (s : State) (n : Nat) (v : OtpWord) : (s.setOtpWord n v).clk = s.clk := id rfl
@[simp ↓] theorem State.setOtpWord_pwr (s : State) (n : Nat) (v : OtpWord) : (s.setOtpWord n v).pwr = s.pwr := id rfl
@[simp ↓] theorem State.setOtpWord_sup (s : State) (n : Nat) (v : OtpWord) : (s.setOtpWord n v).sup = s.sup := id rfl
@[simp ↓] theorem State.setOtpWord_lot (s : State) (n : Nat) (v : OtpWord) : (s.setOtpWord n v).lot = s.lot := id rfl
@[simp ↓] theorem State.setOtpWord_nmt (s : State) (n : Nat) (v : OtpWord) : (s.setOtpWord n v).nmt = s.nmt := id rfl
@[simp ↓] theorem State.setOtpWord_sle (s : State) (n : Nat) (v : OtpWord) : (s.setOtpWord n v).sle = s.sle := id rfl
@[simp ↓] theorem State.setOtpWord_sin (s : State) (n : Nat) (v : OtpWord) : (s.setOtpWord n v).sin = s.sin := id rfl
@[simp ↓] theorem State.setOtpWord_sout (s : State) (n : Nat) (v : OtpWord) : (s.setOtpWord n v).sout = s.sout := id rfl
@[simp ↓] theorem State.setOtpWord_tmu (s : State) (n : Nat) (v : OtpWord) : (s.setOtpWord n v).tmu = s.tmu := id rfl
@[simp ↓] theorem State.setOtpWord_aaq (s : State) (n : Nat) (v : OtpWord) : (s.setOtpWord n v).aaq = s.aaq := id rfl
@[simp ↓] theorem State.setOtpWord_hpo (s : State) (n : Nat) (v : OtpWord) : (s.setOtpWord n v).hpo = s.hpo := id rfl
@[simp ↓] theorem State.setOtpWord_trk (s : State) (n : Nat) (v : OtpWord) : (s.setOtpWord n v).trk = s.trk := id rfl
@[simp] theorem State.setOtpWord_otp (s : State) (n : Nat) (v : OtpWord) : (s.setOtpWord n v).otp = { s.otp with words := s.otp.words.set {} n v } := id rfl
@[simp ↓] theorem State.setOtpWord_bist (s : State) (n : Nat) (v : OtpWord) : (s.setOtpWord n v).bist = s.bist := id rfl
@[simp ↓] theorem State.setOtpWord_cvus (s : State) (n : Nat) (v : OtpWord) : (s.setOtpWord n v).cvus = s.cvus := id rfl
@[simp ↓] theorem State.setOtpWord_cpl (s : State) (n : Nat) (v : OtpWord) : (s.setOtpWord n v).cpl = s.cpl := id rfl
@[simp ↓] theorem State.setOtpWord_rcr (s : State) (n : Nat) (v : OtpWord) : (s.setOtpWord n v).rcr = s.rcr := id rfl
@[simp ↓] theorem State.setOtpWord_log (s : State) (n : Nat) (v : OtpWord) : (s.setOtpWord n v).log = s.log := id rfl
@[simp ↓] theorem State.setOtpWord_fresh (s : State) (n : Nat) (v : OtpWord) : (s.setOtpWord n v).fresh = s.fresh := id rfl
@[simp ↓] theorem State.setOtpWord_pending (s : State) (n : Nat) (v : OtpWord) : (s.setOtpWord n v).pending = s.pending := id rfl

@[simp ↓] theorem State.setCvu_clk (s : State) (n : Nat) (v : Cvu) : (s.setCvu n v).clk = s.clk := id rfl
@[simp ↓] theorem State.setCvu_pwr (s : State) (n : Nat) (v : Cvu) : (s.setCvu n v).pwr = s.pwr := id rfl
@[simp ↓] theorem State.setCvu_sup (s : State) (n : Nat) (v : Cvu) : (s.setCvu n v).sup = s.sup := id rfl
@[simp ↓] theorem State.setCvu_lot (s : State) (n : Nat) (v : Cvu) : (s.setCvu n v).lot = s.lot := id rfl
@[simp ↓] theorem State.setCvu_nmt (s : State) (n : Nat) (v : Cvu) : (s.setCvu n v).nmt = s.nmt := id rfl
@[simp ↓] theorem State.setCvu_sle (s : State) (n : Nat) (v : Cvu) : (s.setCvu n v).sle = s.sle := id rfl
@[simp ↓] theorem State.setCvu_sin (s : State) (n : Nat) (v : Cvu) : (s.setCvu n v).sin = s.sin := id rfl
@[simp ↓] theorem State.setCvu_sout (s : State) (n : Nat) (v : Cvu) : (s.setCvu n v).sout = s.sout := id rfl
@[simp ↓] theorem State.setCvu_tmu (s : State) (n : Nat) (v : Cvu) : (s.setCvu n v).tmu = s.tmu := id rfl
@[simp ↓] theorem State.setCvu_aaq (s : State) (n : Nat) (v : Cvu) : (s.setCvu n v).aaq = s.aaq := id rfl
@[simp ↓] theorem State.setCvu_hpo (s : State) (n : Nat) (v : Cvu) : (s.setCvu n v).hpo = s.hpo := id rfl
@[simp ↓] theorem State.setCvu_trk (s : State) (n : Nat) (v : Cvu) : (s.setCvu n v).trk = s.trk := id rfl
@[simp ↓] theorem State.setCvu_otp (s : State) (n : Nat) (v : Cvu) : (s.setCvu n v).otp = s.otp := id rfl
@[simp ↓] theorem State.setCvu_bist (s : State) (n : Nat) (v : Cvu) : (s.setCvu n v).bist = s.bist := id rfl
@[simp ↓] theorem State.setCvu_cvus (s : State) (n : Nat) (v : Cvu) : (s.setCvu n v).cvus = s.cvus.set {} n v := id rfl
@[simp ↓] theorem State.setCvu_cpl (s : State) (n : Nat) (v : Cvu) : (s.setCvu n v).cpl = s.cpl := id rfl
@[simp ↓] theorem State.setCvu_rcr (s : State) (n : Nat) (v : Cvu) : (s.setCvu n v).rcr = s.rcr := id rfl
@[simp ↓] theorem State.setCvu_log (s : State) (n : Nat) (v : Cvu) : (s.setCvu n v).log = s.log := id rfl
@[simp ↓] theorem State.setCvu_fresh (s : State) (n : Nat) (v : Cvu) : (s.setCvu n v).fresh = s.fresh := id rfl
@[simp ↓] theorem State.setCvu_pending (s : State) (n : Nat) (v : Cvu) : (s.setCvu n v).pending = s.pending := id rfl

@[simp ↓] theorem State.setCsrc_clk (s : State) (n : Nat) (v : CSource) : (s.setCsrc n v).clk = s.clk := id rfl
@[simp ↓] theorem State.setCsrc_pwr (s : State) (n : Nat) (v : CSource) : (s.setCsrc n v).pwr = s.pwr := id rfl
@[simp ↓] theorem State.setCsrc_sup (s : State) (n : Nat) (v : CSource) : (s.setCsrc n v).sup = s.sup := id rfl
@[simp ↓] theorem State.setCsrc_lot (s : State) (n : Nat) (v : CSource) : (s.setCsrc n v).lot = s.lot := id rfl
@[simp ↓] theorem State.setCsrc_nmt (s : State) (n : Nat) (v : CSource) : (s.setCsrc n v).nmt = s.nmt := id rfl
@[simp ↓] theorem State.setCsrc_sle (s : State) (n : Nat) (v : CSource) : (s.setCsrc n v).sle = s.sle := id rfl
@[simp ↓] theorem State.setCsrc_sin (s : State) (n : Nat) (v : CSource) : (s.setCsrc n v).sin = s.sin := id rfl
@[simp ↓] theorem State.setCsrc_sout (s : State) (n : Nat) (v : CSource) : (s.setCsrc n v).sout = s.sout := id rfl
@[simp ↓] theorem State.setCsrc_tmu (s : State) (n : Nat) (v : CSource) : (s.setCsrc n v).tmu = s.tmu := id rfl
@[simp ↓] theorem State.setCsrc_aaq (s : State) (n : Nat) (v : CSource) : (s.setCsrc n v).aaq = s.aaq := id rfl
@[simp ↓] theorem State.setCsrc_hpo (s : State) (n : Nat) (v : CSource) : (s.setCsrc n v).hpo = s.hpo := id rfl
@[simp ↓] theorem State.setCsrc_trk (s : State) (n : Nat) (v : CSource) : (s.setCsrc n v).trk = s.trk := id rfl
@[simp ↓] theorem State.setCsrc_otp (s : State) (n : Nat) (v : CSource) : (s.setCsrc n v).otp = s.otp := id rfl
@[simp ↓] theorem State.setCsrc_bist (s : State) (n : Nat) (v : CSource) : (s.setCsrc n v).bist = s.bist := id rfl
@[simp ↓] theorem State.setCsrc_cvus (s : State) (n : Nat) (v : CSource) : (s.setCsrc n v).cvus = s.cvus := id rfl
@[simp] theorem State.setCsrc_cpl (s : State) (n : Nat) (v : CSource) : (s.setCsrc n v).cpl = { s.cpl with sources := s.cpl.sources.set {} n v } := id rfl
@[simp ↓] theorem State.setCsrc_rcr (s : State) (n : Nat) (v : CSource) : (s.setCsrc n v).rcr = s.rcr := id rfl
@[simp ↓] theorem State.setCsrc_log (s : State) (n : Nat) (v : CSource) : (s.setCsrc n v).log = s.log := id rfl
@[simp ↓] theorem State.setCsrc_fresh (s : State) (n : Nat) (v : CSource) : (s.setCsrc n v).fresh = s.fresh := id rfl
@[simp ↓] theorem State.setCsrc_pending (s : State) (n : Nat) (v : CSource) : (s.setCsrc n v).pending = s.pending := id rfl

@[simp ↓] theorem State.setCpart_clk (s : State) (n : Nat) (v : CPart) : (s.setCpart n v).clk = s.clk := id rfl
@[simp ↓] theorem State.setCpart_pwr (s : State) (n : Nat) (v : CPart) : (s.setCpart n v).pwr = s.pwr := id rfl
@[simp ↓] theorem State.setCpart_sup (s : State) (n : Nat) (v : CPart) : (s.setCpart n v).sup = s.sup := id rfl
@[simp ↓] theorem State.setCpart_lot (s : State) (n : Nat) (v : CPart) : (s.setCpart n v).lot = s.lot := id rfl
@[simp ↓] theorem State.setCpart_nmt (s : State) (n : Nat) (v : CPart) : (s.setCpart n v).nmt = s.nmt := id rfl
@[simp ↓] theorem State.setCpart_sle (s : State) (n : Nat) (v : CPart) : (s.setCpart n v).sle = s.sle := id rfl
@[simp ↓] theorem State.setCpart_sin (s : State) (n : Nat) (v : CPart) : (s.setCpart n v).sin = s.sin := id rfl
@[simp ↓] theorem State.setCpart_sout (s : State) (n : Nat) (v : CPart) : (s.setCpart n v).sout = s.sout := id rfl
@[simp ↓] theorem State.setCpart_tmu (s : State) (n : Nat) (v : CPart) : (s.setCpart n v).tmu = s.tmu := id rfl
@[simp ↓] theorem State.setCpart_aaq (s : State) (n : Nat) (v : CPart) : (s.setCpart n v).aaq = s.aaq := id rfl
@[simp ↓] theorem State.setCpart_hpo (s : State) (n : Nat) (v : CPart) : (s.setCpart n v).hpo = s.hpo := id rfl
@[simp ↓] theorem State.setCpart_trk (s : State) (n : Nat) (v : CPart) : (s.setCpart n v).trk = s.trk := id rfl
@[simp ↓] theorem State.setCpart_otp (s : State) (n : Nat) (v : CPart) : (s.setCpart n v).otp = s.otp := id rfl
@[simp ↓] theorem State.setCpart_bist (s : State) (n : Nat) (v : CPart) : (s.setCpart n v).bist = s.bist := id rfl
@[simp ↓] theorem State.setCpart_cvus (s : State) (n : Nat) (v : CPart) : (s.setCpart n v).cvus = s.cvus := id rfl
@[simp] theorem State.setCpart_cpl (s : State) (n : Nat) (v : CPart) : (s.setCpart n v).cpl = { s.cpl with parts := s.cpl.parts.set {} n v } := id rfl
@[simp ↓] theorem State.setCpart_rcr (s : State) (n : Nat) (v : CPart) : (s.setCpart n v).rcr = s.rcr := id rfl
@[simp ↓] theorem State.setCpart_log (s : State) (n : Nat) (v : CPart) : (s.setCpart n v).log = s.log := id rfl
@[simp ↓] theorem State.setCpart_fresh (s : State) (n : Nat) (v : CPart) : (s.setCpart n v).fresh = s.fresh := id rfl
@[simp ↓] theorem State.setCpart_pending (s : State) (n : Nat) (v : CPart) : (s.setCpart n v).pending = s.pending := id rfl

/-- `setCur` writes two fields of one block. -/
@[simp] theorem State.setCur_sle (s : State) (c : Option Nat) : (s.setCur c).sle =
    { s.sle with cur := c, lastRun := (c.map (fun p => (p, (s.part p).seq + 1))) <|> s.sle.lastRun } := rfl
@[simp ↓] theorem State.setCur_clk (s : State) (c : Option Nat) : (s.setCur c).clk = s.clk := id rfl
@[simp ↓] theorem State.setCur_pwr (s : State) (c : Option Nat) : (s.setCur c).pwr = s.pwr := id rfl
@[simp ↓] theorem State.setCur_sup (s : State) (c : Option Nat) : (s.setCur c).sup = s.sup := id rfl
@[simp ↓] theorem State.setCur_lot (s : State) (c : Option Nat) : (s.setCur c).lot = s.lot := id rfl
@[simp ↓] theorem State.setCur_nmt (s : State) (c : Option Nat) : (s.setCur c).nmt = s.nmt := id rfl
@[simp ↓] theorem State.setCur_sin (s : State) (c : Option Nat) : (s.setCur c).sin = s.sin := id rfl
@[simp ↓] theorem State.setCur_sout (s : State) (c : Option Nat) : (s.setCur c).sout = s.sout := id rfl
@[simp ↓] theorem State.setCur_tmu (s : State) (c : Option Nat) : (s.setCur c).tmu = s.tmu := id rfl
@[simp ↓] theorem State.setCur_aaq (s : State) (c : Option Nat) : (s.setCur c).aaq = s.aaq := id rfl
@[simp ↓] theorem State.setCur_hpo (s : State) (c : Option Nat) : (s.setCur c).hpo = s.hpo := id rfl
@[simp ↓] theorem State.setCur_trk (s : State) (c : Option Nat) : (s.setCur c).trk = s.trk := id rfl
@[simp ↓] theorem State.setCur_otp (s : State) (c : Option Nat) : (s.setCur c).otp = s.otp := id rfl
@[simp ↓] theorem State.setCur_bist (s : State) (c : Option Nat) : (s.setCur c).bist = s.bist := id rfl
@[simp ↓] theorem State.setCur_cvus (s : State) (c : Option Nat) : (s.setCur c).cvus = s.cvus := id rfl
@[simp ↓] theorem State.setCur_cpl (s : State) (c : Option Nat) : (s.setCur c).cpl = s.cpl := id rfl
@[simp ↓] theorem State.setCur_rcr (s : State) (c : Option Nat) : (s.setCur c).rcr = s.rcr := id rfl
@[simp ↓] theorem State.setCur_log (s : State) (c : Option Nat) : (s.setCur c).log = s.log := id rfl
@[simp ↓] theorem State.setCur_fresh (s : State) (c : Option Nat) : (s.setCur c).fresh = s.fresh := id rfl
@[simp ↓] theorem State.setCur_pending (s : State) (c : Option Nat) : (s.setCur c).pending = s.pending := id rfl

end Sys2Proof.Machine
end

