-- ==== Sys2Proof/Laws/Keep.lean ====
section
/-! SUPPORT. A part of the state through a choice and through a fold: what every step of a fold keeps, the fold keeps. -/

namespace Sys2Proof.Machine

/-- What every step keeps, the fold keeps. -/
theorem foldl_keep {α β γ : Type} (π : β → γ) (f : β → α → β) (h : ∀ a x, π (f a x) = π a) (l : List α) (s : β) :
    π (l.foldl f s) = π s := by
  induction l generalizing s with
  | nil => rfl
  | cons x r ih => simp [ih, h]
@[simp ↓] theorem ite_clk (c : Prop) [Decidable c] (a b : State) : (if c then a else b).clk = if c then a.clk else b.clk := by split <;> rfl
@[simp ↓] theorem ite_clk_now (c : Prop) [Decidable c] (a b : State) : (if c then a else b).clk.now = if c then a.clk.now else b.clk.now := by split <;> rfl
@[simp ↓] theorem ite_clk_real (c : Prop) [Decidable c] (a b : State) : (if c then a else b).clk.real = if c then a.clk.real else b.clk.real := by split <;> rfl
@[simp ↓] theorem ite_clk_running (c : Prop) [Decidable c] (a b : State) : (if c then a else b).clk.running = if c then a.clk.running else b.clk.running := by split <;> rfl
@[simp ↓] theorem ite_pwr (c : Prop) [Decidable c] (a b : State) : (if c then a else b).pwr = if c then a.pwr else b.pwr := by split <;> rfl
@[simp ↓] theorem ite_pwr_doms (c : Prop) [Decidable c] (a b : State) : (if c then a else b).pwr.doms = if c then a.pwr.doms else b.pwr.doms := by split <;> rfl
@[simp ↓] theorem ite_sup (c : Prop) [Decidable c] (a b : State) : (if c then a else b).sup = if c then a.sup else b.sup := by split <;> rfl
@[simp ↓] theorem ite_sup_mode (c : Prop) [Decidable c] (a b : State) : (if c then a else b).sup.mode = if c then a.sup.mode else b.sup.mode := by split <;> rfl
@[simp ↓] theorem ite_sup_driveRemoved (c : Prop) [Decidable c] (a b : State) : (if c then a else b).sup.driveRemoved = if c then a.sup.driveRemoved else b.sup.driveRemoved := by split <;> rfl
@[simp ↓] theorem ite_sup_bootCount (c : Prop) [Decidable c] (a b : State) : (if c then a else b).sup.bootCount = if c then a.sup.bootCount else b.sup.bootCount := by split <;> rfl
@[simp ↓] theorem ite_sup_causes (c : Prop) [Decidable c] (a b : State) : (if c then a else b).sup.causes = if c then a.sup.causes else b.sup.causes := by split <;> rfl
@[simp ↓] theorem ite_sup_firstCause (c : Prop) [Decidable c] (a b : State) : (if c then a else b).sup.firstCause = if c then a.sup.firstCause else b.sup.firstCause := by split <;> rfl
@[simp ↓] theorem ite_lot (c : Prop) [Decidable c] (a b : State) : (if c then a else b).lot = if c then a.lot else b.lot := by split <;> rfl
@[simp ↓] theorem ite_lot_active (c : Prop) [Decidable c] (a b : State) : (if c then a else b).lot.active = if c then a.lot.active else b.lot.active := by split <;> rfl
@[simp ↓] theorem ite_lot_stored (c : Prop) [Decidable c] (a b : State) : (if c then a else b).lot.stored = if c then a.lot.stored else b.lot.stored := by split <;> rfl
@[simp ↓] theorem ite_nmt (c : Prop) [Decidable c] (a b : State) : (if c then a else b).nmt = if c then a.nmt else b.nmt := by split <;> rfl
@[simp ↓] theorem ite_nmt_comG (c : Prop) [Decidable c] (a b : State) : (if c then a else b).nmt.comG = if c then a.nmt.comG else b.nmt.comG := by split <;> rfl
@[simp ↓] theorem ite_sle (c : Prop) [Decidable c] (a b : State) : (if c then a else b).sle = if c then a.sle else b.sle := by split <;> rfl
@[simp ↓] theorem ite_sle_epoch (c : Prop) [Decidable c] (a b : State) : (if c then a else b).sle.epoch = if c then a.sle.epoch else b.sle.epoch := by split <;> rfl
@[simp ↓] theorem ite_sle_lfsr (c : Prop) [Decidable c] (a b : State) : (if c then a else b).sle.lfsr = if c then a.sle.lfsr else b.sle.lfsr := by split <;> rfl
@[simp ↓] theorem ite_sin (c : Prop) [Decidable c] (a b : State) : (if c then a else b).sin = if c then a.sin else b.sin := by split <;> rfl
@[simp ↓] theorem ite_sout (c : Prop) [Decidable c] (a b : State) : (if c then a else b).sout = if c then a.sout else b.sout := by split <;> rfl
@[simp ↓] theorem ite_sout_w8 (c : Prop) [Decidable c] (a b : State) : (if c then a else b).sout.w8 = if c then a.sout.w8 else b.sout.w8 := by split <;> rfl
@[simp ↓] theorem ite_tmu (c : Prop) [Decidable c] (a b : State) : (if c then a else b).tmu = if c then a.tmu else b.tmu := by split <;> rfl
@[simp ↓] theorem ite_tmu_swatch (c : Prop) [Decidable c] (a b : State) : (if c then a else b).tmu.swatch = if c then a.tmu.swatch else b.tmu.swatch := by split <;> rfl
@[simp ↓] theorem ite_aaq (c : Prop) [Decidable c] (a b : State) : (if c then a else b).aaq = if c then a.aaq else b.aaq := by split <;> rfl
@[simp ↓] theorem ite_hpo (c : Prop) [Decidable c] (a b : State) : (if c then a else b).hpo = if c then a.hpo else b.hpo := by split <;> rfl
@[simp ↓] theorem ite_hpo_reply (c : Prop) [Decidable c] (a b : State) : (if c then a else b).hpo.reply = if c then a.hpo.reply else b.hpo.reply := by split <;> rfl
@[simp ↓] theorem ite_hpo_partner (c : Prop) [Decidable c] (a b : State) : (if c then a else b).hpo.partner = if c then a.hpo.partner else b.hpo.partner := by split <;> rfl
@[simp ↓] theorem ite_trk (c : Prop) [Decidable c] (a b : State) : (if c then a else b).trk = if c then a.trk else b.trk := by split <;> rfl
@[simp ↓] theorem ite_otp (c : Prop) [Decidable c] (a b : State) : (if c then a else b).otp = if c then a.otp else b.otp := by split <;> rfl
@[simp ↓] theorem ite_otp_words (c : Prop) [Decidable c] (a b : State) : (if c then a else b).otp.words = if c then a.otp.words else b.otp.words := by split <;> rfl
@[simp ↓] theorem ite_otp_wlock (c : Prop) [Decidable c] (a b : State) : (if c then a else b).otp.wlock = if c then a.otp.wlock else b.otp.wlock := by split <;> rfl
@[simp ↓] theorem ite_otp_rlock (c : Prop) [Decidable c] (a b : State) : (if c then a else b).otp.rlock = if c then a.otp.rlock else b.otp.rlock := by split <;> rfl
@[simp ↓] theorem ite_otp_job (c : Prop) [Decidable c] (a b : State) : (if c then a else b).otp.job = if c then a.otp.job else b.otp.job := by split <;> rfl
@[simp ↓] theorem ite_bist (c : Prop) [Decidable c] (a b : State) : (if c then a else b).bist = if c then a.bist else b.bist := by split <;> rfl
@[simp ↓] theorem ite_cvus (c : Prop) [Decidable c] (a b : State) : (if c then a else b).cvus = if c then a.cvus else b.cvus := by split <;> rfl
@[simp ↓] theorem ite_cpl (c : Prop) [Decidable c] (a b : State) : (if c then a else b).cpl = if c then a.cpl else b.cpl := by split <;> rfl
@[simp ↓] theorem ite_cpl_role (c : Prop) [Decidable c] (a b : State) : (if c then a else b).cpl.role = if c then a.cpl.role else b.cpl.role := by split <;> rfl
@[simp ↓] theorem ite_rcr (c : Prop) [Decidable c] (a b : State) : (if c then a else b).rcr = if c then a.rcr else b.rcr := by split <;> rfl
@[simp ↓] theorem ite_rcr_written (c : Prop) [Decidable c] (a b : State) : (if c then a else b).rcr.written = if c then a.rcr.written else b.rcr.written := by split <;> rfl
@[simp ↓] theorem ite_log (c : Prop) [Decidable c] (a b : State) : (if c then a else b).log = if c then a.log else b.log := by split <;> rfl
@[simp ↓] theorem ite_fresh (c : Prop) [Decidable c] (a b : State) : (if c then a else b).fresh = if c then a.fresh else b.fresh := by split <;> rfl
@[simp ↓] theorem ite_pending (c : Prop) [Decidable c] (a b : State) : (if c then a else b).pending = if c then a.pending else b.pending := by split <;> rfl
@[simp ↓] theorem foldl_clk {α : Type} (f : State → α → State) (l : List α) (s : State) (h : ∀ a x, (f a x).clk = a.clk) : (l.foldl f s).clk = s.clk := foldl_keep (fun z : State => z.clk) f h l s
@[simp ↓] theorem foldl_clk_now {α : Type} (f : State → α → State) (l : List α) (s : State) (h : ∀ a x, (f a x).clk.now = a.clk.now) : (l.foldl f s).clk.now = s.clk.now := foldl_keep (fun z : State => z.clk.now) f h l s
@[simp ↓] theorem foldl_clk_real {α : Type} (f : State → α → State) (l : List α) (s : State) (h : ∀ a x, (f a x).clk.real = a.clk.real) : (l.foldl f s).clk.real = s.clk.real := foldl_keep (fun z : State => z.clk.real) f h l s
@[simp ↓] theorem foldl_clk_running {α : Type} (f : State → α → State) (l : List α) (s : State) (h : ∀ a x, (f a x).clk.running = a.clk.running) : (l.foldl f s).clk.running = s.clk.running := foldl_keep (fun z : State => z.clk.running) f h l s
@[simp ↓] theorem foldl_pwr {α : Type} (f : State → α → State) (l : List α) (s : State) (h : ∀ a x, (f a x).pwr = a.pwr) : (l.foldl f s).pwr = s.pwr := foldl_keep (fun z : State => z.pwr) f h l s
@[simp ↓] theorem foldl_pwr_doms {α : Type} (f : State → α → State) (l : List α) (s : State) (h : ∀ a x, (f a x).pwr.doms = a.pwr.doms) : (l.foldl f s).pwr.doms = s.pwr.doms := foldl_keep (fun z : State => z.pwr.doms) f h l s
@[simp ↓] theorem foldl_sup {α : Type} (f : State → α → State) (l : List α) (s : State) (h : ∀ a x, (f a x).sup = a.sup) : (l.foldl f s).sup = s.sup := foldl_keep (fun z : State => z.sup) f h l s
@[simp ↓] theorem foldl_sup_mode {α : Type} (f : State → α → State) (l : List α) (s : State) (h : ∀ a x, (f a x).sup.mode = a.sup.mode) : (l.foldl f s).sup.mode = s.sup.mode := foldl_keep (fun z : State => z.sup.mode) f h l s
@[simp ↓] theorem foldl_sup_driveRemoved {α : Type} (f : State → α → State) (l : List α) (s : State) (h : ∀ a x, (f a x).sup.driveRemoved = a.sup.driveRemoved) : (l.foldl f s).sup.driveRemoved = s.sup.driveRemoved := foldl_keep (fun z : State => z.sup.driveRemoved) f h l s
@[simp ↓] theorem foldl_sup_bootCount {α : Type} (f : State → α → State) (l : List α) (s : State) (h : ∀ a x, (f a x).sup.bootCount = a.sup.bootCount) : (l.foldl f s).sup.bootCount = s.sup.bootCount := foldl_keep (fun z : State => z.sup.bootCount) f h l s
@[simp ↓] theorem foldl_sup_causes {α : Type} (f : State → α → State) (l : List α) (s : State) (h : ∀ a x, (f a x).sup.causes = a.sup.causes) : (l.foldl f s).sup.causes = s.sup.causes := foldl_keep (fun z : State => z.sup.causes) f h l s
@[simp ↓] theorem foldl_sup_firstCause {α : Type} (f : State → α → State) (l : List α) (s : State) (h : ∀ a x, (f a x).sup.firstCause = a.sup.firstCause) : (l.foldl f s).sup.firstCause = s.sup.firstCause := foldl_keep (fun z : State => z.sup.firstCause) f h l s
@[simp ↓] theorem foldl_lot {α : Type} (f : State → α → State) (l : List α) (s : State) (h : ∀ a x, (f a x).lot = a.lot) : (l.foldl f s).lot = s.lot := foldl_keep (fun z : State => z.lot) f h l s
@[simp ↓] theorem foldl_lot_active {α : Type} (f : State → α → State) (l : List α) (s : State) (h : ∀ a x, (f a x).lot.active = a.lot.active) : (l.foldl f s).lot.active = s.lot.active := foldl_keep (fun z : State => z.lot.active) f h l s
@[simp ↓] theorem foldl_lot_stored {α : Type} (f : State → α → State) (l : List α) (s : State) (h : ∀ a x, (f a x).lot.stored = a.lot.stored) : (l.foldl f s).lot.stored = s.lot.stored := foldl_keep (fun z : State => z.lot.stored) f h l s
@[simp ↓] theorem foldl_nmt {α : Type} (f : State → α → State) (l : List α) (s : State) (h : ∀ a x, (f a x).nmt = a.nmt) : (l.foldl f s).nmt = s.nmt := foldl_keep (fun z : State => z.nmt) f h l s
@[simp ↓] theorem foldl_nmt_comG {α : Type} (f : State → α → State) (l : List α) (s : State) (h : ∀ a x, (f a x).nmt.comG = a.nmt.comG) : (l.foldl f s).nmt.comG = s.nmt.comG := foldl_keep (fun z : State => z.nmt.comG) f h l s
@[simp ↓] theorem foldl_sle {α : Type} (f : State → α → State) (l : List α) (s : State) (h : ∀ a x, (f a x).sle = a.sle) : (l.foldl f s).sle = s.sle := foldl_keep (fun z : State => z.sle) f h l s
@[simp ↓] theorem foldl_sle_epoch {α : Type} (f : State → α → State) (l : List α) (s : State) (h : ∀ a x, (f a x).sle.epoch = a.sle.epoch) : (l.foldl f s).sle.epoch = s.sle.epoch := foldl_keep (fun z : State => z.sle.epoch) f h l s
@[simp ↓] theorem foldl_sle_lfsr {α : Type} (f : State → α → State) (l : List α) (s : State) (h : ∀ a x, (f a x).sle.lfsr = a.sle.lfsr) : (l.foldl f s).sle.lfsr = s.sle.lfsr := foldl_keep (fun z : State => z.sle.lfsr) f h l s
@[simp ↓] theorem foldl_sin {α : Type} (f : State → α → State) (l : List α) (s : State) (h : ∀ a x, (f a x).sin = a.sin) : (l.foldl f s).sin = s.sin := foldl_keep (fun z : State => z.sin) f h l s
@[simp ↓] theorem foldl_sout {α : Type} (f : State → α → State) (l : List α) (s : State) (h : ∀ a x, (f a x).sout = a.sout) : (l.foldl f s).sout = s.sout := foldl_keep (fun z : State => z.sout) f h l s
@[simp ↓] theorem foldl_sout_w8 {α : Type} (f : State → α → State) (l : List α) (s : State) (h : ∀ a x, (f a x).sout.w8 = a.sout.w8) : (l.foldl f s).sout.w8 = s.sout.w8 := foldl_keep (fun z : State => z.sout.w8) f h l s
@[simp ↓] theorem foldl_tmu {α : Type} (f : State → α → State) (l : List α) (s : State) (h : ∀ a x, (f a x).tmu = a.tmu) : (l.foldl f s).tmu = s.tmu := foldl_keep (fun z : State => z.tmu) f h l s
@[simp ↓] theorem foldl_tmu_swatch {α : Type} (f : State → α → State) (l : List α) (s : State) (h : ∀ a x, (f a x).tmu.swatch = a.tmu.swatch) : (l.foldl f s).tmu.swatch = s.tmu.swatch := foldl_keep (fun z : State => z.tmu.swatch) f h l s
@[simp ↓] theorem foldl_aaq {α : Type} (f : State → α → State) (l : List α) (s : State) (h : ∀ a x, (f a x).aaq = a.aaq) : (l.foldl f s).aaq = s.aaq := foldl_keep (fun z : State => z.aaq) f h l s
@[simp ↓] theorem foldl_hpo {α : Type} (f : State → α → State) (l : List α) (s : State) (h : ∀ a x, (f a x).hpo = a.hpo) : (l.foldl f s).hpo = s.hpo := foldl_keep (fun z : State => z.hpo) f h l s
@[simp ↓] theorem foldl_hpo_reply {α : Type} (f : State → α → State) (l : List α) (s : State) (h : ∀ a x, (f a x).hpo.reply = a.hpo.reply) : (l.foldl f s).hpo.reply = s.hpo.reply := foldl_keep (fun z : State => z.hpo.reply) f h l s
@[simp ↓] theorem foldl_hpo_partner {α : Type} (f : State → α → State) (l : List α) (s : State) (h : ∀ a x, (f a x).hpo.partner = a.hpo.partner) : (l.foldl f s).hpo.partner = s.hpo.partner := foldl_keep (fun z : State => z.hpo.partner) f h l s
@[simp ↓] theorem foldl_trk {α : Type} (f : State → α → State) (l : List α) (s : State) (h : ∀ a x, (f a x).trk = a.trk) : (l.foldl f s).trk = s.trk := foldl_keep (fun z : State => z.trk) f h l s
@[simp ↓] theorem foldl_otp {α : Type} (f : State → α → State) (l : List α) (s : State) (h : ∀ a x, (f a x).otp = a.otp) : (l.foldl f s).otp = s.otp := foldl_keep (fun z : State => z.otp) f h l s
@[simp ↓] theorem foldl_otp_words {α : Type} (f : State → α → State) (l : List α) (s : State) (h : ∀ a x, (f a x).otp.words = a.otp.words) : (l.foldl f s).otp.words = s.otp.words := foldl_keep (fun z : State => z.otp.words) f h l s
@[simp ↓] theorem foldl_otp_wlock {α : Type} (f : State → α → State) (l : List α) (s : State) (h : ∀ a x, (f a x).otp.wlock = a.otp.wlock) : (l.foldl f s).otp.wlock = s.otp.wlock := foldl_keep (fun z : State => z.otp.wlock) f h l s
@[simp ↓] theorem foldl_otp_rlock {α : Type} (f : State → α → State) (l : List α) (s : State) (h : ∀ a x, (f a x).otp.rlock = a.otp.rlock) : (l.foldl f s).otp.rlock = s.otp.rlock := foldl_keep (fun z : State => z.otp.rlock) f h l s
@[simp ↓] theorem foldl_otp_job {α : Type} (f : State → α → State) (l : List α) (s : State) (h : ∀ a x, (f a x).otp.job = a.otp.job) : (l.foldl f s).otp.job = s.otp.job := foldl_keep (fun z : State => z.otp.job) f h l s
@[simp ↓] theorem foldl_bist {α : Type} (f : State → α → State) (l : List α) (s : State) (h : ∀ a x, (f a x).bist = a.bist) : (l.foldl f s).bist = s.bist := foldl_keep (fun z : State => z.bist) f h l s
@[simp ↓] theorem foldl_cvus {α : Type} (f : State → α → State) (l : List α) (s : State) (h : ∀ a x, (f a x).cvus = a.cvus) : (l.foldl f s).cvus = s.cvus := foldl_keep (fun z : State => z.cvus) f h l s
@[simp ↓] theorem foldl_cpl {α : Type} (f : State → α → State) (l : List α) (s : State) (h : ∀ a x, (f a x).cpl = a.cpl) : (l.foldl f s).cpl = s.cpl := foldl_keep (fun z : State => z.cpl) f h l s
@[simp ↓] theorem foldl_cpl_role {α : Type} (f : State → α → State) (l : List α) (s : State) (h : ∀ a x, (f a x).cpl.role = a.cpl.role) : (l.foldl f s).cpl.role = s.cpl.role := foldl_keep (fun z : State => z.cpl.role) f h l s
@[simp ↓] theorem foldl_rcr {α : Type} (f : State → α → State) (l : List α) (s : State) (h : ∀ a x, (f a x).rcr = a.rcr) : (l.foldl f s).rcr = s.rcr := foldl_keep (fun z : State => z.rcr) f h l s
@[simp ↓] theorem foldl_rcr_written {α : Type} (f : State → α → State) (l : List α) (s : State) (h : ∀ a x, (f a x).rcr.written = a.rcr.written) : (l.foldl f s).rcr.written = s.rcr.written := foldl_keep (fun z : State => z.rcr.written) f h l s
@[simp ↓] theorem foldl_log {α : Type} (f : State → α → State) (l : List α) (s : State) (h : ∀ a x, (f a x).log = a.log) : (l.foldl f s).log = s.log := foldl_keep (fun z : State => z.log) f h l s
@[simp ↓] theorem foldl_fresh {α : Type} (f : State → α → State) (l : List α) (s : State) (h : ∀ a x, (f a x).fresh = a.fresh) : (l.foldl f s).fresh = s.fresh := foldl_keep (fun z : State => z.fresh) f h l s
@[simp ↓] theorem foldl_pending {α : Type} (f : State → α → State) (l : List α) (s : State) (h : ∀ a x, (f a x).pending = a.pending) : (l.foldl f s).pending = s.pending := foldl_keep (fun z : State => z.pending) f h l s
end Sys2Proof.Machine
end

