-- ==== Sys2Proof/Laws/Ops.lean ====
section
/-! SUPPORT. What the operations of Machine/Ops.lean leave alone: for each, every part of the state that it keeps. -/

namespace Sys2Proof.Machine

@[simp ↓] theorem State.tick_keeps (s : State) :
    (State.tick s).clk = s.clk ∧ (State.tick s).pwr = s.pwr ∧ (State.tick s).sup = s.sup ∧ (State.tick s).lot = s.lot ∧
    (State.tick s).nmt = s.nmt ∧ (State.tick s).sle = s.sle ∧ (State.tick s).sin = s.sin ∧ (State.tick s).sout = s.sout ∧
    (State.tick s).tmu = s.tmu ∧ (State.tick s).aaq = s.aaq ∧ (State.tick s).hpo = s.hpo ∧ (State.tick s).trk = s.trk ∧
    (State.tick s).otp = s.otp ∧ (State.tick s).bist = s.bist ∧ (State.tick s).cvus = s.cvus ∧ (State.tick s).cpl = s.cpl ∧
    (State.tick s).rcr = s.rcr ∧ (State.tick s).log = s.log ∧ (State.tick s).pending = s.pending := by
  and_intros <;> (unfold State.tick; with_reducible rfl)

@[simp ↓] theorem State.answer_keeps (s : State) (r : Reply) :
    (State.answer s r).clk = s.clk ∧ (State.answer s r).pwr = s.pwr ∧ (State.answer s r).sup = s.sup ∧ (State.answer s r).lot = s.lot ∧
    (State.answer s r).nmt = s.nmt ∧ (State.answer s r).sle = s.sle ∧ (State.answer s r).sin = s.sin ∧ (State.answer s r).sout = s.sout ∧
    (State.answer s r).tmu = s.tmu ∧ (State.answer s r).aaq = s.aaq ∧ (State.answer s r).hpo.partner = s.hpo.partner ∧
    (State.answer s r).trk = s.trk ∧ (State.answer s r).otp = s.otp ∧ (State.answer s r).bist = s.bist ∧
    (State.answer s r).cvus = s.cvus ∧ (State.answer s r).cpl = s.cpl ∧ (State.answer s r).rcr = s.rcr ∧ (State.answer s r).log = s.log ∧
    (State.answer s r).fresh = s.fresh ∧ (State.answer s r).pending = s.pending := by
  and_intros <;> (unfold State.answer; with_reducible rfl)

@[simp ↓] theorem State.done_keeps (s : State) :
    (State.done s).clk = s.clk ∧ (State.done s).pwr = s.pwr ∧ (State.done s).sup = s.sup ∧ (State.done s).lot = s.lot ∧
    (State.done s).nmt = s.nmt ∧ (State.done s).sle = s.sle ∧ (State.done s).sin = s.sin ∧ (State.done s).sout = s.sout ∧
    (State.done s).tmu = s.tmu ∧ (State.done s).aaq = s.aaq ∧ (State.done s).hpo.partner = s.hpo.partner ∧ (State.done s).trk = s.trk ∧
    (State.done s).otp = s.otp ∧ (State.done s).bist = s.bist ∧ (State.done s).cvus = s.cvus ∧ (State.done s).cpl = s.cpl ∧
    (State.done s).rcr = s.rcr ∧ (State.done s).log = s.log ∧ (State.done s).fresh = s.fresh ∧ (State.done s).pending = s.pending := by
  and_intros <;> (unfold State.done; simp)

@[simp ↓] theorem State.refuse_keeps (s : State) (code : Nat) :
    (State.refuse s code).clk = s.clk ∧ (State.refuse s code).pwr = s.pwr ∧ (State.refuse s code).sup = s.sup ∧
    (State.refuse s code).lot = s.lot ∧ (State.refuse s code).nmt = s.nmt ∧ (State.refuse s code).sle = s.sle ∧
    (State.refuse s code).sin = s.sin ∧ (State.refuse s code).sout = s.sout ∧ (State.refuse s code).tmu = s.tmu ∧
    (State.refuse s code).aaq = s.aaq ∧ (State.refuse s code).hpo.partner = s.hpo.partner ∧ (State.refuse s code).trk = s.trk ∧
    (State.refuse s code).otp = s.otp ∧ (State.refuse s code).bist = s.bist ∧ (State.refuse s code).cvus = s.cvus ∧
    (State.refuse s code).cpl = s.cpl ∧ (State.refuse s code).rcr = s.rcr ∧ (State.refuse s code).log = s.log ∧
    (State.refuse s code).fresh = s.fresh ∧ (State.refuse s code).pending = s.pending := by
  and_intros <;> (unfold State.refuse; simp)

@[simp ↓] theorem State.bumpGen_keeps (s : State) (index sub : Nat) :
    (State.bumpGen s index sub).clk = s.clk ∧ (State.bumpGen s index sub).pwr = s.pwr ∧ (State.bumpGen s index sub).sup = s.sup ∧
    (State.bumpGen s index sub).lot = s.lot ∧ (State.bumpGen s index sub).nmt = s.nmt ∧ (State.bumpGen s index sub).sle = s.sle ∧
    (State.bumpGen s index sub).sin = s.sin ∧ (State.bumpGen s index sub).sout = s.sout ∧ (State.bumpGen s index sub).tmu = s.tmu ∧
    (State.bumpGen s index sub).aaq = s.aaq ∧ (State.bumpGen s index sub).hpo.reply = s.hpo.reply ∧
    (State.bumpGen s index sub).hpo.partner = s.hpo.partner ∧ (State.bumpGen s index sub).trk = s.trk ∧
    (State.bumpGen s index sub).otp = s.otp ∧ (State.bumpGen s index sub).bist = s.bist ∧ (State.bumpGen s index sub).cvus = s.cvus ∧
    (State.bumpGen s index sub).cpl = s.cpl ∧ (State.bumpGen s index sub).rcr = s.rcr ∧ (State.bumpGen s index sub).log = s.log ∧
    (State.bumpGen s index sub).fresh = s.fresh ∧ (State.bumpGen s index sub).pending = s.pending := by
  and_intros <;> (unfold State.bumpGen; with_reducible rfl)

@[simp ↓] theorem State.mlog_keeps (s : State) (index sub severity item value : Nat) :
    (State.mlog s index sub severity item value).clk = s.clk ∧ (State.mlog s index sub severity item value).pwr = s.pwr ∧
    (State.mlog s index sub severity item value).sup = s.sup ∧ (State.mlog s index sub severity item value).lot = s.lot ∧
    (State.mlog s index sub severity item value).nmt = s.nmt ∧ (State.mlog s index sub severity item value).sle = s.sle ∧
    (State.mlog s index sub severity item value).sin = s.sin ∧ (State.mlog s index sub severity item value).sout = s.sout ∧
    (State.mlog s index sub severity item value).tmu = s.tmu ∧ (State.mlog s index sub severity item value).aaq = s.aaq ∧
    (State.mlog s index sub severity item value).hpo.reply = s.hpo.reply ∧
    (State.mlog s index sub severity item value).hpo.partner = s.hpo.partner ∧ (State.mlog s index sub severity item value).trk = s.trk ∧
    (State.mlog s index sub severity item value).otp = s.otp ∧ (State.mlog s index sub severity item value).bist = s.bist ∧
    (State.mlog s index sub severity item value).cvus = s.cvus ∧ (State.mlog s index sub severity item value).cpl = s.cpl ∧
    (State.mlog s index sub severity item value).rcr = s.rcr ∧ (State.mlog s index sub severity item value).fresh = s.fresh ∧
    (State.mlog s index sub severity item value).pending = s.pending := by
  and_intros <;> (unfold State.mlog; simp)

@[simp ↓] theorem State.measured_keeps (s : State) :
    (State.measured s).clk = s.clk ∧ (State.measured s).sup = s.sup ∧ (State.measured s).lot = s.lot ∧ (State.measured s).nmt = s.nmt ∧
    (State.measured s).sle = s.sle ∧ (State.measured s).sin = s.sin ∧ (State.measured s).sout = s.sout ∧ (State.measured s).tmu = s.tmu ∧
    (State.measured s).aaq = s.aaq ∧ (State.measured s).hpo = s.hpo ∧ (State.measured s).trk = s.trk ∧ (State.measured s).otp = s.otp ∧
    (State.measured s).bist = s.bist ∧ (State.measured s).cvus = s.cvus ∧ (State.measured s).cpl = s.cpl ∧
    (State.measured s).rcr = s.rcr ∧ (State.measured s).log = s.log ∧ (State.measured s).pending = s.pending := by
  and_intros <;> (unfold State.measured; with_reducible rfl)

@[simp ↓] theorem State.rowCorrected_keeps (s : State) (row : Nat) :
    (State.rowCorrected s row).clk = s.clk ∧ (State.rowCorrected s row).pwr = s.pwr ∧ (State.rowCorrected s row).sup = s.sup ∧
    (State.rowCorrected s row).lot = s.lot ∧ (State.rowCorrected s row).nmt = s.nmt ∧
    (State.rowCorrected s row).sle.epoch = s.sle.epoch ∧ (State.rowCorrected s row).sle.lfsr = s.sle.lfsr ∧
    (State.rowCorrected s row).sin = s.sin ∧ (State.rowCorrected s row).sout = s.sout ∧ (State.rowCorrected s row).tmu = s.tmu ∧
    (State.rowCorrected s row).aaq = s.aaq ∧ (State.rowCorrected s row).hpo.reply = s.hpo.reply ∧
    (State.rowCorrected s row).hpo.partner = s.hpo.partner ∧ (State.rowCorrected s row).trk = s.trk ∧
    (State.rowCorrected s row).otp = s.otp ∧ (State.rowCorrected s row).bist = s.bist ∧ (State.rowCorrected s row).cvus = s.cvus ∧
    (State.rowCorrected s row).cpl = s.cpl ∧ (State.rowCorrected s row).rcr = s.rcr ∧ (State.rowCorrected s row).fresh = s.fresh ∧
    (State.rowCorrected s row).pending = s.pending := by
  and_intros <;> (unfold State.rowCorrected; simp)

end Sys2Proof.Machine
end

