-- ==== Sys2Proof/Laws/SwatchOps.lean ====
section
/-! SUPPORT. What the operations of Machine/SwatchOps.lean leave alone: for each, every part of the state that it keeps. -/

namespace Sys2Proof.Machine

@[simp ↓] theorem State.swatchLatch_keeps (s : State) :
    (State.swatchLatch s).clk = s.clk ∧ (State.swatchLatch s).sup = s.sup ∧ (State.swatchLatch s).lot = s.lot ∧
    (State.swatchLatch s).nmt = s.nmt ∧ (State.swatchLatch s).sle = s.sle ∧ (State.swatchLatch s).sin = s.sin ∧
    (State.swatchLatch s).sout = s.sout ∧ (State.swatchLatch s).aaq = s.aaq ∧ (State.swatchLatch s).hpo = s.hpo ∧
    (State.swatchLatch s).trk = s.trk ∧ (State.swatchLatch s).otp = s.otp ∧ (State.swatchLatch s).bist = s.bist ∧
    (State.swatchLatch s).cvus = s.cvus ∧ (State.swatchLatch s).cpl = s.cpl ∧ (State.swatchLatch s).rcr = s.rcr ∧
    (State.swatchLatch s).log = s.log ∧ (State.swatchLatch s).pending = s.pending := by
  and_intros <;> (unfold State.swatchLatch; simp)

@[simp ↓] theorem State.swatchNow_keeps (s : State) (origin : Nat) :
    (State.swatchNow s origin).clk = s.clk ∧ (State.swatchNow s origin).sup = s.sup ∧ (State.swatchNow s origin).lot = s.lot ∧
    (State.swatchNow s origin).nmt = s.nmt ∧ (State.swatchNow s origin).sle = s.sle ∧ (State.swatchNow s origin).sin = s.sin ∧
    (State.swatchNow s origin).sout = s.sout ∧ (State.swatchNow s origin).aaq = s.aaq ∧ (State.swatchNow s origin).hpo = s.hpo ∧
    (State.swatchNow s origin).trk = s.trk ∧ (State.swatchNow s origin).otp = s.otp ∧ (State.swatchNow s origin).bist = s.bist ∧
    (State.swatchNow s origin).cvus = s.cvus ∧ (State.swatchNow s origin).cpl = s.cpl ∧ (State.swatchNow s origin).rcr = s.rcr ∧
    (State.swatchNow s origin).log = s.log ∧ (State.swatchNow s origin).pending = s.pending := by
  and_intros <;> (unfold State.swatchNow; simp)

end Sys2Proof.Machine
end

