-- ==== Sys2Proof/Laws/RecOps.lean ====
section
/-! SUPPORT. What the operations of Machine/RecOps.lean leave alone: for each, every part of the state that it keeps. -/

namespace Sys2Proof.Machine

@[simp ↓] theorem State.nandReuse_keeps (s : State) :
    (State.nandReuse s).clk = s.clk ∧ (State.nandReuse s).pwr = s.pwr ∧ (State.nandReuse s).sup = s.sup ∧
    (State.nandReuse s).lot = s.lot ∧ (State.nandReuse s).nmt = s.nmt ∧ (State.nandReuse s).sle = s.sle ∧
    (State.nandReuse s).sin = s.sin ∧ (State.nandReuse s).sout = s.sout ∧ (State.nandReuse s).tmu = s.tmu ∧
    (State.nandReuse s).aaq = s.aaq ∧ (State.nandReuse s).hpo = s.hpo ∧ (State.nandReuse s).trk = s.trk ∧
    (State.nandReuse s).otp = s.otp ∧ (State.nandReuse s).bist = s.bist ∧ (State.nandReuse s).cvus = s.cvus ∧
    (State.nandReuse s).cpl = s.cpl ∧ (State.nandReuse s).rcr.written = s.rcr.written ∧ (State.nandReuse s).log = s.log ∧
    (State.nandReuse s).fresh = s.fresh ∧ (State.nandReuse s).pending = s.pending := by
  and_intros <;> (unfold State.nandReuse; first | (with_reducible rfl) | (simp; done) | (repeat' (first | (simp; done) | split)))

@[simp ↓] theorem State.nandWrite_keeps (s : State) :
    (State.nandWrite s).clk = s.clk ∧ (State.nandWrite s).pwr = s.pwr ∧ (State.nandWrite s).sup = s.sup ∧
    (State.nandWrite s).lot = s.lot ∧ (State.nandWrite s).nmt = s.nmt ∧ (State.nandWrite s).sle = s.sle ∧
    (State.nandWrite s).sin = s.sin ∧ (State.nandWrite s).sout = s.sout ∧ (State.nandWrite s).tmu = s.tmu ∧
    (State.nandWrite s).aaq = s.aaq ∧ (State.nandWrite s).hpo = s.hpo ∧ (State.nandWrite s).trk = s.trk ∧
    (State.nandWrite s).otp = s.otp ∧ (State.nandWrite s).bist = s.bist ∧ (State.nandWrite s).cvus = s.cvus ∧
    (State.nandWrite s).cpl = s.cpl ∧ (State.nandWrite s).log = s.log ∧ (State.nandWrite s).fresh = s.fresh ∧
    (State.nandWrite s).pending = s.pending := by
  and_intros <;> (unfold State.nandWrite; simp)

@[simp ↓] theorem State.frcDrain_keeps (s : State) :
    (State.frcDrain s).clk = s.clk ∧ (State.frcDrain s).pwr = s.pwr ∧ (State.frcDrain s).sup = s.sup ∧ (State.frcDrain s).lot = s.lot ∧
    (State.frcDrain s).nmt = s.nmt ∧ (State.frcDrain s).sle = s.sle ∧ (State.frcDrain s).sin = s.sin ∧ (State.frcDrain s).sout = s.sout ∧
    (State.frcDrain s).tmu = s.tmu ∧ (State.frcDrain s).aaq = s.aaq ∧ (State.frcDrain s).hpo = s.hpo ∧ (State.frcDrain s).trk = s.trk ∧
    (State.frcDrain s).otp = s.otp ∧ (State.frcDrain s).bist = s.bist ∧ (State.frcDrain s).cvus = s.cvus ∧
    (State.frcDrain s).cpl = s.cpl ∧ (State.frcDrain s).log = s.log ∧ (State.frcDrain s).fresh = s.fresh ∧
    (State.frcDrain s).pending = s.pending := by
  and_intros <;> (unfold State.frcDrain; simp)

@[simp ↓] theorem State.frcStore_keeps (s : State) (stamp : Nat) (bytes : List Byte) :
    (State.frcStore s stamp bytes).clk = s.clk ∧ (State.frcStore s stamp bytes).pwr = s.pwr ∧
    (State.frcStore s stamp bytes).sup = s.sup ∧ (State.frcStore s stamp bytes).lot = s.lot ∧
    (State.frcStore s stamp bytes).nmt = s.nmt ∧ (State.frcStore s stamp bytes).sle = s.sle ∧
    (State.frcStore s stamp bytes).sin = s.sin ∧ (State.frcStore s stamp bytes).sout = s.sout ∧
    (State.frcStore s stamp bytes).tmu = s.tmu ∧ (State.frcStore s stamp bytes).aaq = s.aaq ∧
    (State.frcStore s stamp bytes).hpo = s.hpo ∧ (State.frcStore s stamp bytes).trk = s.trk ∧
    (State.frcStore s stamp bytes).otp = s.otp ∧ (State.frcStore s stamp bytes).bist = s.bist ∧
    (State.frcStore s stamp bytes).cvus = s.cvus ∧ (State.frcStore s stamp bytes).cpl = s.cpl ∧
    (State.frcStore s stamp bytes).log = s.log ∧ (State.frcStore s stamp bytes).fresh = s.fresh ∧
    (State.frcStore s stamp bytes).pending = s.pending := by
  and_intros <;> (unfold State.frcStore; simp)

@[simp ↓] theorem State.frcCheckpoint_keeps (s : State) :
    (State.frcCheckpoint s).clk = s.clk ∧ (State.frcCheckpoint s).pwr = s.pwr ∧ (State.frcCheckpoint s).sup = s.sup ∧
    (State.frcCheckpoint s).lot = s.lot ∧ (State.frcCheckpoint s).nmt = s.nmt ∧ (State.frcCheckpoint s).sle = s.sle ∧
    (State.frcCheckpoint s).sin = s.sin ∧ (State.frcCheckpoint s).sout = s.sout ∧ (State.frcCheckpoint s).tmu = s.tmu ∧
    (State.frcCheckpoint s).aaq = s.aaq ∧ (State.frcCheckpoint s).hpo = s.hpo ∧ (State.frcCheckpoint s).trk = s.trk ∧
    (State.frcCheckpoint s).otp = s.otp ∧ (State.frcCheckpoint s).bist = s.bist ∧ (State.frcCheckpoint s).cvus = s.cvus ∧
    (State.frcCheckpoint s).cpl = s.cpl ∧ (State.frcCheckpoint s).log = s.log ∧ (State.frcCheckpoint s).fresh = s.fresh ∧
    (State.frcCheckpoint s).pending = s.pending := by
  and_intros <;> (unfold State.frcCheckpoint; (try dsimp only); first | (with_reducible rfl) | (simp; done) | (repeat' (first | (simp; done) | split)))

@[simp ↓] theorem State.frcLose_keeps (s : State) (stamp n : Nat) :
    (State.frcLose s stamp n).clk = s.clk ∧ (State.frcLose s stamp n).pwr = s.pwr ∧ (State.frcLose s stamp n).sup = s.sup ∧
    (State.frcLose s stamp n).lot = s.lot ∧ (State.frcLose s stamp n).nmt = s.nmt ∧ (State.frcLose s stamp n).sle = s.sle ∧
    (State.frcLose s stamp n).sin = s.sin ∧ (State.frcLose s stamp n).sout = s.sout ∧ (State.frcLose s stamp n).tmu = s.tmu ∧
    (State.frcLose s stamp n).aaq = s.aaq ∧ (State.frcLose s stamp n).hpo = s.hpo ∧ (State.frcLose s stamp n).trk = s.trk ∧
    (State.frcLose s stamp n).otp = s.otp ∧ (State.frcLose s stamp n).bist = s.bist ∧ (State.frcLose s stamp n).cvus = s.cvus ∧
    (State.frcLose s stamp n).cpl = s.cpl ∧ (State.frcLose s stamp n).log = s.log ∧ (State.frcLose s stamp n).fresh = s.fresh ∧
    (State.frcLose s stamp n).pending = s.pending := by
  and_intros <;> (unfold State.frcLose; first | (with_reducible rfl) | (simp; done) | (repeat' (first | (simp; done) | split)))

@[simp ↓] theorem State.frcMark_keeps (s : State) :
    (State.frcMark s).clk = s.clk ∧ (State.frcMark s).pwr = s.pwr ∧ (State.frcMark s).sup = s.sup ∧ (State.frcMark s).lot = s.lot ∧
    (State.frcMark s).nmt = s.nmt ∧ (State.frcMark s).sle = s.sle ∧ (State.frcMark s).sin = s.sin ∧ (State.frcMark s).sout = s.sout ∧
    (State.frcMark s).tmu = s.tmu ∧ (State.frcMark s).aaq = s.aaq ∧ (State.frcMark s).hpo = s.hpo ∧ (State.frcMark s).trk = s.trk ∧
    (State.frcMark s).otp = s.otp ∧ (State.frcMark s).bist = s.bist ∧ (State.frcMark s).cvus = s.cvus ∧ (State.frcMark s).cpl = s.cpl ∧
    (State.frcMark s).log = s.log ∧ (State.frcMark s).fresh = s.fresh ∧ (State.frcMark s).pending = s.pending := by
  and_intros <;> (unfold State.frcMark; simp)

@[simp ↓] theorem State.frcPut_keeps (s : State) (stamp : Nat) (bytes : List Byte) :
    (State.frcPut s stamp bytes).clk = s.clk ∧ (State.frcPut s stamp bytes).pwr = s.pwr ∧ (State.frcPut s stamp bytes).sup = s.sup ∧
    (State.frcPut s stamp bytes).lot = s.lot ∧ (State.frcPut s stamp bytes).nmt = s.nmt ∧ (State.frcPut s stamp bytes).sle = s.sle ∧
    (State.frcPut s stamp bytes).sin = s.sin ∧ (State.frcPut s stamp bytes).sout = s.sout ∧ (State.frcPut s stamp bytes).tmu = s.tmu ∧
    (State.frcPut s stamp bytes).aaq = s.aaq ∧ (State.frcPut s stamp bytes).hpo = s.hpo ∧ (State.frcPut s stamp bytes).trk = s.trk ∧
    (State.frcPut s stamp bytes).otp = s.otp ∧ (State.frcPut s stamp bytes).bist = s.bist ∧ (State.frcPut s stamp bytes).cvus = s.cvus ∧
    (State.frcPut s stamp bytes).cpl = s.cpl ∧ (State.frcPut s stamp bytes).log = s.log ∧ (State.frcPut s stamp bytes).fresh = s.fresh ∧
    (State.frcPut s stamp bytes).pending = s.pending := by
  and_intros <;> (unfold State.frcPut; simp)

@[simp ↓] theorem State.frcEvent_keeps (s : State) (code arg : Nat) :
    (State.frcEvent s code arg).clk = s.clk ∧ (State.frcEvent s code arg).pwr = s.pwr ∧ (State.frcEvent s code arg).sup = s.sup ∧
    (State.frcEvent s code arg).lot = s.lot ∧ (State.frcEvent s code arg).nmt = s.nmt ∧ (State.frcEvent s code arg).sle = s.sle ∧
    (State.frcEvent s code arg).sin = s.sin ∧ (State.frcEvent s code arg).sout = s.sout ∧ (State.frcEvent s code arg).tmu = s.tmu ∧
    (State.frcEvent s code arg).aaq = s.aaq ∧ (State.frcEvent s code arg).hpo = s.hpo ∧ (State.frcEvent s code arg).trk = s.trk ∧
    (State.frcEvent s code arg).otp = s.otp ∧ (State.frcEvent s code arg).bist = s.bist ∧ (State.frcEvent s code arg).cvus = s.cvus ∧
    (State.frcEvent s code arg).cpl = s.cpl ∧ (State.frcEvent s code arg).log = s.log ∧ (State.frcEvent s code arg).fresh = s.fresh ∧
    (State.frcEvent s code arg).pending = s.pending := by
  and_intros <;> (unfold State.frcEvent; simp)

@[simp ↓] theorem State.setEpisode_keeps (s : State) (e : Nat) (v : Episode) :
    (State.setEpisode s e v).clk = s.clk ∧ (State.setEpisode s e v).pwr = s.pwr ∧ (State.setEpisode s e v).sup = s.sup ∧
    (State.setEpisode s e v).lot = s.lot ∧ (State.setEpisode s e v).nmt = s.nmt ∧ (State.setEpisode s e v).sle = s.sle ∧
    (State.setEpisode s e v).sin = s.sin ∧ (State.setEpisode s e v).sout = s.sout ∧ (State.setEpisode s e v).tmu = s.tmu ∧
    (State.setEpisode s e v).aaq = s.aaq ∧ (State.setEpisode s e v).hpo.reply = s.hpo.reply ∧
    (State.setEpisode s e v).hpo.partner = s.hpo.partner ∧ (State.setEpisode s e v).trk = s.trk ∧ (State.setEpisode s e v).otp = s.otp ∧
    (State.setEpisode s e v).bist = s.bist ∧ (State.setEpisode s e v).cvus = s.cvus ∧ (State.setEpisode s e v).cpl = s.cpl ∧
    (State.setEpisode s e v).rcr.written = s.rcr.written ∧ (State.setEpisode s e v).log = s.log ∧
    (State.setEpisode s e v).fresh = s.fresh ∧ (State.setEpisode s e v).pending = s.pending := by
  and_intros <;> (unfold State.setEpisode; simp)

@[simp ↓] theorem State.episodeEnd_keeps (s : State) (e : Nat) :
    (State.episodeEnd s e).clk = s.clk ∧ (State.episodeEnd s e).pwr = s.pwr ∧ (State.episodeEnd s e).sup = s.sup ∧
    (State.episodeEnd s e).lot = s.lot ∧ (State.episodeEnd s e).nmt = s.nmt ∧ (State.episodeEnd s e).sle = s.sle ∧
    (State.episodeEnd s e).sin = s.sin ∧ (State.episodeEnd s e).sout = s.sout ∧ (State.episodeEnd s e).tmu = s.tmu ∧
    (State.episodeEnd s e).aaq = s.aaq ∧ (State.episodeEnd s e).hpo.reply = s.hpo.reply ∧
    (State.episodeEnd s e).hpo.partner = s.hpo.partner ∧ (State.episodeEnd s e).trk = s.trk ∧ (State.episodeEnd s e).otp = s.otp ∧
    (State.episodeEnd s e).bist = s.bist ∧ (State.episodeEnd s e).cvus = s.cvus ∧ (State.episodeEnd s e).cpl = s.cpl ∧
    (State.episodeEnd s e).rcr.written = s.rcr.written ∧ (State.episodeEnd s e).log = s.log ∧ (State.episodeEnd s e).fresh = s.fresh ∧
    (State.episodeEnd s e).pending = s.pending := by
  and_intros <;> (unfold State.episodeEnd; simp)

end Sys2Proof.Machine
end

