-- ==== Sys2Proof/Laws/Starts.lean ====
section
/-! SUPPORT. What the operations of Machine/Starts.lean leave alone: for each, every part of the state that it keeps. -/

namespace Sys2Proof.Machine

@[simp ↓] theorem State.setSt_keeps (s : State) (a : Nat) (v : Station) :
    (State.setSt s a v).clk = s.clk ∧ (State.setSt s a v).pwr = s.pwr ∧ (State.setSt s a v).sup = s.sup ∧
    (State.setSt s a v).lot = s.lot ∧ (State.setSt s a v).nmt = s.nmt ∧ (State.setSt s a v).sle = s.sle ∧
    (State.setSt s a v).sin = s.sin ∧ (State.setSt s a v).sout = s.sout ∧ (State.setSt s a v).tmu = s.tmu ∧
    (State.setSt s a v).aaq = s.aaq ∧ (State.setSt s a v).hpo = s.hpo ∧ (State.setSt s a v).otp = s.otp ∧
    (State.setSt s a v).bist = s.bist ∧ (State.setSt s a v).cvus = s.cvus ∧ (State.setSt s a v).cpl = s.cpl ∧
    (State.setSt s a v).log = s.log ∧ (State.setSt s a v).fresh = s.fresh ∧ (State.setSt s a v).pending = s.pending := by
  and_intros <;> (unfold State.setSt; simp)

@[simp ↓] theorem State.sinFresh_keeps (s : State) (runs : Nat → Bool) (wake : Bool) :
    (State.sinFresh s runs wake).clk = s.clk ∧ (State.sinFresh s runs wake).pwr = s.pwr ∧ (State.sinFresh s runs wake).sup = s.sup ∧
    (State.sinFresh s runs wake).lot = s.lot ∧ (State.sinFresh s runs wake).nmt = s.nmt ∧ (State.sinFresh s runs wake).sle = s.sle ∧
    (State.sinFresh s runs wake).sout = s.sout ∧ (State.sinFresh s runs wake).tmu = s.tmu ∧ (State.sinFresh s runs wake).aaq = s.aaq ∧
    (State.sinFresh s runs wake).hpo = s.hpo ∧ (State.sinFresh s runs wake).trk = s.trk ∧ (State.sinFresh s runs wake).otp = s.otp ∧
    (State.sinFresh s runs wake).bist = s.bist ∧ (State.sinFresh s runs wake).cvus = s.cvus ∧ (State.sinFresh s runs wake).cpl = s.cpl ∧
    (State.sinFresh s runs wake).rcr = s.rcr ∧ (State.sinFresh s runs wake).log = s.log ∧ (State.sinFresh s runs wake).fresh = s.fresh ∧
    (State.sinFresh s runs wake).pending = s.pending := by
  and_intros <;> (unfold State.sinFresh; with_reducible rfl)

@[simp ↓] theorem State.soutFresh_keeps (s : State) (unused : Nat → Bool) :
    (State.soutFresh s unused).clk = s.clk ∧ (State.soutFresh s unused).pwr = s.pwr ∧ (State.soutFresh s unused).sup = s.sup ∧
    (State.soutFresh s unused).lot = s.lot ∧ (State.soutFresh s unused).nmt = s.nmt ∧ (State.soutFresh s unused).sle = s.sle ∧
    (State.soutFresh s unused).sin = s.sin ∧ (State.soutFresh s unused).tmu = s.tmu ∧ (State.soutFresh s unused).aaq = s.aaq ∧
    (State.soutFresh s unused).hpo = s.hpo ∧ (State.soutFresh s unused).trk = s.trk ∧ (State.soutFresh s unused).otp = s.otp ∧
    (State.soutFresh s unused).bist = s.bist ∧ (State.soutFresh s unused).cvus = s.cvus ∧ (State.soutFresh s unused).cpl = s.cpl ∧
    (State.soutFresh s unused).rcr = s.rcr ∧ (State.soutFresh s unused).log = s.log ∧ (State.soutFresh s unused).fresh = s.fresh ∧
    (State.soutFresh s unused).pending = s.pending := by
  and_intros <;> (unfold State.soutFresh; with_reducible rfl)

@[simp ↓] theorem State.speedsStart_keeps (s : State) (wake : Bool) :
    (State.speedsStart s wake).clk = s.clk ∧ (State.speedsStart s wake).pwr = s.pwr ∧ (State.speedsStart s wake).sup = s.sup ∧
    (State.speedsStart s wake).lot = s.lot ∧ (State.speedsStart s wake).nmt = s.nmt ∧ (State.speedsStart s wake).sle = s.sle ∧
    (State.speedsStart s wake).sin = s.sin ∧ (State.speedsStart s wake).sout = s.sout ∧
    (State.speedsStart s wake).tmu.swatch = s.tmu.swatch ∧ (State.speedsStart s wake).aaq = s.aaq ∧
    (State.speedsStart s wake).hpo = s.hpo ∧ (State.speedsStart s wake).trk = s.trk ∧ (State.speedsStart s wake).otp = s.otp ∧
    (State.speedsStart s wake).bist = s.bist ∧ (State.speedsStart s wake).cvus = s.cvus ∧ (State.speedsStart s wake).cpl = s.cpl ∧
    (State.speedsStart s wake).rcr = s.rcr ∧ (State.speedsStart s wake).log = s.log ∧ (State.speedsStart s wake).fresh = s.fresh ∧
    (State.speedsStart s wake).pending = s.pending := by
  and_intros <;> (unfold State.speedsStart; with_reducible rfl)

@[simp ↓] theorem State.aaqStart_keeps (s : State) (wake : Bool) :
    (State.aaqStart s wake).clk = s.clk ∧ (State.aaqStart s wake).pwr = s.pwr ∧ (State.aaqStart s wake).sup = s.sup ∧
    (State.aaqStart s wake).lot = s.lot ∧ (State.aaqStart s wake).nmt = s.nmt ∧ (State.aaqStart s wake).sle = s.sle ∧
    (State.aaqStart s wake).sin = s.sin ∧ (State.aaqStart s wake).sout = s.sout ∧ (State.aaqStart s wake).tmu = s.tmu ∧
    (State.aaqStart s wake).hpo = s.hpo ∧ (State.aaqStart s wake).trk = s.trk ∧ (State.aaqStart s wake).otp = s.otp ∧
    (State.aaqStart s wake).bist = s.bist ∧ (State.aaqStart s wake).cvus = s.cvus ∧ (State.aaqStart s wake).cpl = s.cpl ∧
    (State.aaqStart s wake).rcr = s.rcr ∧ (State.aaqStart s wake).log = s.log ∧ (State.aaqStart s wake).fresh = s.fresh ∧
    (State.aaqStart s wake).pending = s.pending := by
  and_intros <;> (unfold State.aaqStart; with_reducible rfl)

@[simp ↓] theorem State.stationsStart_keeps (s : State) (fresh : Bool) :
    (State.stationsStart s fresh).clk = s.clk ∧ (State.stationsStart s fresh).pwr = s.pwr ∧ (State.stationsStart s fresh).sup = s.sup ∧
    (State.stationsStart s fresh).lot = s.lot ∧ (State.stationsStart s fresh).nmt = s.nmt ∧ (State.stationsStart s fresh).sle = s.sle ∧
    (State.stationsStart s fresh).sin = s.sin ∧ (State.stationsStart s fresh).sout = s.sout ∧ (State.stationsStart s fresh).tmu = s.tmu ∧
    (State.stationsStart s fresh).aaq = s.aaq ∧ (State.stationsStart s fresh).hpo = s.hpo ∧ (State.stationsStart s fresh).otp = s.otp ∧
    (State.stationsStart s fresh).bist = s.bist ∧ (State.stationsStart s fresh).cvus = s.cvus ∧
    (State.stationsStart s fresh).cpl = s.cpl ∧ (State.stationsStart s fresh).log = s.log ∧
    (State.stationsStart s fresh).fresh = s.fresh ∧ (State.stationsStart s fresh).pending = s.pending := by
  and_intros <;> (unfold State.stationsStart; simp)

@[simp ↓] theorem State.freshEngine_keeps (s : State) :
    (State.freshEngine s).clk = s.clk ∧ (State.freshEngine s).pwr = s.pwr ∧ (State.freshEngine s).sup = s.sup ∧
    (State.freshEngine s).lot = s.lot ∧ (State.freshEngine s).sle.epoch = s.sle.epoch ∧ (State.freshEngine s).sle.lfsr = s.sle.lfsr ∧
    (State.freshEngine s).sin = s.sin ∧ (State.freshEngine s).sout = s.sout ∧ (State.freshEngine s).tmu = s.tmu ∧
    (State.freshEngine s).aaq = s.aaq ∧ (State.freshEngine s).hpo.reply = s.hpo.reply ∧
    (State.freshEngine s).hpo.partner = s.hpo.partner ∧ (State.freshEngine s).trk = s.trk ∧ (State.freshEngine s).otp = s.otp ∧
    (State.freshEngine s).bist = s.bist ∧ (State.freshEngine s).cvus = s.cvus ∧ (State.freshEngine s).cpl.role = s.cpl.role ∧
    (State.freshEngine s).rcr.written = s.rcr.written ∧ (State.freshEngine s).log = s.log ∧ (State.freshEngine s).fresh = s.fresh ∧
    (State.freshEngine s).pending = s.pending := by
  and_intros <;> (unfold State.freshEngine; with_reducible rfl)

@[simp ↓] theorem State.lotEnds_keeps (s : State) :
    (State.lotEnds s).clk.now = s.clk.now ∧ (State.lotEnds s).clk.real = s.clk.real ∧ (State.lotEnds s).pwr = s.pwr ∧
    (State.lotEnds s).sup = s.sup ∧ (State.lotEnds s).lot.stored = s.lot.stored ∧ (State.lotEnds s).sle.lfsr = s.sle.lfsr ∧
    (State.lotEnds s).tmu.swatch = s.tmu.swatch ∧ (State.lotEnds s).hpo.reply = s.hpo.reply ∧
    (State.lotEnds s).hpo.partner = s.hpo.partner ∧ (State.lotEnds s).otp = s.otp ∧ (State.lotEnds s).bist = s.bist ∧
    (State.lotEnds s).cvus = s.cvus ∧ (State.lotEnds s).cpl.role = s.cpl.role ∧ (State.lotEnds s).log = s.log ∧
    (State.lotEnds s).fresh = s.fresh ∧ (State.lotEnds s).pending = s.pending := by
  and_intros <;> (unfold State.lotEnds; simp)

end Sys2Proof.Machine
end

