-- ==== Sys2Proof/Laws/HaltOps.lean ====
section
/-! SUPPORT. What the operations of Machine/HaltOps.lean leave alone: for each, every part of the state that it keeps. -/

namespace Sys2Proof.Machine

@[simp ↓] theorem State.setRole_keeps (s : State) (r : Role) :
    (State.setRole s r).clk = s.clk ∧ (State.setRole s r).pwr = s.pwr ∧ (State.setRole s r).sup = s.sup ∧
    (State.setRole s r).lot = s.lot ∧ (State.setRole s r).nmt = s.nmt ∧ (State.setRole s r).sle = s.sle ∧
    (State.setRole s r).sin = s.sin ∧ (State.setRole s r).sout = s.sout ∧ (State.setRole s r).tmu = s.tmu ∧
    (State.setRole s r).aaq = s.aaq ∧ (State.setRole s r).hpo = s.hpo ∧ (State.setRole s r).trk = s.trk ∧
    (State.setRole s r).otp = s.otp ∧ (State.setRole s r).bist = s.bist ∧ (State.setRole s r).cvus = s.cvus ∧
    (State.setRole s r).log = s.log ∧ (State.setRole s r).fresh = s.fresh ∧ (State.setRole s r).pending = s.pending := by
  and_intros <;> (unfold State.setRole; simp)

@[simp ↓] theorem State.releaseOwn_keeps (s : State) :
    (State.releaseOwn s).clk = s.clk ∧ (State.releaseOwn s).pwr = s.pwr ∧ (State.releaseOwn s).sup = s.sup ∧
    (State.releaseOwn s).lot = s.lot ∧ (State.releaseOwn s).nmt = s.nmt ∧ (State.releaseOwn s).sle = s.sle ∧
    (State.releaseOwn s).sin = s.sin ∧ (State.releaseOwn s).sout = s.sout ∧ (State.releaseOwn s).tmu = s.tmu ∧
    (State.releaseOwn s).aaq = s.aaq ∧ (State.releaseOwn s).hpo = s.hpo ∧ (State.releaseOwn s).trk = s.trk ∧
    (State.releaseOwn s).otp = s.otp ∧ (State.releaseOwn s).bist = s.bist ∧ (State.releaseOwn s).cvus = s.cvus ∧
    (State.releaseOwn s).cpl.role = s.cpl.role ∧ (State.releaseOwn s).rcr = s.rcr ∧ (State.releaseOwn s).log = s.log ∧
    (State.releaseOwn s).fresh = s.fresh ∧ (State.releaseOwn s).pending = s.pending := by
  and_intros <;> (unfold State.releaseOwn; simp)

@[simp ↓] theorem State.setMode_keeps (s : State) (m : Mode) :
    (State.setMode s m).clk = s.clk ∧ (State.setMode s m).pwr.doms = s.pwr.doms ∧
    (State.setMode s m).sup.driveRemoved = s.sup.driveRemoved ∧ (State.setMode s m).sup.bootCount = s.sup.bootCount ∧
    (State.setMode s m).sup.causes = s.sup.causes ∧ (State.setMode s m).sup.firstCause = s.sup.firstCause ∧
    (State.setMode s m).lot = s.lot ∧ (State.setMode s m).nmt = s.nmt ∧ (State.setMode s m).sle = s.sle ∧
    (State.setMode s m).sin = s.sin ∧ (State.setMode s m).sout = s.sout ∧ (State.setMode s m).tmu = s.tmu ∧
    (State.setMode s m).aaq = s.aaq ∧ (State.setMode s m).hpo = s.hpo ∧ (State.setMode s m).otp = s.otp ∧
    (State.setMode s m).bist = s.bist ∧ (State.setMode s m).cvus = s.cvus ∧ (State.setMode s m).cpl = s.cpl ∧
    (State.setMode s m).log = s.log ∧ (State.setMode s m).fresh = s.fresh ∧ (State.setMode s m).pending = s.pending := by
  and_intros <;> (unfold State.setMode; simp)

@[simp ↓] theorem State.closeRec_keeps (s : State) (sel : Outst → Bool) (r : Reply) :
    (State.closeRec s sel r).clk = s.clk ∧ (State.closeRec s sel r).pwr = s.pwr ∧ (State.closeRec s sel r).sup = s.sup ∧
    (State.closeRec s sel r).lot = s.lot ∧ (State.closeRec s sel r).nmt = s.nmt ∧ (State.closeRec s sel r).sle = s.sle ∧
    (State.closeRec s sel r).sin = s.sin ∧ (State.closeRec s sel r).sout = s.sout ∧ (State.closeRec s sel r).tmu = s.tmu ∧
    (State.closeRec s sel r).aaq = s.aaq ∧ (State.closeRec s sel r).hpo.partner = s.hpo.partner ∧ (State.closeRec s sel r).trk = s.trk ∧
    (State.closeRec s sel r).otp = s.otp ∧ (State.closeRec s sel r).bist = s.bist ∧ (State.closeRec s sel r).cvus = s.cvus ∧
    (State.closeRec s sel r).cpl = s.cpl ∧ (State.closeRec s sel r).rcr = s.rcr ∧ (State.closeRec s sel r).log = s.log ∧
    (State.closeRec s sel r).fresh = s.fresh ∧ (State.closeRec s sel r).pending = s.pending := by
  and_intros <;> (unfold State.closeRec; first | (with_reducible rfl) | (simp; done) | (repeat' (first | (simp; done) | split)))

@[simp ↓] theorem State.answerTag_keeps (s : State) (tag : Option Byte) (r : Reply) :
    (State.answerTag s tag r).clk = s.clk ∧ (State.answerTag s tag r).pwr = s.pwr ∧ (State.answerTag s tag r).sup = s.sup ∧
    (State.answerTag s tag r).lot = s.lot ∧ (State.answerTag s tag r).nmt = s.nmt ∧ (State.answerTag s tag r).sle = s.sle ∧
    (State.answerTag s tag r).sin = s.sin ∧ (State.answerTag s tag r).sout = s.sout ∧ (State.answerTag s tag r).tmu = s.tmu ∧
    (State.answerTag s tag r).aaq = s.aaq ∧ (State.answerTag s tag r).hpo.partner = s.hpo.partner ∧
    (State.answerTag s tag r).trk = s.trk ∧ (State.answerTag s tag r).otp = s.otp ∧ (State.answerTag s tag r).bist = s.bist ∧
    (State.answerTag s tag r).cvus = s.cvus ∧ (State.answerTag s tag r).cpl = s.cpl ∧ (State.answerTag s tag r).rcr = s.rcr ∧
    (State.answerTag s tag r).log = s.log ∧ (State.answerTag s tag r).fresh = s.fresh ∧ (State.answerTag s tag r).pending = s.pending := by
  and_intros <;> (unfold State.answerTag; first | (with_reducible rfl) | (simp; done) | (repeat' (first | (simp; done) | split)))

@[simp ↓] theorem State.holdGroup_keeps (s : State) (g : Nat) :
    (State.holdGroup s g).clk = s.clk ∧ (State.holdGroup s g).pwr = s.pwr ∧ (State.holdGroup s g).sup = s.sup ∧
    (State.holdGroup s g).lot = s.lot ∧ (State.holdGroup s g).nmt = s.nmt ∧ (State.holdGroup s g).sle = s.sle ∧
    (State.holdGroup s g).sin = s.sin ∧ (State.holdGroup s g).sout.w8 = s.sout.w8 ∧ (State.holdGroup s g).tmu = s.tmu ∧
    (State.holdGroup s g).aaq = s.aaq ∧ (State.holdGroup s g).hpo = s.hpo ∧ (State.holdGroup s g).trk = s.trk ∧
    (State.holdGroup s g).otp = s.otp ∧ (State.holdGroup s g).bist = s.bist ∧ (State.holdGroup s g).cvus = s.cvus ∧
    (State.holdGroup s g).cpl = s.cpl ∧ (State.holdGroup s g).rcr = s.rcr ∧ (State.holdGroup s g).log = s.log ∧
    (State.holdGroup s g).fresh = s.fresh ∧ (State.holdGroup s g).pending = s.pending := by
  and_intros <;> (unfold State.holdGroup; simp)

@[simp ↓] theorem State.outsOff_keeps (s : State) :
    (State.outsOff s).clk = s.clk ∧ (State.outsOff s).pwr = s.pwr ∧ (State.outsOff s).sup = s.sup ∧ (State.outsOff s).lot = s.lot ∧
    (State.outsOff s).nmt = s.nmt ∧ (State.outsOff s).sle = s.sle ∧ (State.outsOff s).sin = s.sin ∧
    (State.outsOff s).sout.w8 = s.sout.w8 ∧ (State.outsOff s).tmu = s.tmu ∧ (State.outsOff s).aaq = s.aaq ∧
    (State.outsOff s).hpo = s.hpo ∧ (State.outsOff s).trk = s.trk ∧ (State.outsOff s).otp = s.otp ∧ (State.outsOff s).bist = s.bist ∧
    (State.outsOff s).cvus = s.cvus ∧ (State.outsOff s).cpl = s.cpl ∧ (State.outsOff s).rcr = s.rcr ∧ (State.outsOff s).log = s.log ∧
    (State.outsOff s).fresh = s.fresh ∧ (State.outsOff s).pending = s.pending := by
  and_intros <;> (unfold State.outsOff; with_reducible rfl)

@[simp ↓] theorem State.holdOpen_keeps (s : State) :
    (State.holdOpen s).clk = s.clk ∧ (State.holdOpen s).pwr = s.pwr ∧ (State.holdOpen s).sup = s.sup ∧ (State.holdOpen s).lot = s.lot ∧
    (State.holdOpen s).nmt = s.nmt ∧ (State.holdOpen s).sle = s.sle ∧ (State.holdOpen s).sin = s.sin ∧
    (State.holdOpen s).sout.w8 = s.sout.w8 ∧ (State.holdOpen s).tmu = s.tmu ∧ (State.holdOpen s).aaq = s.aaq ∧
    (State.holdOpen s).hpo = s.hpo ∧ (State.holdOpen s).trk = s.trk ∧ (State.holdOpen s).otp = s.otp ∧ (State.holdOpen s).bist = s.bist ∧
    (State.holdOpen s).cvus = s.cvus ∧ (State.holdOpen s).cpl = s.cpl ∧ (State.holdOpen s).rcr = s.rcr ∧ (State.holdOpen s).log = s.log ∧
    (State.holdOpen s).fresh = s.fresh ∧ (State.holdOpen s).pending = s.pending := by
  and_intros <;> (unfold State.holdOpen; simp)

@[simp ↓] theorem State.dropAttempts_keeps (s : State) :
    (State.dropAttempts s).clk = s.clk ∧ (State.dropAttempts s).pwr = s.pwr ∧ (State.dropAttempts s).sup = s.sup ∧
    (State.dropAttempts s).lot = s.lot ∧ (State.dropAttempts s).nmt = s.nmt ∧ (State.dropAttempts s).sle.epoch = s.sle.epoch ∧
    (State.dropAttempts s).sle.lfsr = s.sle.lfsr ∧ (State.dropAttempts s).sin = s.sin ∧ (State.dropAttempts s).sout = s.sout ∧
    (State.dropAttempts s).tmu = s.tmu ∧ (State.dropAttempts s).aaq = s.aaq ∧ (State.dropAttempts s).hpo = s.hpo ∧
    (State.dropAttempts s).trk = s.trk ∧ (State.dropAttempts s).otp = s.otp ∧ (State.dropAttempts s).bist = s.bist ∧
    (State.dropAttempts s).cvus = s.cvus ∧ (State.dropAttempts s).cpl = s.cpl ∧ (State.dropAttempts s).rcr = s.rcr ∧
    (State.dropAttempts s).log = s.log ∧ (State.dropAttempts s).fresh = s.fresh ∧ (State.dropAttempts s).pending = s.pending := by
  and_intros <;> (unfold State.dropAttempts; with_reducible rfl)

@[simp ↓] theorem State.refuseWaiting_keeps (s : State) :
    (State.refuseWaiting s).clk = s.clk ∧ (State.refuseWaiting s).pwr = s.pwr ∧ (State.refuseWaiting s).sup.mode = s.sup.mode ∧
    (State.refuseWaiting s).sup.driveRemoved = s.sup.driveRemoved ∧ (State.refuseWaiting s).sup.bootCount = s.sup.bootCount ∧
    (State.refuseWaiting s).sup.causes = s.sup.causes ∧ (State.refuseWaiting s).sup.firstCause = s.sup.firstCause ∧
    (State.refuseWaiting s).lot = s.lot ∧ (State.refuseWaiting s).nmt = s.nmt ∧ (State.refuseWaiting s).sle = s.sle ∧
    (State.refuseWaiting s).sin = s.sin ∧ (State.refuseWaiting s).sout = s.sout ∧ (State.refuseWaiting s).tmu = s.tmu ∧
    (State.refuseWaiting s).aaq = s.aaq ∧ (State.refuseWaiting s).hpo.partner = s.hpo.partner ∧ (State.refuseWaiting s).trk = s.trk ∧
    (State.refuseWaiting s).otp = s.otp ∧ (State.refuseWaiting s).bist = s.bist ∧ (State.refuseWaiting s).cvus = s.cvus ∧
    (State.refuseWaiting s).cpl = s.cpl ∧ (State.refuseWaiting s).rcr = s.rcr ∧ (State.refuseWaiting s).log = s.log ∧
    (State.refuseWaiting s).fresh = s.fresh ∧ (State.refuseWaiting s).pending = s.pending := by
  and_intros <;> (unfold State.refuseWaiting; first | (with_reducible rfl) | (simp; done) | (repeat' (first | (simp; done) | split)))

@[simp ↓] theorem State.addCause_keeps (s : State) (c : Nat) :
    (State.addCause s c).clk = s.clk ∧ (State.addCause s c).pwr = s.pwr ∧ (State.addCause s c).sup.mode = s.sup.mode ∧
    (State.addCause s c).sup.driveRemoved = s.sup.driveRemoved ∧ (State.addCause s c).sup.bootCount = s.sup.bootCount ∧
    (State.addCause s c).lot = s.lot ∧ (State.addCause s c).nmt = s.nmt ∧ (State.addCause s c).sle = s.sle ∧
    (State.addCause s c).sin = s.sin ∧ (State.addCause s c).sout = s.sout ∧ (State.addCause s c).tmu = s.tmu ∧
    (State.addCause s c).aaq = s.aaq ∧ (State.addCause s c).hpo = s.hpo ∧ (State.addCause s c).trk = s.trk ∧
    (State.addCause s c).otp = s.otp ∧ (State.addCause s c).bist = s.bist ∧ (State.addCause s c).cvus = s.cvus ∧
    (State.addCause s c).cpl = s.cpl ∧ (State.addCause s c).rcr = s.rcr ∧ (State.addCause s c).log = s.log ∧
    (State.addCause s c).fresh = s.fresh ∧ (State.addCause s c).pending = s.pending := by
  and_intros <;> (unfold State.addCause; with_reducible rfl)

end Sys2Proof.Machine
end

