-- ==== Sys2Proof/Laws/OtpOps.lean ====
section
/-! SUPPORT. What the operations of Machine/OtpOps.lean leave alone: for each, every part of the state that it keeps. -/

namespace Sys2Proof.Machine

@[simp ↓] theorem State.digestGens_keeps (s old : State) :
    (State.digestGens s old).clk = s.clk ∧ (State.digestGens s old).pwr = s.pwr ∧ (State.digestGens s old).sup = s.sup ∧
    (State.digestGens s old).lot = s.lot ∧ (State.digestGens s old).nmt = s.nmt ∧ (State.digestGens s old).sle = s.sle ∧
    (State.digestGens s old).sin = s.sin ∧ (State.digestGens s old).sout = s.sout ∧ (State.digestGens s old).tmu = s.tmu ∧
    (State.digestGens s old).aaq = s.aaq ∧ (State.digestGens s old).hpo.reply = s.hpo.reply ∧
    (State.digestGens s old).hpo.partner = s.hpo.partner ∧ (State.digestGens s old).trk = s.trk ∧ (State.digestGens s old).otp = s.otp ∧
    (State.digestGens s old).bist = s.bist ∧ (State.digestGens s old).cvus = s.cvus ∧ (State.digestGens s old).cpl = s.cpl ∧
    (State.digestGens s old).rcr = s.rcr ∧ (State.digestGens s old).log = s.log ∧ (State.digestGens s old).fresh = s.fresh ∧
    (State.digestGens s old).pending = s.pending := by
  and_intros <;> (unfold State.digestGens; simp)

@[simp ↓] theorem State.otpProgram_keeps (s : State) (data : Nat) (repairing byRecord : Bool) :
    (State.otpProgram s data repairing byRecord).clk = s.clk ∧ (State.otpProgram s data repairing byRecord).pwr = s.pwr ∧
    (State.otpProgram s data repairing byRecord).sup = s.sup ∧ (State.otpProgram s data repairing byRecord).lot = s.lot ∧
    (State.otpProgram s data repairing byRecord).nmt = s.nmt ∧ (State.otpProgram s data repairing byRecord).sle = s.sle ∧
    (State.otpProgram s data repairing byRecord).sin = s.sin ∧ (State.otpProgram s data repairing byRecord).sout = s.sout ∧
    (State.otpProgram s data repairing byRecord).tmu = s.tmu ∧ (State.otpProgram s data repairing byRecord).aaq = s.aaq ∧
    (State.otpProgram s data repairing byRecord).hpo.partner = s.hpo.partner ∧ (State.otpProgram s data repairing byRecord).trk = s.trk ∧
    (State.otpProgram s data repairing byRecord).otp.words = s.otp.words ∧
    (State.otpProgram s data repairing byRecord).otp.wlock = s.otp.wlock ∧
    (State.otpProgram s data repairing byRecord).otp.rlock = s.otp.rlock ∧ (State.otpProgram s data repairing byRecord).bist = s.bist ∧
    (State.otpProgram s data repairing byRecord).cvus = s.cvus ∧ (State.otpProgram s data repairing byRecord).cpl = s.cpl ∧
    (State.otpProgram s data repairing byRecord).rcr = s.rcr ∧ (State.otpProgram s data repairing byRecord).log = s.log ∧
    (State.otpProgram s data repairing byRecord).fresh = s.fresh ∧ (State.otpProgram s data repairing byRecord).pending = s.pending := by
  and_intros <;> (unfold State.otpProgram; (try dsimp only); first | (with_reducible rfl) | (simp; done) | (repeat' (first | (simp; done) | split)))

@[simp ↓] theorem State.otpLock_keeps (s : State) (r : Nat) (read repairing byRecord : Bool) :
    (State.otpLock s r read repairing byRecord).clk = s.clk ∧ (State.otpLock s r read repairing byRecord).pwr = s.pwr ∧
    (State.otpLock s r read repairing byRecord).sup = s.sup ∧ (State.otpLock s r read repairing byRecord).lot = s.lot ∧
    (State.otpLock s r read repairing byRecord).nmt = s.nmt ∧ (State.otpLock s r read repairing byRecord).sle = s.sle ∧
    (State.otpLock s r read repairing byRecord).sin = s.sin ∧ (State.otpLock s r read repairing byRecord).sout = s.sout ∧
    (State.otpLock s r read repairing byRecord).tmu = s.tmu ∧ (State.otpLock s r read repairing byRecord).aaq = s.aaq ∧
    (State.otpLock s r read repairing byRecord).hpo.partner = s.hpo.partner ∧ (State.otpLock s r read repairing byRecord).trk = s.trk ∧
    (State.otpLock s r read repairing byRecord).otp.words = s.otp.words ∧
    (State.otpLock s r read repairing byRecord).otp.wlock = s.otp.wlock ∧
    (State.otpLock s r read repairing byRecord).otp.rlock = s.otp.rlock ∧ (State.otpLock s r read repairing byRecord).bist = s.bist ∧
    (State.otpLock s r read repairing byRecord).cvus = s.cvus ∧ (State.otpLock s r read repairing byRecord).cpl = s.cpl ∧
    (State.otpLock s r read repairing byRecord).rcr = s.rcr ∧ (State.otpLock s r read repairing byRecord).log = s.log ∧
    (State.otpLock s r read repairing byRecord).fresh = s.fresh ∧ (State.otpLock s r read repairing byRecord).pending = s.pending := by
  and_intros <;> (unfold State.otpLock; first | (with_reducible rfl) | (simp; done) | (repeat' (first | (simp; done) | split)))

@[simp ↓] theorem State.otpTake_keeps (s : State) (a : Nat) (r : WordRead) :
    (State.otpTake s a r).clk = s.clk ∧ (State.otpTake s a r).pwr = s.pwr ∧ (State.otpTake s a r).sup = s.sup ∧
    (State.otpTake s a r).lot = s.lot ∧ (State.otpTake s a r).nmt = s.nmt ∧ (State.otpTake s a r).sle = s.sle ∧
    (State.otpTake s a r).sin = s.sin ∧ (State.otpTake s a r).sout = s.sout ∧ (State.otpTake s a r).tmu = s.tmu ∧
    (State.otpTake s a r).aaq = s.aaq ∧ (State.otpTake s a r).hpo.reply = s.hpo.reply ∧
    (State.otpTake s a r).hpo.partner = s.hpo.partner ∧ (State.otpTake s a r).trk = s.trk ∧
    (State.otpTake s a r).otp.wlock = s.otp.wlock ∧ (State.otpTake s a r).otp.rlock = s.otp.rlock ∧
    (State.otpTake s a r).otp.job = s.otp.job ∧ (State.otpTake s a r).bist = s.bist ∧ (State.otpTake s a r).cvus = s.cvus ∧
    (State.otpTake s a r).cpl = s.cpl ∧ (State.otpTake s a r).rcr = s.rcr ∧ (State.otpTake s a r).fresh = s.fresh ∧
    (State.otpTake s a r).pending = s.pending := by
  and_intros <;> (unfold State.otpTake; (try dsimp only); first | (with_reducible rfl) | (simp; done) | (repeat' (first | (simp; done) | split)))

@[simp ↓] theorem State.lockTake_keeps (s : State) (l : LockRead) :
    (State.lockTake s l).clk = s.clk ∧ (State.lockTake s l).pwr = s.pwr ∧ (State.lockTake s l).sup = s.sup ∧
    (State.lockTake s l).lot = s.lot ∧ (State.lockTake s l).nmt = s.nmt ∧ (State.lockTake s l).sle = s.sle ∧
    (State.lockTake s l).sin = s.sin ∧ (State.lockTake s l).sout = s.sout ∧ (State.lockTake s l).tmu = s.tmu ∧
    (State.lockTake s l).aaq = s.aaq ∧ (State.lockTake s l).hpo.reply = s.hpo.reply ∧ (State.lockTake s l).hpo.partner = s.hpo.partner ∧
    (State.lockTake s l).trk = s.trk ∧ (State.lockTake s l).otp.words = s.otp.words ∧ (State.lockTake s l).otp.job = s.otp.job ∧
    (State.lockTake s l).bist = s.bist ∧ (State.lockTake s l).cvus = s.cvus ∧ (State.lockTake s l).cpl = s.cpl ∧
    (State.lockTake s l).rcr = s.rcr ∧ (State.lockTake s l).fresh = s.fresh ∧ (State.lockTake s l).pending = s.pending := by
  and_intros <;> (unfold State.lockTake; simp)

@[simp ↓] theorem State.otpReading_keeps (s : State) (reads : OtpReads) (sel : Nat → Bool) (locks : Nat → Bool) :
    (State.otpReading s reads sel locks).clk = s.clk ∧ (State.otpReading s reads sel locks).pwr = s.pwr ∧
    (State.otpReading s reads sel locks).sup = s.sup ∧ (State.otpReading s reads sel locks).lot = s.lot ∧
    (State.otpReading s reads sel locks).nmt = s.nmt ∧ (State.otpReading s reads sel locks).sle = s.sle ∧
    (State.otpReading s reads sel locks).sin = s.sin ∧ (State.otpReading s reads sel locks).sout = s.sout ∧
    (State.otpReading s reads sel locks).tmu = s.tmu ∧ (State.otpReading s reads sel locks).aaq = s.aaq ∧
    (State.otpReading s reads sel locks).hpo.reply = s.hpo.reply ∧ (State.otpReading s reads sel locks).hpo.partner = s.hpo.partner ∧
    (State.otpReading s reads sel locks).trk = s.trk ∧ (State.otpReading s reads sel locks).otp.job = s.otp.job ∧
    (State.otpReading s reads sel locks).bist = s.bist ∧ (State.otpReading s reads sel locks).cvus = s.cvus ∧
    (State.otpReading s reads sel locks).cpl = s.cpl ∧ (State.otpReading s reads sel locks).rcr = s.rcr ∧
    (State.otpReading s reads sel locks).fresh = s.fresh ∧ (State.otpReading s reads sel locks).pending = s.pending := by
  and_intros <;> (unfold State.otpReading; simp)

@[simp ↓] theorem State.burnWord_keeps (s : State) (a data : Nat) (rd : WordRead) :
    (State.burnWord s a data rd).clk = s.clk ∧ (State.burnWord s a data rd).pwr = s.pwr ∧ (State.burnWord s a data rd).sup = s.sup ∧
    (State.burnWord s a data rd).lot = s.lot ∧ (State.burnWord s a data rd).nmt = s.nmt ∧ (State.burnWord s a data rd).sle = s.sle ∧
    (State.burnWord s a data rd).sin = s.sin ∧ (State.burnWord s a data rd).sout = s.sout ∧ (State.burnWord s a data rd).tmu = s.tmu ∧
    (State.burnWord s a data rd).aaq = s.aaq ∧ (State.burnWord s a data rd).hpo.reply = s.hpo.reply ∧
    (State.burnWord s a data rd).hpo.partner = s.hpo.partner ∧ (State.burnWord s a data rd).trk = s.trk ∧
    (State.burnWord s a data rd).otp.wlock = s.otp.wlock ∧ (State.burnWord s a data rd).otp.rlock = s.otp.rlock ∧
    (State.burnWord s a data rd).otp.job = s.otp.job ∧ (State.burnWord s a data rd).bist = s.bist ∧
    (State.burnWord s a data rd).cvus = s.cvus ∧ (State.burnWord s a data rd).cpl = s.cpl ∧ (State.burnWord s a data rd).rcr = s.rcr ∧
    (State.burnWord s a data rd).fresh = s.fresh ∧ (State.burnWord s a data rd).pending = s.pending := by
  and_intros <;> (unfold State.burnWord; simp)

end Sys2Proof.Machine
end

