-- ==== Sys2Proof/Laws/Repair.lean ====
section
/-! SUPPORT. What the operations of Machine/Repair.lean leave alone: for each, every part of the state that it keeps. -/

namespace Sys2Proof.Machine

@[simp ↓] theorem State.rebuildReport_keeps (s : State) :
    (State.rebuildReport s).clk = s.clk ∧ (State.rebuildReport s).pwr = s.pwr ∧ (State.rebuildReport s).sup = s.sup ∧
    (State.rebuildReport s).lot = s.lot ∧ (State.rebuildReport s).nmt = s.nmt ∧ (State.rebuildReport s).sle = s.sle ∧
    (State.rebuildReport s).sin = s.sin ∧ (State.rebuildReport s).sout = s.sout ∧ (State.rebuildReport s).tmu = s.tmu ∧
    (State.rebuildReport s).aaq = s.aaq ∧ (State.rebuildReport s).hpo = s.hpo ∧ (State.rebuildReport s).trk = s.trk ∧
    (State.rebuildReport s).otp = s.otp ∧ (State.rebuildReport s).cvus = s.cvus ∧ (State.rebuildReport s).cpl = s.cpl ∧
    (State.rebuildReport s).rcr = s.rcr ∧ (State.rebuildReport s).log = s.log ∧ (State.rebuildReport s).fresh = s.fresh ∧
    (State.rebuildReport s).pending = s.pending := by
  and_intros <;> (unfold State.rebuildReport; with_reducible rfl)

@[simp ↓] theorem State.bistPart_keeps (s : State) (t : Nat) (ok last : Bool) :
    (State.bistPart s t ok last).clk = s.clk ∧ (State.bistPart s t ok last).pwr = s.pwr ∧ (State.bistPart s t ok last).sup = s.sup ∧
    (State.bistPart s t ok last).lot = s.lot ∧ (State.bistPart s t ok last).nmt = s.nmt ∧ (State.bistPart s t ok last).sle = s.sle ∧
    (State.bistPart s t ok last).sin = s.sin ∧ (State.bistPart s t ok last).sout = s.sout ∧ (State.bistPart s t ok last).tmu = s.tmu ∧
    (State.bistPart s t ok last).aaq = s.aaq ∧ (State.bistPart s t ok last).hpo.reply = s.hpo.reply ∧
    (State.bistPart s t ok last).hpo.partner = s.hpo.partner ∧ (State.bistPart s t ok last).trk = s.trk ∧
    (State.bistPart s t ok last).otp = s.otp ∧ (State.bistPart s t ok last).cvus = s.cvus ∧ (State.bistPart s t ok last).cpl = s.cpl ∧
    (State.bistPart s t ok last).rcr = s.rcr ∧ (State.bistPart s t ok last).fresh = s.fresh ∧
    (State.bistPart s t ok last).pending = s.pending := by
  and_intros <;> (unfold State.bistPart; simp)

@[simp ↓] theorem State.takeWord_keeps (s : State) (kind w : Nat) :
    (State.takeWord s kind w).clk = s.clk ∧ (State.takeWord s kind w).pwr = s.pwr ∧ (State.takeWord s kind w).sup = s.sup ∧
    (State.takeWord s kind w).lot = s.lot ∧ (State.takeWord s kind w).sle = s.sle ∧ (State.takeWord s kind w).sin = s.sin ∧
    (State.takeWord s kind w).sout = s.sout ∧ (State.takeWord s kind w).tmu = s.tmu ∧ (State.takeWord s kind w).aaq = s.aaq ∧
    (State.takeWord s kind w).hpo = s.hpo ∧ (State.takeWord s kind w).trk = s.trk ∧ (State.takeWord s kind w).otp = s.otp ∧
    (State.takeWord s kind w).bist = s.bist ∧ (State.takeWord s kind w).cvus = s.cvus ∧ (State.takeWord s kind w).cpl = s.cpl ∧
    (State.takeWord s kind w).rcr = s.rcr ∧ (State.takeWord s kind w).log = s.log ∧ (State.takeWord s kind w).fresh = s.fresh ∧
    (State.takeWord s kind w).pending = s.pending := by
  and_intros <;> (unfold State.takeWord; simp)

@[simp ↓] theorem State.takeRepair_keeps (s : State) (r : Repair) :
    (State.takeRepair s r).clk = s.clk ∧ (State.takeRepair s r).pwr = s.pwr ∧ (State.takeRepair s r).sup = s.sup ∧
    (State.takeRepair s r).lot = s.lot ∧ (State.takeRepair s r).sle = s.sle ∧ (State.takeRepair s r).sin = s.sin ∧
    (State.takeRepair s r).sout = s.sout ∧ (State.takeRepair s r).tmu = s.tmu ∧ (State.takeRepair s r).aaq = s.aaq ∧
    (State.takeRepair s r).hpo.reply = s.hpo.reply ∧ (State.takeRepair s r).hpo.partner = s.hpo.partner ∧
    (State.takeRepair s r).trk = s.trk ∧ (State.takeRepair s r).otp = s.otp ∧ (State.takeRepair s r).cvus = s.cvus ∧
    (State.takeRepair s r).cpl = s.cpl ∧ (State.takeRepair s r).rcr = s.rcr ∧ (State.takeRepair s r).fresh = s.fresh ∧
    (State.takeRepair s r).pending = s.pending := by
  and_intros <;> (unfold State.takeRepair; simp)

@[simp ↓] theorem State.planesAtStrobe_keeps (s : State) (p : Nat) :
    (State.planesAtStrobe s p).clk = s.clk ∧ (State.planesAtStrobe s p).pwr = s.pwr ∧ (State.planesAtStrobe s p).sup = s.sup ∧
    (State.planesAtStrobe s p).lot = s.lot ∧ (State.planesAtStrobe s p).nmt = s.nmt ∧ (State.planesAtStrobe s p).sle = s.sle ∧
    (State.planesAtStrobe s p).sin = s.sin ∧ (State.planesAtStrobe s p).sout = s.sout ∧ (State.planesAtStrobe s p).tmu = s.tmu ∧
    (State.planesAtStrobe s p).aaq = s.aaq ∧ (State.planesAtStrobe s p).hpo = s.hpo ∧ (State.planesAtStrobe s p).trk = s.trk ∧
    (State.planesAtStrobe s p).otp = s.otp ∧ (State.planesAtStrobe s p).cvus = s.cvus ∧ (State.planesAtStrobe s p).cpl = s.cpl ∧
    (State.planesAtStrobe s p).rcr = s.rcr ∧ (State.planesAtStrobe s p).log = s.log ∧ (State.planesAtStrobe s p).fresh = s.fresh ∧
    (State.planesAtStrobe s p).pending = s.pending := by
  and_intros <;> (unfold State.planesAtStrobe; with_reducible rfl)

@[simp ↓] theorem State.repairsAtLanding_keeps (s : State) (w : Nat) :
    (State.repairsAtLanding s w).clk = s.clk ∧ (State.repairsAtLanding s w).pwr = s.pwr ∧ (State.repairsAtLanding s w).sup = s.sup ∧
    (State.repairsAtLanding s w).lot = s.lot ∧ (State.repairsAtLanding s w).sle = s.sle ∧ (State.repairsAtLanding s w).sin = s.sin ∧
    (State.repairsAtLanding s w).sout = s.sout ∧ (State.repairsAtLanding s w).tmu = s.tmu ∧ (State.repairsAtLanding s w).aaq = s.aaq ∧
    (State.repairsAtLanding s w).hpo.reply = s.hpo.reply ∧ (State.repairsAtLanding s w).hpo.partner = s.hpo.partner ∧
    (State.repairsAtLanding s w).trk = s.trk ∧ (State.repairsAtLanding s w).otp = s.otp ∧ (State.repairsAtLanding s w).cvus = s.cvus ∧
    (State.repairsAtLanding s w).cpl = s.cpl ∧ (State.repairsAtLanding s w).rcr = s.rcr ∧ (State.repairsAtLanding s w).fresh = s.fresh ∧
    (State.repairsAtLanding s w).pending = s.pending := by
  and_intros <;> (unfold State.repairsAtLanding; simp)

@[simp ↓] theorem State.repairsAtStrobe_keeps (s : State) (p : Nat) :
    (State.repairsAtStrobe s p).clk = s.clk ∧ (State.repairsAtStrobe s p).pwr = s.pwr ∧ (State.repairsAtStrobe s p).sup = s.sup ∧
    (State.repairsAtStrobe s p).lot = s.lot ∧ (State.repairsAtStrobe s p).sle.epoch = s.sle.epoch ∧
    (State.repairsAtStrobe s p).sle.lfsr = s.sle.lfsr ∧ (State.repairsAtStrobe s p).sin = s.sin ∧
    (State.repairsAtStrobe s p).sout = s.sout ∧ (State.repairsAtStrobe s p).tmu = s.tmu ∧ (State.repairsAtStrobe s p).aaq = s.aaq ∧
    (State.repairsAtStrobe s p).hpo.reply = s.hpo.reply ∧ (State.repairsAtStrobe s p).hpo.partner = s.hpo.partner ∧
    (State.repairsAtStrobe s p).trk = s.trk ∧ (State.repairsAtStrobe s p).otp = s.otp ∧ (State.repairsAtStrobe s p).cvus = s.cvus ∧
    (State.repairsAtStrobe s p).cpl = s.cpl ∧ (State.repairsAtStrobe s p).rcr = s.rcr ∧ (State.repairsAtStrobe s p).fresh = s.fresh ∧
    (State.repairsAtStrobe s p).pending = s.pending := by
  and_intros <;> (unfold State.repairsAtStrobe; simp)

end Sys2Proof.Machine
end

