-- ==== Sys2Proof/Laws/Engine.lean ====
section
/-! SUPPORT. What the operations of Machine/Engine.lean leave alone: for each, every part of the state that it keeps. -/

namespace Sys2Proof.Machine

@[simp ↓] theorem State.putTimersO_keeps (s : State) (k : Key) (new : List (Nat × TCell)) :
    (State.putTimersO s k new).clk = s.clk ∧ (State.putTimersO s k new).pwr = s.pwr ∧ (State.putTimersO s k new).sup = s.sup ∧
    (State.putTimersO s k new).lot = s.lot ∧ (State.putTimersO s k new).nmt = s.nmt ∧
    (State.putTimersO s k new).sle.epoch = s.sle.epoch ∧ (State.putTimersO s k new).sle.lfsr = s.sle.lfsr ∧
    (State.putTimersO s k new).sin = s.sin ∧ (State.putTimersO s k new).sout = s.sout ∧ (State.putTimersO s k new).tmu = s.tmu ∧
    (State.putTimersO s k new).aaq = s.aaq ∧ (State.putTimersO s k new).hpo = s.hpo ∧ (State.putTimersO s k new).trk = s.trk ∧
    (State.putTimersO s k new).otp = s.otp ∧ (State.putTimersO s k new).bist = s.bist ∧ (State.putTimersO s k new).cvus = s.cvus ∧
    (State.putTimersO s k new).cpl = s.cpl ∧ (State.putTimersO s k new).rcr = s.rcr ∧ (State.putTimersO s k new).log = s.log ∧
    (State.putTimersO s k new).fresh = s.fresh ∧ (State.putTimersO s k new).pending = s.pending := by
  and_intros <;> (unfold State.putTimersO; with_reducible rfl)

@[simp ↓] theorem State.doWop_keeps (s : State) (p : Nat) (ps : Pass) (w : Wop) (flip : Lanes) :
    (State.doWop s p ps w flip).clk = s.clk ∧ (State.doWop s p ps w flip).pwr = s.pwr ∧ (State.doWop s p ps w flip).sup = s.sup ∧
    (State.doWop s p ps w flip).lot = s.lot ∧ (State.doWop s p ps w flip).nmt = s.nmt ∧
    (State.doWop s p ps w flip).sle.epoch = s.sle.epoch ∧ (State.doWop s p ps w flip).sle.lfsr = s.sle.lfsr ∧
    (State.doWop s p ps w flip).sin = s.sin ∧ (State.doWop s p ps w flip).sout = s.sout ∧ (State.doWop s p ps w flip).tmu = s.tmu ∧
    (State.doWop s p ps w flip).aaq = s.aaq ∧ (State.doWop s p ps w flip).hpo = s.hpo ∧ (State.doWop s p ps w flip).trk = s.trk ∧
    (State.doWop s p ps w flip).otp = s.otp ∧ (State.doWop s p ps w flip).bist = s.bist ∧ (State.doWop s p ps w flip).cvus = s.cvus ∧
    (State.doWop s p ps w flip).cpl = s.cpl ∧ (State.doWop s p ps w flip).rcr = s.rcr ∧ (State.doWop s p ps w flip).log = s.log ∧
    (State.doWop s p ps w flip).fresh = s.fresh ∧ (State.doWop s p ps w flip).pending = s.pending := by
  and_intros <;> (unfold State.doWop; simp)

@[simp ↓] theorem State.schedule_keeps (s : State) :
    (State.schedule s).clk = s.clk ∧ (State.schedule s).pwr = s.pwr ∧ (State.schedule s).sup = s.sup ∧ (State.schedule s).lot = s.lot ∧
    (State.schedule s).nmt = s.nmt ∧ (State.schedule s).sle.epoch = s.sle.epoch ∧ (State.schedule s).sle.lfsr = s.sle.lfsr ∧
    (State.schedule s).sin = s.sin ∧ (State.schedule s).sout = s.sout ∧ (State.schedule s).tmu = s.tmu ∧ (State.schedule s).aaq = s.aaq ∧
    (State.schedule s).hpo = s.hpo ∧ (State.schedule s).trk = s.trk ∧ (State.schedule s).otp = s.otp ∧ (State.schedule s).bist = s.bist ∧
    (State.schedule s).cvus = s.cvus ∧ (State.schedule s).cpl = s.cpl ∧ (State.schedule s).rcr = s.rcr ∧ (State.schedule s).log = s.log ∧
    (State.schedule s).fresh = s.fresh ∧ (State.schedule s).pending = s.pending := by
  and_intros <;> (unfold State.schedule; first | (with_reducible rfl) | (simp; done) | (repeat' (first | (simp; done) | split)))

@[simp ↓] theorem State.suspendPoint_keeps (s : State) (p : Nat) :
    (State.suspendPoint s p).clk = s.clk ∧ (State.suspendPoint s p).pwr = s.pwr ∧ (State.suspendPoint s p).sup = s.sup ∧
    (State.suspendPoint s p).lot = s.lot ∧ (State.suspendPoint s p).nmt = s.nmt ∧ (State.suspendPoint s p).sle.epoch = s.sle.epoch ∧
    (State.suspendPoint s p).sle.lfsr = s.sle.lfsr ∧ (State.suspendPoint s p).sin = s.sin ∧ (State.suspendPoint s p).sout = s.sout ∧
    (State.suspendPoint s p).tmu = s.tmu ∧ (State.suspendPoint s p).aaq = s.aaq ∧ (State.suspendPoint s p).hpo = s.hpo ∧
    (State.suspendPoint s p).trk = s.trk ∧ (State.suspendPoint s p).otp = s.otp ∧ (State.suspendPoint s p).bist = s.bist ∧
    (State.suspendPoint s p).cvus = s.cvus ∧ (State.suspendPoint s p).cpl = s.cpl ∧ (State.suspendPoint s p).rcr = s.rcr ∧
    (State.suspendPoint s p).log = s.log ∧ (State.suspendPoint s p).fresh = s.fresh ∧ (State.suspendPoint s p).pending = s.pending := by
  and_intros <;> (unfold State.suspendPoint; first | (with_reducible rfl) | (simp; done) | (repeat' (first | (simp; done) | split)))

@[simp ↓] theorem State.advance_keeps (s : State) (p : Nat) (ps : Pass) (cls : Nat) :
    (State.advance s p ps cls).clk = s.clk ∧ (State.advance s p ps cls).pwr = s.pwr ∧ (State.advance s p ps cls).sup = s.sup ∧
    (State.advance s p ps cls).lot = s.lot ∧ (State.advance s p ps cls).nmt = s.nmt ∧
    (State.advance s p ps cls).sle.epoch = s.sle.epoch ∧ (State.advance s p ps cls).sle.lfsr = s.sle.lfsr ∧
    (State.advance s p ps cls).sin = s.sin ∧ (State.advance s p ps cls).sout = s.sout ∧ (State.advance s p ps cls).tmu = s.tmu ∧
    (State.advance s p ps cls).aaq = s.aaq ∧ (State.advance s p ps cls).hpo.partner = s.hpo.partner ∧
    (State.advance s p ps cls).trk = s.trk ∧ (State.advance s p ps cls).otp = s.otp ∧ (State.advance s p ps cls).bist = s.bist ∧
    (State.advance s p ps cls).cvus = s.cvus ∧ (State.advance s p ps cls).cpl = s.cpl ∧ (State.advance s p ps cls).rcr = s.rcr ∧
    (State.advance s p ps cls).log = s.log ∧ (State.advance s p ps cls).fresh = s.fresh ∧ (State.advance s p ps cls).pending = s.pending := by
  and_intros <;> (unfold State.advance; simp)

end Sys2Proof.Machine
end

