-- ==== Sys2Proof/Laws/InputOps.lean ====
section
/-! SUPPORT. What the operations of Machine/InputOps.lean leave alone: for each, every part of the state that it keeps. -/

namespace Sys2Proof.Machine

@[simp ↓] theorem State.pairEval_keeps (s : State) (p t : Nat) :
    (State.pairEval s p t).clk = s.clk ∧ (State.pairEval s p t).pwr = s.pwr ∧ (State.pairEval s p t).sup = s.sup ∧
    (State.pairEval s p t).lot = s.lot ∧ (State.pairEval s p t).nmt = s.nmt ∧ (State.pairEval s p t).sle = s.sle ∧
    (State.pairEval s p t).sout = s.sout ∧ (State.pairEval s p t).tmu = s.tmu ∧ (State.pairEval s p t).aaq = s.aaq ∧
    (State.pairEval s p t).hpo.reply = s.hpo.reply ∧ (State.pairEval s p t).hpo.partner = s.hpo.partner ∧
    (State.pairEval s p t).trk = s.trk ∧ (State.pairEval s p t).otp = s.otp ∧ (State.pairEval s p t).bist = s.bist ∧
    (State.pairEval s p t).cvus = s.cvus ∧ (State.pairEval s p t).cpl = s.cpl ∧ (State.pairEval s p t).rcr = s.rcr ∧
    (State.pairEval s p t).fresh = s.fresh ∧ (State.pairEval s p t).pending = s.pending := by
  and_intros <;> (unfold State.pairEval; simp)

@[simp ↓] theorem State.chanChange_keeps (s : State) (n t : Nat) (c : Chan) :
    (State.chanChange s n t c).clk = s.clk ∧ (State.chanChange s n t c).pwr = s.pwr ∧ (State.chanChange s n t c).sup = s.sup ∧
    (State.chanChange s n t c).lot = s.lot ∧ (State.chanChange s n t c).nmt = s.nmt ∧ (State.chanChange s n t c).sle = s.sle ∧
    (State.chanChange s n t c).sout = s.sout ∧ (State.chanChange s n t c).tmu = s.tmu ∧ (State.chanChange s n t c).aaq = s.aaq ∧
    (State.chanChange s n t c).hpo.reply = s.hpo.reply ∧ (State.chanChange s n t c).hpo.partner = s.hpo.partner ∧
    (State.chanChange s n t c).trk = s.trk ∧ (State.chanChange s n t c).otp = s.otp ∧ (State.chanChange s n t c).bist = s.bist ∧
    (State.chanChange s n t c).cvus = s.cvus ∧ (State.chanChange s n t c).cpl = s.cpl ∧ (State.chanChange s n t c).rcr = s.rcr ∧
    (State.chanChange s n t c).fresh = s.fresh ∧ (State.chanChange s n t c).pending = s.pending := by
  and_intros <;> (unfold State.chanChange; simp)

@[simp ↓] theorem State.chanRelease_keeps (s : State) (n : Nat) :
    (State.chanRelease s n).clk = s.clk ∧ (State.chanRelease s n).pwr = s.pwr ∧ (State.chanRelease s n).sup = s.sup ∧
    (State.chanRelease s n).lot = s.lot ∧ (State.chanRelease s n).nmt = s.nmt ∧ (State.chanRelease s n).sle = s.sle ∧
    (State.chanRelease s n).sout = s.sout ∧ (State.chanRelease s n).tmu = s.tmu ∧ (State.chanRelease s n).aaq = s.aaq ∧
    (State.chanRelease s n).hpo.reply = s.hpo.reply ∧ (State.chanRelease s n).hpo.partner = s.hpo.partner ∧
    (State.chanRelease s n).trk = s.trk ∧ (State.chanRelease s n).otp = s.otp ∧ (State.chanRelease s n).bist = s.bist ∧
    (State.chanRelease s n).cvus = s.cvus ∧ (State.chanRelease s n).cpl = s.cpl ∧ (State.chanRelease s n).rcr = s.rcr ∧
    (State.chanRelease s n).fresh = s.fresh ∧ (State.chanRelease s n).pending = s.pending := by
  and_intros <;> (unfold State.chanRelease; simp)

@[simp ↓] theorem State.autoRelease_keeps (s : State) (n : Nat) :
    (State.autoRelease s n).clk = s.clk ∧ (State.autoRelease s n).pwr = s.pwr ∧ (State.autoRelease s n).sup = s.sup ∧
    (State.autoRelease s n).lot = s.lot ∧ (State.autoRelease s n).nmt = s.nmt ∧ (State.autoRelease s n).sle = s.sle ∧
    (State.autoRelease s n).sout = s.sout ∧ (State.autoRelease s n).tmu = s.tmu ∧ (State.autoRelease s n).aaq = s.aaq ∧
    (State.autoRelease s n).hpo.reply = s.hpo.reply ∧ (State.autoRelease s n).hpo.partner = s.hpo.partner ∧
    (State.autoRelease s n).trk = s.trk ∧ (State.autoRelease s n).otp = s.otp ∧ (State.autoRelease s n).bist = s.bist ∧
    (State.autoRelease s n).cvus = s.cvus ∧ (State.autoRelease s n).cpl = s.cpl ∧ (State.autoRelease s n).rcr = s.rcr ∧
    (State.autoRelease s n).fresh = s.fresh ∧ (State.autoRelease s n).pending = s.pending := by
  and_intros <;> (unfold State.autoRelease; simp)

@[simp ↓] theorem State.chanFault_keeps (s : State) (n code : Nat) :
    (State.chanFault s n code).clk = s.clk ∧ (State.chanFault s n code).pwr = s.pwr ∧ (State.chanFault s n code).sup = s.sup ∧
    (State.chanFault s n code).lot = s.lot ∧ (State.chanFault s n code).nmt = s.nmt ∧ (State.chanFault s n code).sle = s.sle ∧
    (State.chanFault s n code).sout = s.sout ∧ (State.chanFault s n code).tmu = s.tmu ∧ (State.chanFault s n code).aaq = s.aaq ∧
    (State.chanFault s n code).hpo.reply = s.hpo.reply ∧ (State.chanFault s n code).hpo.partner = s.hpo.partner ∧
    (State.chanFault s n code).trk = s.trk ∧ (State.chanFault s n code).otp = s.otp ∧ (State.chanFault s n code).bist = s.bist ∧
    (State.chanFault s n code).cvus = s.cvus ∧ (State.chanFault s n code).cpl = s.cpl ∧ (State.chanFault s n code).rcr = s.rcr ∧
    (State.chanFault s n code).pending = s.pending := by
  and_intros <;> (unfold State.chanFault; simp)

@[simp ↓] theorem State.chanEdge_keeps (s : State) (n t : Nat) (level : Bool) :
    (State.chanEdge s n t level).clk = s.clk ∧ (State.chanEdge s n t level).pwr = s.pwr ∧ (State.chanEdge s n t level).sup = s.sup ∧
    (State.chanEdge s n t level).lot = s.lot ∧ (State.chanEdge s n t level).nmt = s.nmt ∧ (State.chanEdge s n t level).sle = s.sle ∧
    (State.chanEdge s n t level).sout = s.sout ∧ (State.chanEdge s n t level).tmu = s.tmu ∧ (State.chanEdge s n t level).aaq = s.aaq ∧
    (State.chanEdge s n t level).hpo.reply = s.hpo.reply ∧ (State.chanEdge s n t level).hpo.partner = s.hpo.partner ∧
    (State.chanEdge s n t level).trk = s.trk ∧ (State.chanEdge s n t level).otp = s.otp ∧ (State.chanEdge s n t level).bist = s.bist ∧
    (State.chanEdge s n t level).cvus = s.cvus ∧ (State.chanEdge s n t level).cpl = s.cpl ∧ (State.chanEdge s n t level).rcr = s.rcr ∧
    (State.chanEdge s n t level).fresh = s.fresh ∧ (State.chanEdge s n t level).pending = s.pending := by
  and_intros <;> (unfold State.chanEdge; simp)

@[simp ↓] theorem State.pairRelease_keeps (s : State) (p : Nat) :
    (State.pairRelease s p).clk = s.clk ∧ (State.pairRelease s p).pwr = s.pwr ∧ (State.pairRelease s p).sup = s.sup ∧
    (State.pairRelease s p).lot = s.lot ∧ (State.pairRelease s p).nmt = s.nmt ∧ (State.pairRelease s p).sle = s.sle ∧
    (State.pairRelease s p).sout = s.sout ∧ (State.pairRelease s p).tmu = s.tmu ∧ (State.pairRelease s p).aaq = s.aaq ∧
    (State.pairRelease s p).hpo = s.hpo ∧ (State.pairRelease s p).trk = s.trk ∧ (State.pairRelease s p).otp = s.otp ∧
    (State.pairRelease s p).bist = s.bist ∧ (State.pairRelease s p).cvus = s.cvus ∧ (State.pairRelease s p).cpl = s.cpl ∧
    (State.pairRelease s p).rcr = s.rcr ∧ (State.pairRelease s p).log = s.log ∧ (State.pairRelease s p).fresh = s.fresh ∧
    (State.pairRelease s p).pending = s.pending := by
  and_intros <;> (unfold State.pairRelease; simp)

@[simp ↓] theorem State.releaseInputs_keeps (s : State) (serves : Nat → Bool) :
    (State.releaseInputs s serves).clk = s.clk ∧ (State.releaseInputs s serves).pwr = s.pwr ∧
    (State.releaseInputs s serves).sup = s.sup ∧ (State.releaseInputs s serves).lot = s.lot ∧
    (State.releaseInputs s serves).nmt = s.nmt ∧ (State.releaseInputs s serves).sle = s.sle ∧
    (State.releaseInputs s serves).sout = s.sout ∧ (State.releaseInputs s serves).tmu = s.tmu ∧
    (State.releaseInputs s serves).aaq = s.aaq ∧ (State.releaseInputs s serves).hpo.reply = s.hpo.reply ∧
    (State.releaseInputs s serves).hpo.partner = s.hpo.partner ∧ (State.releaseInputs s serves).trk = s.trk ∧
    (State.releaseInputs s serves).otp = s.otp ∧ (State.releaseInputs s serves).bist = s.bist ∧
    (State.releaseInputs s serves).cvus = s.cvus ∧ (State.releaseInputs s serves).cpl = s.cpl ∧
    (State.releaseInputs s serves).rcr = s.rcr ∧ (State.releaseInputs s serves).fresh = s.fresh ∧
    (State.releaseInputs s serves).pending = s.pending := by
  and_intros <;> (unfold State.releaseInputs; simp)

@[simp ↓] theorem State.srcClear_keeps (s : State) (k : Nat) :
    (State.srcClear s k).clk = s.clk ∧ (State.srcClear s k).pwr = s.pwr ∧ (State.srcClear s k).sup = s.sup ∧
    (State.srcClear s k).lot = s.lot ∧ (State.srcClear s k).nmt = s.nmt ∧ (State.srcClear s k).sle = s.sle ∧
    (State.srcClear s k).sout = s.sout ∧ (State.srcClear s k).tmu = s.tmu ∧ (State.srcClear s k).aaq = s.aaq ∧
    (State.srcClear s k).hpo.reply = s.hpo.reply ∧ (State.srcClear s k).hpo.partner = s.hpo.partner ∧ (State.srcClear s k).trk = s.trk ∧
    (State.srcClear s k).otp = s.otp ∧ (State.srcClear s k).bist = s.bist ∧ (State.srcClear s k).cvus = s.cvus ∧
    (State.srcClear s k).cpl = s.cpl ∧ (State.srcClear s k).rcr = s.rcr ∧ (State.srcClear s k).fresh = s.fresh ∧
    (State.srcClear s k).pending = s.pending := by
  and_intros <;> (unfold State.srcClear; simp)

@[simp ↓] theorem State.sinStart_keeps (s : State) (wake : Bool) :
    (State.sinStart s wake).clk = s.clk ∧ (State.sinStart s wake).pwr = s.pwr ∧ (State.sinStart s wake).sup = s.sup ∧
    (State.sinStart s wake).lot = s.lot ∧ (State.sinStart s wake).nmt = s.nmt ∧ (State.sinStart s wake).sle = s.sle ∧
    (State.sinStart s wake).sout = s.sout ∧ (State.sinStart s wake).tmu = s.tmu ∧ (State.sinStart s wake).aaq = s.aaq ∧
    (State.sinStart s wake).hpo = s.hpo ∧ (State.sinStart s wake).trk = s.trk ∧ (State.sinStart s wake).otp = s.otp ∧
    (State.sinStart s wake).bist = s.bist ∧ (State.sinStart s wake).cvus = s.cvus ∧ (State.sinStart s wake).cpl = s.cpl ∧
    (State.sinStart s wake).rcr = s.rcr ∧ (State.sinStart s wake).log = s.log ∧ (State.sinStart s wake).fresh = s.fresh ∧
    (State.sinStart s wake).pending = s.pending := by
  and_intros <;> (unfold State.sinStart; simp)

@[simp ↓] theorem State.srcsOff_keeps (s : State) (ks : List Nat) :
    (State.srcsOff s ks).clk = s.clk ∧ (State.srcsOff s ks).pwr = s.pwr ∧ (State.srcsOff s ks).sup = s.sup ∧
    (State.srcsOff s ks).lot = s.lot ∧ (State.srcsOff s ks).nmt = s.nmt ∧ (State.srcsOff s ks).sle = s.sle ∧
    (State.srcsOff s ks).sout = s.sout ∧ (State.srcsOff s ks).tmu = s.tmu ∧ (State.srcsOff s ks).aaq = s.aaq ∧
    (State.srcsOff s ks).hpo = s.hpo ∧ (State.srcsOff s ks).trk = s.trk ∧ (State.srcsOff s ks).otp = s.otp ∧
    (State.srcsOff s ks).bist = s.bist ∧ (State.srcsOff s ks).cvus = s.cvus ∧ (State.srcsOff s ks).cpl = s.cpl ∧
    (State.srcsOff s ks).rcr = s.rcr ∧ (State.srcsOff s ks).log = s.log ∧ (State.srcsOff s ks).fresh = s.fresh ∧
    (State.srcsOff s ks).pending = s.pending := by
  and_intros <;> (unfold State.srcsOff; simp)

end Sys2Proof.Machine
end

