-- ==== Sys2Proof/Laws/OutputOps.lean ====
section
/-! SUPPORT. What the operations of Machine/OutputOps.lean leave alone: for each, every part of the state that it keeps. -/

namespace Sys2Proof.Machine

@[simp ↓] theorem State.outRefresh_keeps (s : State) (role : Role) :
    (State.outRefresh s role).clk = s.clk ∧ (State.outRefresh s role).pwr = s.pwr ∧ (State.outRefresh s role).sup = s.sup ∧
    (State.outRefresh s role).lot = s.lot ∧ (State.outRefresh s role).nmt = s.nmt ∧ (State.outRefresh s role).sle = s.sle ∧
    (State.outRefresh s role).sin = s.sin ∧ (State.outRefresh s role).sout.w8 = s.sout.w8 ∧ (State.outRefresh s role).tmu = s.tmu ∧
    (State.outRefresh s role).aaq = s.aaq ∧ (State.outRefresh s role).hpo = s.hpo ∧ (State.outRefresh s role).trk = s.trk ∧
    (State.outRefresh s role).otp = s.otp ∧ (State.outRefresh s role).bist = s.bist ∧ (State.outRefresh s role).cvus = s.cvus ∧
    (State.outRefresh s role).cpl = s.cpl ∧ (State.outRefresh s role).rcr = s.rcr ∧ (State.outRefresh s role).log = s.log ∧
    (State.outRefresh s role).fresh = s.fresh ∧ (State.outRefresh s role).pending = s.pending := by
  and_intros <;> (unfold State.outRefresh; simp)

@[simp ↓] theorem State.codeNine_keeps (s : State) (g : Nat) :
    (State.codeNine s g).clk = s.clk ∧ (State.codeNine s g).pwr = s.pwr ∧ (State.codeNine s g).sup = s.sup ∧
    (State.codeNine s g).lot = s.lot ∧ (State.codeNine s g).nmt = s.nmt ∧ (State.codeNine s g).sle = s.sle ∧
    (State.codeNine s g).sin = s.sin ∧ (State.codeNine s g).sout.w8 = s.sout.w8 ∧ (State.codeNine s g).tmu = s.tmu ∧
    (State.codeNine s g).aaq = s.aaq ∧ (State.codeNine s g).hpo = s.hpo ∧ (State.codeNine s g).trk = s.trk ∧
    (State.codeNine s g).otp = s.otp ∧ (State.codeNine s g).bist = s.bist ∧ (State.codeNine s g).cvus = s.cvus ∧
    (State.codeNine s g).cpl = s.cpl ∧ (State.codeNine s g).rcr = s.rcr ∧ (State.codeNine s g).log = s.log ∧
    (State.codeNine s g).fresh = s.fresh ∧ (State.codeNine s g).pending = s.pending := by
  and_intros <;> (unfold State.codeNine; simp)

@[simp ↓] theorem State.groupFault_keeps (s : State) (g code : Nat) :
    (State.groupFault s g code).clk = s.clk ∧ (State.groupFault s g code).pwr = s.pwr ∧ (State.groupFault s g code).sup = s.sup ∧
    (State.groupFault s g code).lot = s.lot ∧ (State.groupFault s g code).nmt = s.nmt ∧ (State.groupFault s g code).sle = s.sle ∧
    (State.groupFault s g code).sin = s.sin ∧ (State.groupFault s g code).sout.w8 = s.sout.w8 ∧ (State.groupFault s g code).tmu = s.tmu ∧
    (State.groupFault s g code).aaq = s.aaq ∧ (State.groupFault s g code).hpo.reply = s.hpo.reply ∧
    (State.groupFault s g code).hpo.partner = s.hpo.partner ∧ (State.groupFault s g code).trk = s.trk ∧
    (State.groupFault s g code).otp = s.otp ∧ (State.groupFault s g code).bist = s.bist ∧ (State.groupFault s g code).cvus = s.cvus ∧
    (State.groupFault s g code).cpl = s.cpl ∧ (State.groupFault s g code).rcr = s.rcr ∧ (State.groupFault s g code).fresh = s.fresh ∧
    (State.groupFault s g code).pending = s.pending := by
  and_intros <;> (unfold State.groupFault; simp)

@[simp ↓] theorem State.outFault_keeps (s : State) (n code : Nat) :
    (State.outFault s n code).clk = s.clk ∧ (State.outFault s n code).pwr = s.pwr ∧ (State.outFault s n code).sup = s.sup ∧
    (State.outFault s n code).lot = s.lot ∧ (State.outFault s n code).nmt = s.nmt ∧ (State.outFault s n code).sle = s.sle ∧
    (State.outFault s n code).sin = s.sin ∧ (State.outFault s n code).sout.w8 = s.sout.w8 ∧ (State.outFault s n code).tmu = s.tmu ∧
    (State.outFault s n code).aaq = s.aaq ∧ (State.outFault s n code).hpo.reply = s.hpo.reply ∧
    (State.outFault s n code).hpo.partner = s.hpo.partner ∧ (State.outFault s n code).trk = s.trk ∧
    (State.outFault s n code).otp = s.otp ∧ (State.outFault s n code).bist = s.bist ∧ (State.outFault s n code).cvus = s.cvus ∧
    (State.outFault s n code).cpl = s.cpl ∧ (State.outFault s n code).rcr = s.rcr ∧ (State.outFault s n code).fresh = s.fresh ∧
    (State.outFault s n code).pending = s.pending := by
  and_intros <;> (unfold State.outFault; simp)

@[simp ↓] theorem State.groupEdge_keeps (s : State) (g : Nat) :
    (State.groupEdge s g).clk = s.clk ∧ (State.groupEdge s g).pwr = s.pwr ∧ (State.groupEdge s g).sup = s.sup ∧
    (State.groupEdge s g).lot = s.lot ∧ (State.groupEdge s g).nmt = s.nmt ∧ (State.groupEdge s g).sle = s.sle ∧
    (State.groupEdge s g).sin = s.sin ∧ (State.groupEdge s g).sout.w8 = s.sout.w8 ∧ (State.groupEdge s g).tmu = s.tmu ∧
    (State.groupEdge s g).aaq = s.aaq ∧ (State.groupEdge s g).hpo = s.hpo ∧ (State.groupEdge s g).trk = s.trk ∧
    (State.groupEdge s g).otp = s.otp ∧ (State.groupEdge s g).bist = s.bist ∧ (State.groupEdge s g).cvus = s.cvus ∧
    (State.groupEdge s g).cpl = s.cpl ∧ (State.groupEdge s g).rcr = s.rcr ∧ (State.groupEdge s g).log = s.log ∧
    (State.groupEdge s g).fresh = s.fresh ∧ (State.groupEdge s g).pending = s.pending := by
  and_intros <;> (unfold State.groupEdge; simp)

@[simp ↓] theorem State.groupBoundary_keeps (s : State) (g : Nat) :
    (State.groupBoundary s g).clk = s.clk ∧ (State.groupBoundary s g).pwr = s.pwr ∧ (State.groupBoundary s g).sup = s.sup ∧
    (State.groupBoundary s g).lot = s.lot ∧ (State.groupBoundary s g).nmt = s.nmt ∧ (State.groupBoundary s g).sle = s.sle ∧
    (State.groupBoundary s g).sin = s.sin ∧ (State.groupBoundary s g).sout.w8 = s.sout.w8 ∧ (State.groupBoundary s g).tmu = s.tmu ∧
    (State.groupBoundary s g).aaq = s.aaq ∧ (State.groupBoundary s g).hpo = s.hpo ∧ (State.groupBoundary s g).trk = s.trk ∧
    (State.groupBoundary s g).otp = s.otp ∧ (State.groupBoundary s g).bist = s.bist ∧ (State.groupBoundary s g).cvus = s.cvus ∧
    (State.groupBoundary s g).cpl = s.cpl ∧ (State.groupBoundary s g).rcr = s.rcr ∧ (State.groupBoundary s g).log = s.log ∧
    (State.groupBoundary s g).fresh = s.fresh ∧ (State.groupBoundary s g).pending = s.pending := by
  and_intros <;> (unfold State.groupBoundary; simp)

@[simp ↓] theorem State.bothReleased_keeps (s : State) :
    (State.bothReleased s).clk = s.clk ∧ (State.bothReleased s).pwr = s.pwr ∧ (State.bothReleased s).sup = s.sup ∧
    (State.bothReleased s).lot = s.lot ∧ (State.bothReleased s).nmt = s.nmt ∧ (State.bothReleased s).sle = s.sle ∧
    (State.bothReleased s).sin = s.sin ∧ (State.bothReleased s).sout.w8 = s.sout.w8 ∧ (State.bothReleased s).tmu = s.tmu ∧
    (State.bothReleased s).aaq = s.aaq ∧ (State.bothReleased s).hpo = s.hpo ∧ (State.bothReleased s).trk = s.trk ∧
    (State.bothReleased s).otp = s.otp ∧ (State.bothReleased s).bist = s.bist ∧ (State.bothReleased s).cvus = s.cvus ∧
    (State.bothReleased s).cpl = s.cpl ∧ (State.bothReleased s).rcr = s.rcr ∧ (State.bothReleased s).log = s.log ∧
    (State.bothReleased s).fresh = s.fresh ∧ (State.bothReleased s).pending = s.pending := by
  and_intros <;> (unfold State.bothReleased; simp)

@[simp ↓] theorem State.releaseBoundary_keeps (s : State) (p : Nat) :
    (State.releaseBoundary s p).clk = s.clk ∧ (State.releaseBoundary s p).pwr = s.pwr ∧ (State.releaseBoundary s p).sup = s.sup ∧
    (State.releaseBoundary s p).lot = s.lot ∧ (State.releaseBoundary s p).nmt = s.nmt ∧ (State.releaseBoundary s p).sle = s.sle ∧
    (State.releaseBoundary s p).sin = s.sin ∧ (State.releaseBoundary s p).sout.w8 = s.sout.w8 ∧ (State.releaseBoundary s p).tmu = s.tmu ∧
    (State.releaseBoundary s p).aaq = s.aaq ∧ (State.releaseBoundary s p).hpo = s.hpo ∧ (State.releaseBoundary s p).trk = s.trk ∧
    (State.releaseBoundary s p).otp = s.otp ∧ (State.releaseBoundary s p).bist = s.bist ∧ (State.releaseBoundary s p).cvus = s.cvus ∧
    (State.releaseBoundary s p).cpl = s.cpl ∧ (State.releaseBoundary s p).rcr = s.rcr ∧ (State.releaseBoundary s p).log = s.log ∧
    (State.releaseBoundary s p).fresh = s.fresh ∧ (State.releaseBoundary s p).pending = s.pending := by
  and_intros <;> (unfold State.releaseBoundary; simp)

@[simp ↓] theorem State.edgeBoundary_keeps (s : State) :
    (State.edgeBoundary s).clk = s.clk ∧ (State.edgeBoundary s).pwr = s.pwr ∧ (State.edgeBoundary s).sup = s.sup ∧
    (State.edgeBoundary s).lot = s.lot ∧ (State.edgeBoundary s).nmt = s.nmt ∧ (State.edgeBoundary s).sle = s.sle ∧
    (State.edgeBoundary s).sin = s.sin ∧ (State.edgeBoundary s).sout.w8 = s.sout.w8 ∧ (State.edgeBoundary s).tmu = s.tmu ∧
    (State.edgeBoundary s).aaq = s.aaq ∧ (State.edgeBoundary s).hpo = s.hpo ∧ (State.edgeBoundary s).trk = s.trk ∧
    (State.edgeBoundary s).otp = s.otp ∧ (State.edgeBoundary s).bist = s.bist ∧ (State.edgeBoundary s).cvus = s.cvus ∧
    (State.edgeBoundary s).cpl = s.cpl ∧ (State.edgeBoundary s).rcr = s.rcr ∧ (State.edgeBoundary s).log = s.log ∧
    (State.edgeBoundary s).fresh = s.fresh ∧ (State.edgeBoundary s).pending = s.pending := by
  and_intros <;> (unfold State.edgeBoundary; first | (with_reducible rfl) | (simp; done) | (repeat' (first | (simp; done) | split)))

@[simp ↓] theorem State.endTests_keeps (s : State) (g : Nat) :
    (State.endTests s g).clk = s.clk ∧ (State.endTests s g).pwr = s.pwr ∧ (State.endTests s g).sup = s.sup ∧
    (State.endTests s g).lot = s.lot ∧ (State.endTests s g).nmt = s.nmt ∧ (State.endTests s g).sle = s.sle ∧
    (State.endTests s g).sin = s.sin ∧ (State.endTests s g).sout.w8 = s.sout.w8 ∧ (State.endTests s g).tmu = s.tmu ∧
    (State.endTests s g).aaq = s.aaq ∧ (State.endTests s g).hpo = s.hpo ∧ (State.endTests s g).trk = s.trk ∧
    (State.endTests s g).otp = s.otp ∧ (State.endTests s g).bist = s.bist ∧ (State.endTests s g).cvus = s.cvus ∧
    (State.endTests s g).cpl = s.cpl ∧ (State.endTests s g).rcr = s.rcr ∧ (State.endTests s g).log = s.log ∧
    (State.endTests s g).fresh = s.fresh ∧ (State.endTests s g).pending = s.pending := by
  and_intros <;> (unfold State.endTests; with_reducible rfl)

@[simp ↓] theorem State.entryCutOff_keeps (s : State) :
    (State.entryCutOff s).clk = s.clk ∧ (State.entryCutOff s).pwr = s.pwr ∧ (State.entryCutOff s).sup = s.sup ∧
    (State.entryCutOff s).lot = s.lot ∧ (State.entryCutOff s).nmt = s.nmt ∧ (State.entryCutOff s).sle = s.sle ∧
    (State.entryCutOff s).sin = s.sin ∧ (State.entryCutOff s).sout.w8 = s.sout.w8 ∧ (State.entryCutOff s).tmu = s.tmu ∧
    (State.entryCutOff s).aaq = s.aaq ∧ (State.entryCutOff s).hpo = s.hpo ∧ (State.entryCutOff s).trk = s.trk ∧
    (State.entryCutOff s).otp = s.otp ∧ (State.entryCutOff s).bist = s.bist ∧ (State.entryCutOff s).cvus = s.cvus ∧
    (State.entryCutOff s).cpl = s.cpl ∧ (State.entryCutOff s).rcr = s.rcr ∧ (State.entryCutOff s).log = s.log ∧
    (State.entryCutOff s).fresh = s.fresh ∧ (State.entryCutOff s).pending = s.pending := by
  and_intros <;> (unfold State.entryCutOff; simp)

@[simp ↓] theorem State.soutStart_keeps (s : State) :
    (State.soutStart s).clk = s.clk ∧ (State.soutStart s).pwr = s.pwr ∧ (State.soutStart s).sup = s.sup ∧
    (State.soutStart s).lot = s.lot ∧ (State.soutStart s).nmt = s.nmt ∧ (State.soutStart s).sle = s.sle ∧
    (State.soutStart s).sin = s.sin ∧ (State.soutStart s).tmu = s.tmu ∧ (State.soutStart s).aaq = s.aaq ∧
    (State.soutStart s).hpo = s.hpo ∧ (State.soutStart s).trk = s.trk ∧ (State.soutStart s).otp = s.otp ∧
    (State.soutStart s).bist = s.bist ∧ (State.soutStart s).cvus = s.cvus ∧ (State.soutStart s).cpl = s.cpl ∧
    (State.soutStart s).rcr = s.rcr ∧ (State.soutStart s).log = s.log ∧ (State.soutStart s).fresh = s.fresh ∧
    (State.soutStart s).pending = s.pending := by
  and_intros <;> (unfold State.soutStart; simp)

@[simp ↓] theorem State.takeW8_keeps (s : State) (v : Lanes) (q : Nat) (role : Role) :
    (State.takeW8 s v q role).clk = s.clk ∧ (State.takeW8 s v q role).pwr = s.pwr ∧ (State.takeW8 s v q role).sup = s.sup ∧
    (State.takeW8 s v q role).lot = s.lot ∧ (State.takeW8 s v q role).nmt = s.nmt ∧ (State.takeW8 s v q role).sle = s.sle ∧
    (State.takeW8 s v q role).sin = s.sin ∧ (State.takeW8 s v q role).tmu = s.tmu ∧ (State.takeW8 s v q role).aaq = s.aaq ∧
    (State.takeW8 s v q role).hpo = s.hpo ∧ (State.takeW8 s v q role).trk = s.trk ∧ (State.takeW8 s v q role).otp = s.otp ∧
    (State.takeW8 s v q role).bist = s.bist ∧ (State.takeW8 s v q role).cvus = s.cvus ∧ (State.takeW8 s v q role).cpl = s.cpl ∧
    (State.takeW8 s v q role).rcr = s.rcr ∧ (State.takeW8 s v q role).log = s.log ∧ (State.takeW8 s v q role).fresh = s.fresh ∧
    (State.takeW8 s v q role).pending = s.pending := by
  and_intros <;> (unfold State.takeW8; simp)

end Sys2Proof.Machine
end

