-- ==== Sys2Proof/Laws/TimingOps.lean ====
section
/-! SUPPORT. What the operations of Machine/TimingOps.lean leave alone: for each, every part of the state that it keeps. -/

namespace Sys2Proof.Machine

@[simp ↓] theorem State.setTc_keeps (s : State) (c : Nat) (t : TChan) :
    (State.setTc s c t).clk = s.clk ∧ (State.setTc s c t).pwr = s.pwr ∧ (State.setTc s c t).sup = s.sup ∧
    (State.setTc s c t).lot = s.lot ∧ (State.setTc s c t).nmt = s.nmt ∧ (State.setTc s c t).sle = s.sle ∧
    (State.setTc s c t).sin = s.sin ∧ (State.setTc s c t).sout = s.sout ∧ (State.setTc s c t).tmu.swatch = s.tmu.swatch ∧
    (State.setTc s c t).aaq = s.aaq ∧ (State.setTc s c t).hpo = s.hpo ∧ (State.setTc s c t).trk = s.trk ∧
    (State.setTc s c t).otp = s.otp ∧ (State.setTc s c t).bist = s.bist ∧ (State.setTc s c t).cvus = s.cvus ∧
    (State.setTc s c t).cpl = s.cpl ∧ (State.setTc s c t).log = s.log ∧ (State.setTc s c t).fresh = s.fresh ∧
    (State.setTc s c t).pending = s.pending := by
  and_intros <;> (unfold State.setTc; simp)

@[simp ↓] theorem State.tmuPass_keeps (s : State) (wake : Bool) (old init : List (Nat × Nat)) (cap : TChan → Option Nat) :
    (State.tmuPass s wake old init cap).1.clk = s.clk ∧ (State.tmuPass s wake old init cap).1.pwr = s.pwr ∧
    (State.tmuPass s wake old init cap).1.sup = s.sup ∧ (State.tmuPass s wake old init cap).1.lot = s.lot ∧
    (State.tmuPass s wake old init cap).1.nmt = s.nmt ∧ (State.tmuPass s wake old init cap).1.sle = s.sle ∧
    (State.tmuPass s wake old init cap).1.sin = s.sin ∧ (State.tmuPass s wake old init cap).1.sout = s.sout ∧
    (State.tmuPass s wake old init cap).1.tmu.swatch = s.tmu.swatch ∧ (State.tmuPass s wake old init cap).1.aaq = s.aaq ∧
    (State.tmuPass s wake old init cap).1.hpo = s.hpo ∧ (State.tmuPass s wake old init cap).1.trk = s.trk ∧
    (State.tmuPass s wake old init cap).1.otp = s.otp ∧ (State.tmuPass s wake old init cap).1.bist = s.bist ∧
    (State.tmuPass s wake old init cap).1.cvus = s.cvus ∧ (State.tmuPass s wake old init cap).1.cpl = s.cpl ∧
    (State.tmuPass s wake old init cap).1.log = s.log ∧ (State.tmuPass s wake old init cap).1.fresh = s.fresh ∧
    (State.tmuPass s wake old init cap).1.pending = s.pending := by
  exact ⟨by first | (unfold State.tmuPass; (try dsimp only); simp; done) | (unfold State.tmuPass; (try dsimp only); (repeat' (first | (simp; done) | (with_reducible refine (foldl_keep (fun z : State => z.clk) _ (fun a x => ?_) _ _).trans ?_ <;> (try dsimp only)) | (with_reducible refine (foldl_keep (fun z : State × _ => z.1.clk) _ (fun a x => ?_) _ _).trans ?_ <;> (try dsimp only)) | split))),
    by first | (unfold State.tmuPass; (try dsimp only); simp; done) | (unfold State.tmuPass; (try dsimp only); (repeat' (first | (simp; done) | (with_reducible refine (foldl_keep (fun z : State => z.pwr) _ (fun a x => ?_) _ _).trans ?_ <;> (try dsimp only)) | (with_reducible refine (foldl_keep (fun z : State × _ => z.1.pwr) _ (fun a x => ?_) _ _).trans ?_ <;> (try dsimp only)) | split))),
    by first | (unfold State.tmuPass; (try dsimp only); simp; done) | (unfold State.tmuPass; (try dsimp only); (repeat' (first | (simp; done) | (with_reducible refine (foldl_keep (fun z : State => z.sup) _ (fun a x => ?_) _ _).trans ?_ <;> (try dsimp only)) | (with_reducible refine (foldl_keep (fun z : State × _ => z.1.sup) _ (fun a x => ?_) _ _).trans ?_ <;> (try dsimp only)) | split))),
    by first | (unfold State.tmuPass; (try dsimp only); simp; done) | (unfold State.tmuPass; (try dsimp only); (repeat' (first | (simp; done) | (with_reducible refine (foldl_keep (fun z : State => z.lot) _ (fun a x => ?_) _ _).trans ?_ <;> (try dsimp only)) | (with_reducible refine (foldl_keep (fun z : State × _ => z.1.lot) _ (fun a x => ?_) _ _).trans ?_ <;> (try dsimp only)) | split))),
    by first | (unfold State.tmuPass; (try dsimp only); simp; done) | (unfold State.tmuPass; (try dsimp only); (repeat' (first | (simp; done) | (with_reducible refine (foldl_keep (fun z : State => z.nmt) _ (fun a x => ?_) _ _).trans ?_ <;> (try dsimp only)) | (with_reducible refine (foldl_keep (fun z : State × _ => z.1.nmt) _ (fun a x => ?_) _ _).trans ?_ <;> (try dsimp only)) | split))),
    by first | (unfold State.tmuPass; (try dsimp only); simp; done) | (unfold State.tmuPass; (try dsimp only); (repeat' (first | (simp; done) | (with_reducible refine (foldl_keep (fun z : State => z.sle) _ (fun a x => ?_) _ _).trans ?_ <;> (try dsimp only)) | (with_reducible refine (foldl_keep (fun z : State × _ => z.1.sle) _ (fun a x => ?_) _ _).trans ?_ <;> (try dsimp only)) | split))),
    by first | (unfold State.tmuPass; (try dsimp only); simp; done) | (unfold State.tmuPass; (try dsimp only); (repeat' (first | (simp; done) | (with_reducible refine (foldl_keep (fun z : State => z.sin) _ (fun a x => ?_) _ _).trans ?_ <;> (try dsimp only)) | (with_reducible refine (foldl_keep (fun z : State × _ => z.1.sin) _ (fun a x => ?_) _ _).trans ?_ <;> (try dsimp only)) | split))),
    by first | (unfold State.tmuPass; (try dsimp only); simp; done) | (unfold State.tmuPass; (try dsimp only); (repeat' (first | (simp; done) | (with_reducible refine (foldl_keep (fun z : State => z.sout) _ (fun a x => ?_) _ _).trans ?_ <;> (try dsimp only)) | (with_reducible refine (foldl_keep (fun z : State × _ => z.1.sout) _ (fun a x => ?_) _ _).trans ?_ <;> (try dsimp only)) | split))),
    by first | (unfold State.tmuPass; (try dsimp only); simp; done) | (unfold State.tmuPass; (try dsimp only); (repeat' (first | (simp; done) | (with_reducible refine (foldl_keep (fun z : State => z.tmu.swatch) _ (fun a x => ?_) _ _).trans ?_ <;> (try dsimp only)) | (with_reducible refine (foldl_keep (fun z : State × _ => z.1.tmu.swatch) _ (fun a x => ?_) _ _).trans ?_ <;> (try dsimp only)) | split))),
    by first | (unfold State.tmuPass; (try dsimp only); simp; done) | (unfold State.tmuPass; (try dsimp only); (repeat' (first | (simp; done) | (with_reducible refine (foldl_keep (fun z : State => z.aaq) _ (fun a x => ?_) _ _).trans ?_ <;> (try dsimp only)) | (with_reducible refine (foldl_keep (fun z : State × _ => z.1.aaq) _ (fun a x => ?_) _ _).trans ?_ <;> (try dsimp only)) | split))),
    by first | (unfold State.tmuPass; (try dsimp only); simp; done) | (unfold State.tmuPass; (try dsimp only); (repeat' (first | (simp; done) | (with_reducible refine (foldl_keep (fun z : State => z.hpo) _ (fun a x => ?_) _ _).trans ?_ <;> (try dsimp only)) | (with_reducible refine (foldl_keep (fun z : State × _ => z.1.hpo) _ (fun a x => ?_) _ _).trans ?_ <;> (try dsimp only)) | split))),
    by first | (unfold State.tmuPass; (try dsimp only); simp; done) | (unfold State.tmuPass; (try dsimp only); (repeat' (first | (simp; done) | (with_reducible refine (foldl_keep (fun z : State => z.trk) _ (fun a x => ?_) _ _).trans ?_ <;> (try dsimp only)) | (with_reducible refine (foldl_keep (fun z : State × _ => z.1.trk) _ (fun a x => ?_) _ _).trans ?_ <;> (try dsimp only)) | split))),
    by first | (unfold State.tmuPass; (try dsimp only); simp; done) | (unfold State.tmuPass; (try dsimp only); (repeat' (first | (simp; done) | (with_reducible refine (foldl_keep (fun z : State => z.otp) _ (fun a x => ?_) _ _).trans ?_ <;> (try dsimp only)) | (with_reducible refine (foldl_keep (fun z : State × _ => z.1.otp) _ (fun a x => ?_) _ _).trans ?_ <;> (try dsimp only)) | split))),
    by first | (unfold State.tmuPass; (try dsimp only); simp; done) | (unfold State.tmuPass; (try dsimp only); (repeat' (first | (simp; done) | (with_reducible refine (foldl_keep (fun z : State => z.bist) _ (fun a x => ?_) _ _).trans ?_ <;> (try dsimp only)) | (with_reducible refine (foldl_keep (fun z : State × _ => z.1.bist) _ (fun a x => ?_) _ _).trans ?_ <;> (try dsimp only)) | split))),
    by first | (unfold State.tmuPass; (try dsimp only); simp; done) | (unfold State.tmuPass; (try dsimp only); (repeat' (first | (simp; done) | (with_reducible refine (foldl_keep (fun z : State => z.cvus) _ (fun a x => ?_) _ _).trans ?_ <;> (try dsimp only)) | (with_reducible refine (foldl_keep (fun z : State × _ => z.1.cvus) _ (fun a x => ?_) _ _).trans ?_ <;> (try dsimp only)) | split))),
    by first | (unfold State.tmuPass; (try dsimp only); simp; done) | (unfold State.tmuPass; (try dsimp only); (repeat' (first | (simp; done) | (with_reducible refine (foldl_keep (fun z : State => z.cpl) _ (fun a x => ?_) _ _).trans ?_ <;> (try dsimp only)) | (with_reducible refine (foldl_keep (fun z : State × _ => z.1.cpl) _ (fun a x => ?_) _ _).trans ?_ <;> (try dsimp only)) | split))),
    by first | (unfold State.tmuPass; (try dsimp only); simp; done) | (unfold State.tmuPass; (try dsimp only); (repeat' (first | (simp; done) | (with_reducible refine (foldl_keep (fun z : State => z.log) _ (fun a x => ?_) _ _).trans ?_ <;> (try dsimp only)) | (with_reducible refine (foldl_keep (fun z : State × _ => z.1.log) _ (fun a x => ?_) _ _).trans ?_ <;> (try dsimp only)) | split))),
    by first | (unfold State.tmuPass; (try dsimp only); simp; done) | (unfold State.tmuPass; (try dsimp only); (repeat' (first | (simp; done) | (with_reducible refine (foldl_keep (fun z : State => z.fresh) _ (fun a x => ?_) _ _).trans ?_ <;> (try dsimp only)) | (with_reducible refine (foldl_keep (fun z : State × _ => z.1.fresh) _ (fun a x => ?_) _ _).trans ?_ <;> (try dsimp only)) | split))),
    by first | (unfold State.tmuPass; (try dsimp only); simp; done) | (unfold State.tmuPass; (try dsimp only); (repeat' (first | (simp; done) | (with_reducible refine (foldl_keep (fun z : State => z.pending) _ (fun a x => ?_) _ _).trans ?_ <;> (try dsimp only)) | (with_reducible refine (foldl_keep (fun z : State × _ => z.1.pending) _ (fun a x => ?_) _ _).trans ?_ <;> (try dsimp only)) | split)))⟩

@[simp ↓] theorem State.tmuAgain_keeps (s : State) (old : List (Nat × Nat)) :
    (State.tmuAgain s old).1.clk = s.clk ∧ (State.tmuAgain s old).1.pwr = s.pwr ∧ (State.tmuAgain s old).1.sup = s.sup ∧
    (State.tmuAgain s old).1.lot = s.lot ∧ (State.tmuAgain s old).1.nmt = s.nmt ∧ (State.tmuAgain s old).1.sle = s.sle ∧
    (State.tmuAgain s old).1.sin = s.sin ∧ (State.tmuAgain s old).1.sout = s.sout ∧ (State.tmuAgain s old).1.tmu.swatch = s.tmu.swatch ∧
    (State.tmuAgain s old).1.aaq = s.aaq ∧ (State.tmuAgain s old).1.hpo = s.hpo ∧ (State.tmuAgain s old).1.trk = s.trk ∧
    (State.tmuAgain s old).1.otp = s.otp ∧ (State.tmuAgain s old).1.bist = s.bist ∧ (State.tmuAgain s old).1.cvus = s.cvus ∧
    (State.tmuAgain s old).1.cpl = s.cpl ∧ (State.tmuAgain s old).1.log = s.log ∧ (State.tmuAgain s old).1.fresh = s.fresh ∧
    (State.tmuAgain s old).1.pending = s.pending := by
  and_intros <;> (unfold State.tmuAgain; first | (with_reducible rfl) | (simp; done) | (repeat' (first | (simp; done) | split)))

@[simp ↓] theorem State.tmuMore_keeps (s : State) (old : List (Nat × Nat)) :
    (State.tmuMore s old).clk = s.clk ∧ (State.tmuMore s old).pwr = s.pwr ∧ (State.tmuMore s old).sup = s.sup ∧
    (State.tmuMore s old).lot = s.lot ∧ (State.tmuMore s old).nmt = s.nmt ∧ (State.tmuMore s old).sle = s.sle ∧
    (State.tmuMore s old).sin = s.sin ∧ (State.tmuMore s old).sout = s.sout ∧ (State.tmuMore s old).tmu.swatch = s.tmu.swatch ∧
    (State.tmuMore s old).aaq = s.aaq ∧ (State.tmuMore s old).hpo = s.hpo ∧ (State.tmuMore s old).trk = s.trk ∧
    (State.tmuMore s old).otp = s.otp ∧ (State.tmuMore s old).bist = s.bist ∧ (State.tmuMore s old).cvus = s.cvus ∧
    (State.tmuMore s old).cpl = s.cpl ∧ (State.tmuMore s old).log = s.log ∧ (State.tmuMore s old).fresh = s.fresh ∧
    (State.tmuMore s old).pending = s.pending := by
  exact ⟨by first | (unfold State.tmuMore; (try dsimp only); simp; done) | (unfold State.tmuMore; (try dsimp only); (repeat' (first | (simp; done) | (with_reducible refine (foldl_keep (fun z : State => z.clk) _ (fun a x => ?_) _ _).trans ?_ <;> (try dsimp only)) | (with_reducible refine (foldl_keep (fun z : State × _ => z.1.clk) _ (fun a x => ?_) _ _).trans ?_ <;> (try dsimp only)) | split))),
    by first | (unfold State.tmuMore; (try dsimp only); simp; done) | (unfold State.tmuMore; (try dsimp only); (repeat' (first | (simp; done) | (with_reducible refine (foldl_keep (fun z : State => z.pwr) _ (fun a x => ?_) _ _).trans ?_ <;> (try dsimp only)) | (with_reducible refine (foldl_keep (fun z : State × _ => z.1.pwr) _ (fun a x => ?_) _ _).trans ?_ <;> (try dsimp only)) | split))),
    by first | (unfold State.tmuMore; (try dsimp only); simp; done) | (unfold State.tmuMore; (try dsimp only); (repeat' (first | (simp; done) | (with_reducible refine (foldl_keep (fun z : State => z.sup) _ (fun a x => ?_) _ _).trans ?_ <;> (try dsimp only)) | (with_reducible refine (foldl_keep (fun z : State × _ => z.1.sup) _ (fun a x => ?_) _ _).trans ?_ <;> (try dsimp only)) | split))),
    by first | (unfold State.tmuMore; (try dsimp only); simp; done) | (unfold State.tmuMore; (try dsimp only); (repeat' (first | (simp; done) | (with_reducible refine (foldl_keep (fun z : State => z.lot) _ (fun a x => ?_) _ _).trans ?_ <;> (try dsimp only)) | (with_reducible refine (foldl_keep (fun z : State × _ => z.1.lot) _ (fun a x => ?_) _ _).trans ?_ <;> (try dsimp only)) | split))),
    by first | (unfold State.tmuMore; (try dsimp only); simp; done) | (unfold State.tmuMore; (try dsimp only); (repeat' (first | (simp; done) | (with_reducible refine (foldl_keep (fun z : State => z.nmt) _ (fun a x => ?_) _ _).trans ?_ <;> (try dsimp only)) | (with_reducible refine (foldl_keep (fun z : State × _ => z.1.nmt) _ (fun a x => ?_) _ _).trans ?_ <;> (try dsimp only)) | split))),
    by first | (unfold State.tmuMore; (try dsimp only); simp; done) | (unfold State.tmuMore; (try dsimp only); (repeat' (first | (simp; done) | (with_reducible refine (foldl_keep (fun z : State => z.sle) _ (fun a x => ?_) _ _).trans ?_ <;> (try dsimp only)) | (with_reducible refine (foldl_keep (fun z : State × _ => z.1.sle) _ (fun a x => ?_) _ _).trans ?_ <;> (try dsimp only)) | split))),
    by first | (unfold State.tmuMore; (try dsimp only); simp; done) | (unfold State.tmuMore; (try dsimp only); (repeat' (first | (simp; done) | (with_reducible refine (foldl_keep (fun z : State => z.sin) _ (fun a x => ?_) _ _).trans ?_ <;> (try dsimp only)) | (with_reducible refine (foldl_keep (fun z : State × _ => z.1.sin) _ (fun a x => ?_) _ _).trans ?_ <;> (try dsimp only)) | split))),
    by first | (unfold State.tmuMore; (try dsimp only); simp; done) | (unfold State.tmuMore; (try dsimp only); (repeat' (first | (simp; done) | (with_reducible refine (foldl_keep (fun z : State => z.sout) _ (fun a x => ?_) _ _).trans ?_ <;> (try dsimp only)) | (with_reducible refine (foldl_keep (fun z : State × _ => z.1.sout) _ (fun a x => ?_) _ _).trans ?_ <;> (try dsimp only)) | split))),
    by first | (unfold State.tmuMore; (try dsimp only); simp; done) | (unfold State.tmuMore; (try dsimp only); (repeat' (first | (simp; done) | (with_reducible refine (foldl_keep (fun z : State => z.tmu.swatch) _ (fun a x => ?_) _ _).trans ?_ <;> (try dsimp only)) | (with_reducible refine (foldl_keep (fun z : State × _ => z.1.tmu.swatch) _ (fun a x => ?_) _ _).trans ?_ <;> (try dsimp only)) | split))),
    by first | (unfold State.tmuMore; (try dsimp only); simp; done) | (unfold State.tmuMore; (try dsimp only); (repeat' (first | (simp; done) | (with_reducible refine (foldl_keep (fun z : State => z.aaq) _ (fun a x => ?_) _ _).trans ?_ <;> (try dsimp only)) | (with_reducible refine (foldl_keep (fun z : State × _ => z.1.aaq) _ (fun a x => ?_) _ _).trans ?_ <;> (try dsimp only)) | split))),
    by first | (unfold State.tmuMore; (try dsimp only); simp; done) | (unfold State.tmuMore; (try dsimp only); (repeat' (first | (simp; done) | (with_reducible refine (foldl_keep (fun z : State => z.hpo) _ (fun a x => ?_) _ _).trans ?_ <;> (try dsimp only)) | (with_reducible refine (foldl_keep (fun z : State × _ => z.1.hpo) _ (fun a x => ?_) _ _).trans ?_ <;> (try dsimp only)) | split))),
    by first | (unfold State.tmuMore; (try dsimp only); simp; done) | (unfold State.tmuMore; (try dsimp only); (repeat' (first | (simp; done) | (with_reducible refine (foldl_keep (fun z : State => z.trk) _ (fun a x => ?_) _ _).trans ?_ <;> (try dsimp only)) | (with_reducible refine (foldl_keep (fun z : State × _ => z.1.trk) _ (fun a x => ?_) _ _).trans ?_ <;> (try dsimp only)) | split))),
    by first | (unfold State.tmuMore; (try dsimp only); simp; done) | (unfold State.tmuMore; (try dsimp only); (repeat' (first | (simp; done) | (with_reducible refine (foldl_keep (fun z : State => z.otp) _ (fun a x => ?_) _ _).trans ?_ <;> (try dsimp only)) | (with_reducible refine (foldl_keep (fun z : State × _ => z.1.otp) _ (fun a x => ?_) _ _).trans ?_ <;> (try dsimp only)) | split))),
    by first | (unfold State.tmuMore; (try dsimp only); simp; done) | (unfold State.tmuMore; (try dsimp only); (repeat' (first | (simp; done) | (with_reducible refine (foldl_keep (fun z : State => z.bist) _ (fun a x => ?_) _ _).trans ?_ <;> (try dsimp only)) | (with_reducible refine (foldl_keep (fun z : State × _ => z.1.bist) _ (fun a x => ?_) _ _).trans ?_ <;> (try dsimp only)) | split))),
    by first | (unfold State.tmuMore; (try dsimp only); simp; done) | (unfold State.tmuMore; (try dsimp only); (repeat' (first | (simp; done) | (with_reducible refine (foldl_keep (fun z : State => z.cvus) _ (fun a x => ?_) _ _).trans ?_ <;> (try dsimp only)) | (with_reducible refine (foldl_keep (fun z : State × _ => z.1.cvus) _ (fun a x => ?_) _ _).trans ?_ <;> (try dsimp only)) | split))),
    by first | (unfold State.tmuMore; (try dsimp only); simp; done) | (unfold State.tmuMore; (try dsimp only); (repeat' (first | (simp; done) | (with_reducible refine (foldl_keep (fun z : State => z.cpl) _ (fun a x => ?_) _ _).trans ?_ <;> (try dsimp only)) | (with_reducible refine (foldl_keep (fun z : State × _ => z.1.cpl) _ (fun a x => ?_) _ _).trans ?_ <;> (try dsimp only)) | split))),
    by first | (unfold State.tmuMore; (try dsimp only); simp; done) | (unfold State.tmuMore; (try dsimp only); (repeat' (first | (simp; done) | (with_reducible refine (foldl_keep (fun z : State => z.log) _ (fun a x => ?_) _ _).trans ?_ <;> (try dsimp only)) | (with_reducible refine (foldl_keep (fun z : State × _ => z.1.log) _ (fun a x => ?_) _ _).trans ?_ <;> (try dsimp only)) | split))),
    by first | (unfold State.tmuMore; (try dsimp only); simp; done) | (unfold State.tmuMore; (try dsimp only); (repeat' (first | (simp; done) | (with_reducible refine (foldl_keep (fun z : State => z.fresh) _ (fun a x => ?_) _ _).trans ?_ <;> (try dsimp only)) | (with_reducible refine (foldl_keep (fun z : State × _ => z.1.fresh) _ (fun a x => ?_) _ _).trans ?_ <;> (try dsimp only)) | split))),
    by first | (unfold State.tmuMore; (try dsimp only); simp; done) | (unfold State.tmuMore; (try dsimp only); (repeat' (first | (simp; done) | (with_reducible refine (foldl_keep (fun z : State => z.pending) _ (fun a x => ?_) _ _).trans ?_ <;> (try dsimp only)) | (with_reducible refine (foldl_keep (fun z : State × _ => z.1.pending) _ (fun a x => ?_) _ _).trans ?_ <;> (try dsimp only)) | split)))⟩

@[simp ↓] theorem State.tmuEvents_keeps (s : State) (wake : Bool) (init : List (Nat × Nat)) (cap : TChan → Option Nat) :
    (State.tmuEvents s wake init cap).clk = s.clk ∧ (State.tmuEvents s wake init cap).pwr = s.pwr ∧
    (State.tmuEvents s wake init cap).sup = s.sup ∧ (State.tmuEvents s wake init cap).lot = s.lot ∧
    (State.tmuEvents s wake init cap).nmt = s.nmt ∧ (State.tmuEvents s wake init cap).sle = s.sle ∧
    (State.tmuEvents s wake init cap).sin = s.sin ∧ (State.tmuEvents s wake init cap).sout = s.sout ∧
    (State.tmuEvents s wake init cap).tmu.swatch = s.tmu.swatch ∧ (State.tmuEvents s wake init cap).aaq = s.aaq ∧
    (State.tmuEvents s wake init cap).hpo = s.hpo ∧ (State.tmuEvents s wake init cap).trk = s.trk ∧
    (State.tmuEvents s wake init cap).otp = s.otp ∧ (State.tmuEvents s wake init cap).bist = s.bist ∧
    (State.tmuEvents s wake init cap).cvus = s.cvus ∧ (State.tmuEvents s wake init cap).cpl = s.cpl ∧
    (State.tmuEvents s wake init cap).log = s.log ∧ (State.tmuEvents s wake init cap).fresh = s.fresh ∧
    (State.tmuEvents s wake init cap).pending = s.pending := by
  and_intros <;> (unfold State.tmuEvents; simp)

@[simp ↓] theorem State.tmuTick_keeps (s : State) (init : List (Nat × Nat)) (cap : TChan → Option Nat) :
    (State.tmuTick s init cap).clk = s.clk ∧ (State.tmuTick s init cap).pwr = s.pwr ∧ (State.tmuTick s init cap).sup = s.sup ∧
    (State.tmuTick s init cap).lot = s.lot ∧ (State.tmuTick s init cap).nmt = s.nmt ∧ (State.tmuTick s init cap).sle = s.sle ∧
    (State.tmuTick s init cap).sin = s.sin ∧ (State.tmuTick s init cap).sout = s.sout ∧
    (State.tmuTick s init cap).tmu.swatch = s.tmu.swatch ∧ (State.tmuTick s init cap).aaq = s.aaq ∧
    (State.tmuTick s init cap).hpo = s.hpo ∧ (State.tmuTick s init cap).trk = s.trk ∧ (State.tmuTick s init cap).otp = s.otp ∧
    (State.tmuTick s init cap).bist = s.bist ∧ (State.tmuTick s init cap).cvus = s.cvus ∧ (State.tmuTick s init cap).cpl = s.cpl ∧
    (State.tmuTick s init cap).log = s.log ∧ (State.tmuTick s init cap).fresh = s.fresh ∧ (State.tmuTick s init cap).pending = s.pending := by
  and_intros <;> (unfold State.tmuTick; simp)

@[simp ↓] theorem State.tmuDue_keeps (s : State) :
    (State.tmuDue s).clk = s.clk ∧ (State.tmuDue s).pwr = s.pwr ∧ (State.tmuDue s).sup = s.sup ∧ (State.tmuDue s).lot = s.lot ∧
    (State.tmuDue s).nmt = s.nmt ∧ (State.tmuDue s).sle = s.sle ∧ (State.tmuDue s).sin = s.sin ∧ (State.tmuDue s).sout = s.sout ∧
    (State.tmuDue s).tmu.swatch = s.tmu.swatch ∧ (State.tmuDue s).aaq = s.aaq ∧ (State.tmuDue s).hpo = s.hpo ∧
    (State.tmuDue s).trk = s.trk ∧ (State.tmuDue s).otp = s.otp ∧ (State.tmuDue s).bist = s.bist ∧ (State.tmuDue s).cvus = s.cvus ∧
    (State.tmuDue s).cpl = s.cpl ∧ (State.tmuDue s).log = s.log ∧ (State.tmuDue s).fresh = s.fresh ∧ (State.tmuDue s).pending = s.pending := by
  and_intros <;> (unfold State.tmuDue; simp)

@[simp ↓] theorem State.tmuPut_keeps (s : State) (c : Nat) (r : TChan × Option Nat) :
    (State.tmuPut s c r).clk = s.clk ∧ (State.tmuPut s c r).pwr = s.pwr ∧ (State.tmuPut s c r).sup = s.sup ∧
    (State.tmuPut s c r).lot = s.lot ∧ (State.tmuPut s c r).nmt = s.nmt ∧ (State.tmuPut s c r).sle = s.sle ∧
    (State.tmuPut s c r).sin = s.sin ∧ (State.tmuPut s c r).sout = s.sout ∧ (State.tmuPut s c r).tmu.swatch = s.tmu.swatch ∧
    (State.tmuPut s c r).aaq = s.aaq ∧ (State.tmuPut s c r).hpo = s.hpo ∧ (State.tmuPut s c r).trk = s.trk ∧
    (State.tmuPut s c r).otp = s.otp ∧ (State.tmuPut s c r).bist = s.bist ∧ (State.tmuPut s c r).cvus = s.cvus ∧
    (State.tmuPut s c r).cpl = s.cpl ∧ (State.tmuPut s c r).log = s.log ∧ (State.tmuPut s c r).fresh = s.fresh ∧
    (State.tmuPut s c r).pending = s.pending := by
  and_intros <;> (unfold State.tmuPut; first | (with_reducible rfl) | (simp; done) | (repeat' (first | (simp; done) | split)))

@[simp ↓] theorem State.tmuArm_keeps (s : State) (c : Nat) (f : TChan → TChan) :
    (State.tmuArm s c f).clk = s.clk ∧ (State.tmuArm s c f).pwr = s.pwr ∧ (State.tmuArm s c f).sup = s.sup ∧
    (State.tmuArm s c f).lot = s.lot ∧ (State.tmuArm s c f).nmt = s.nmt ∧ (State.tmuArm s c f).sle = s.sle ∧
    (State.tmuArm s c f).sin = s.sin ∧ (State.tmuArm s c f).sout = s.sout ∧ (State.tmuArm s c f).tmu.swatch = s.tmu.swatch ∧
    (State.tmuArm s c f).aaq = s.aaq ∧ (State.tmuArm s c f).hpo = s.hpo ∧ (State.tmuArm s c f).trk = s.trk ∧
    (State.tmuArm s c f).otp = s.otp ∧ (State.tmuArm s c f).bist = s.bist ∧ (State.tmuArm s c f).cvus = s.cvus ∧
    (State.tmuArm s c f).cpl = s.cpl ∧ (State.tmuArm s c f).log = s.log ∧ (State.tmuArm s c f).fresh = s.fresh ∧
    (State.tmuArm s c f).pending = s.pending := by
  and_intros <;> (unfold State.tmuArm; simp)

@[simp ↓] theorem State.tmuCapture_keeps (s : State) (sel : TChan → Bool) (v : Nat) :
    (State.tmuCapture s sel v).clk = s.clk ∧ (State.tmuCapture s sel v).pwr = s.pwr ∧ (State.tmuCapture s sel v).sup = s.sup ∧
    (State.tmuCapture s sel v).lot = s.lot ∧ (State.tmuCapture s sel v).nmt = s.nmt ∧ (State.tmuCapture s sel v).sle = s.sle ∧
    (State.tmuCapture s sel v).sin = s.sin ∧ (State.tmuCapture s sel v).sout = s.sout ∧
    (State.tmuCapture s sel v).tmu.swatch = s.tmu.swatch ∧ (State.tmuCapture s sel v).aaq = s.aaq ∧
    (State.tmuCapture s sel v).hpo = s.hpo ∧ (State.tmuCapture s sel v).trk = s.trk ∧ (State.tmuCapture s sel v).otp = s.otp ∧
    (State.tmuCapture s sel v).bist = s.bist ∧ (State.tmuCapture s sel v).cvus = s.cvus ∧ (State.tmuCapture s sel v).cpl = s.cpl ∧
    (State.tmuCapture s sel v).log = s.log ∧ (State.tmuCapture s sel v).fresh = s.fresh ∧ (State.tmuCapture s sel v).pending = s.pending := by
  and_intros <;> (unfold State.tmuCapture; simp)

@[simp ↓] theorem State.captureInput_keeps (s : State) (n : Nat) (level : Bool) :
    (State.captureInput s n level).clk = s.clk ∧ (State.captureInput s n level).pwr = s.pwr ∧
    (State.captureInput s n level).sup = s.sup ∧ (State.captureInput s n level).lot = s.lot ∧
    (State.captureInput s n level).nmt = s.nmt ∧ (State.captureInput s n level).sle = s.sle ∧
    (State.captureInput s n level).sin = s.sin ∧ (State.captureInput s n level).sout = s.sout ∧
    (State.captureInput s n level).tmu.swatch = s.tmu.swatch ∧ (State.captureInput s n level).aaq = s.aaq ∧
    (State.captureInput s n level).hpo = s.hpo ∧ (State.captureInput s n level).trk = s.trk ∧
    (State.captureInput s n level).otp = s.otp ∧ (State.captureInput s n level).bist = s.bist ∧
    (State.captureInput s n level).cvus = s.cvus ∧ (State.captureInput s n level).cpl = s.cpl ∧
    (State.captureInput s n level).log = s.log ∧ (State.captureInput s n level).fresh = s.fresh ∧
    (State.captureInput s n level).pending = s.pending := by
  and_intros <;> (unfold State.captureInput; simp)

@[simp ↓] theorem State.armLane_keeps (s : State) (p : Nat) (e : ChEntry) :
    (State.armLane s p e).clk = s.clk ∧ (State.armLane s p e).pwr = s.pwr ∧ (State.armLane s p e).sup = s.sup ∧
    (State.armLane s p e).lot = s.lot ∧ (State.armLane s p e).nmt = s.nmt ∧ (State.armLane s p e).sle = s.sle ∧
    (State.armLane s p e).sin = s.sin ∧ (State.armLane s p e).sout = s.sout ∧ (State.armLane s p e).tmu.swatch = s.tmu.swatch ∧
    (State.armLane s p e).aaq = s.aaq ∧ (State.armLane s p e).hpo = s.hpo ∧ (State.armLane s p e).trk = s.trk ∧
    (State.armLane s p e).otp = s.otp ∧ (State.armLane s p e).bist = s.bist ∧ (State.armLane s p e).cvus = s.cvus ∧
    (State.armLane s p e).cpl = s.cpl ∧ (State.armLane s p e).log = s.log ∧ (State.armLane s p e).fresh = s.fresh ∧
    (State.armLane s p e).pending = s.pending := by
  and_intros <;> (unfold State.armLane; simp)

@[simp ↓] theorem State.armLanes_keeps (s : State) (p : Nat) :
    (State.armLanes s p).clk = s.clk ∧ (State.armLanes s p).pwr = s.pwr ∧ (State.armLanes s p).sup = s.sup ∧
    (State.armLanes s p).lot = s.lot ∧ (State.armLanes s p).nmt = s.nmt ∧ (State.armLanes s p).sle = s.sle ∧
    (State.armLanes s p).sin = s.sin ∧ (State.armLanes s p).sout = s.sout ∧ (State.armLanes s p).tmu.swatch = s.tmu.swatch ∧
    (State.armLanes s p).aaq = s.aaq ∧ (State.armLanes s p).hpo = s.hpo ∧ (State.armLanes s p).trk = s.trk ∧
    (State.armLanes s p).otp = s.otp ∧ (State.armLanes s p).bist = s.bist ∧ (State.armLanes s p).cvus = s.cvus ∧
    (State.armLanes s p).cpl = s.cpl ∧ (State.armLanes s p).log = s.log ∧ (State.armLanes s p).fresh = s.fresh ∧
    (State.armLanes s p).pending = s.pending := by
  and_intros <;> (unfold State.armLanes; simp)

@[simp ↓] theorem State.chansStart_keeps (s : State) :
    (State.chansStart s).clk = s.clk ∧ (State.chansStart s).pwr = s.pwr ∧ (State.chansStart s).sup = s.sup ∧
    (State.chansStart s).lot = s.lot ∧ (State.chansStart s).nmt = s.nmt ∧ (State.chansStart s).sle = s.sle ∧
    (State.chansStart s).sin = s.sin ∧ (State.chansStart s).sout = s.sout ∧ (State.chansStart s).tmu.swatch = s.tmu.swatch ∧
    (State.chansStart s).aaq = s.aaq ∧ (State.chansStart s).hpo = s.hpo ∧ (State.chansStart s).trk = s.trk ∧
    (State.chansStart s).otp = s.otp ∧ (State.chansStart s).bist = s.bist ∧ (State.chansStart s).cvus = s.cvus ∧
    (State.chansStart s).cpl = s.cpl ∧ (State.chansStart s).rcr = s.rcr ∧ (State.chansStart s).log = s.log ∧
    (State.chansStart s).fresh = s.fresh ∧ (State.chansStart s).pending = s.pending := by
  and_intros <;> (unfold State.chansStart; with_reducible rfl)

@[simp ↓] theorem State.chansWake_keeps (s : State) :
    (State.chansWake s).clk = s.clk ∧ (State.chansWake s).pwr = s.pwr ∧ (State.chansWake s).sup = s.sup ∧
    (State.chansWake s).lot = s.lot ∧ (State.chansWake s).nmt = s.nmt ∧ (State.chansWake s).sle = s.sle ∧
    (State.chansWake s).sin = s.sin ∧ (State.chansWake s).sout = s.sout ∧ (State.chansWake s).tmu.swatch = s.tmu.swatch ∧
    (State.chansWake s).aaq = s.aaq ∧ (State.chansWake s).hpo = s.hpo ∧ (State.chansWake s).trk = s.trk ∧
    (State.chansWake s).otp = s.otp ∧ (State.chansWake s).bist = s.bist ∧ (State.chansWake s).cvus = s.cvus ∧
    (State.chansWake s).cpl = s.cpl ∧ (State.chansWake s).log = s.log ∧ (State.chansWake s).fresh = s.fresh ∧
    (State.chansWake s).pending = s.pending := by
  and_intros <;> (unfold State.chansWake; simp)

@[simp ↓] theorem State.speedFault_keeps (s : State) (n code : Nat) :
    (State.speedFault s n code).clk = s.clk ∧ (State.speedFault s n code).pwr = s.pwr ∧ (State.speedFault s n code).sup = s.sup ∧
    (State.speedFault s n code).lot = s.lot ∧ (State.speedFault s n code).nmt = s.nmt ∧ (State.speedFault s n code).sle = s.sle ∧
    (State.speedFault s n code).sin = s.sin ∧ (State.speedFault s n code).sout = s.sout ∧
    (State.speedFault s n code).tmu.swatch = s.tmu.swatch ∧ (State.speedFault s n code).aaq = s.aaq ∧
    (State.speedFault s n code).hpo.reply = s.hpo.reply ∧ (State.speedFault s n code).hpo.partner = s.hpo.partner ∧
    (State.speedFault s n code).trk = s.trk ∧ (State.speedFault s n code).otp = s.otp ∧ (State.speedFault s n code).bist = s.bist ∧
    (State.speedFault s n code).cvus = s.cvus ∧ (State.speedFault s n code).cpl = s.cpl ∧ (State.speedFault s n code).rcr = s.rcr ∧
    (State.speedFault s n code).pending = s.pending := by
  and_intros <;> (unfold State.speedFault; simp)

@[simp ↓] theorem State.speedUpdate_keeps (s : State) (n : Nat) :
    (State.speedUpdate s n).clk = s.clk ∧ (State.speedUpdate s n).pwr = s.pwr ∧ (State.speedUpdate s n).sup = s.sup ∧
    (State.speedUpdate s n).lot = s.lot ∧ (State.speedUpdate s n).nmt = s.nmt ∧ (State.speedUpdate s n).sle = s.sle ∧
    (State.speedUpdate s n).sin = s.sin ∧ (State.speedUpdate s n).sout = s.sout ∧ (State.speedUpdate s n).tmu.swatch = s.tmu.swatch ∧
    (State.speedUpdate s n).aaq = s.aaq ∧ (State.speedUpdate s n).hpo.reply = s.hpo.reply ∧
    (State.speedUpdate s n).hpo.partner = s.hpo.partner ∧ (State.speedUpdate s n).trk = s.trk ∧ (State.speedUpdate s n).otp = s.otp ∧
    (State.speedUpdate s n).bist = s.bist ∧ (State.speedUpdate s n).cvus = s.cvus ∧ (State.speedUpdate s n).cpl = s.cpl ∧
    (State.speedUpdate s n).rcr = s.rcr ∧ (State.speedUpdate s n).pending = s.pending := by
  and_intros <;> (unfold State.speedUpdate; simp)

@[simp ↓] theorem State.pairUpdate_keeps (s : State) (p : Nat) :
    (State.pairUpdate s p).clk = s.clk ∧ (State.pairUpdate s p).pwr = s.pwr ∧ (State.pairUpdate s p).sup = s.sup ∧
    (State.pairUpdate s p).lot = s.lot ∧ (State.pairUpdate s p).nmt = s.nmt ∧ (State.pairUpdate s p).sle = s.sle ∧
    (State.pairUpdate s p).sin = s.sin ∧ (State.pairUpdate s p).sout = s.sout ∧ (State.pairUpdate s p).tmu.swatch = s.tmu.swatch ∧
    (State.pairUpdate s p).aaq = s.aaq ∧ (State.pairUpdate s p).hpo.reply = s.hpo.reply ∧
    (State.pairUpdate s p).hpo.partner = s.hpo.partner ∧ (State.pairUpdate s p).trk = s.trk ∧ (State.pairUpdate s p).otp = s.otp ∧
    (State.pairUpdate s p).bist = s.bist ∧ (State.pairUpdate s p).cvus = s.cvus ∧ (State.pairUpdate s p).cpl = s.cpl ∧
    (State.pairUpdate s p).rcr = s.rcr ∧ (State.pairUpdate s p).fresh = s.fresh ∧ (State.pairUpdate s p).pending = s.pending := by
  and_intros <;> (unfold State.pairUpdate; simp)

@[simp ↓] theorem State.releaseSpeeds_keeps (s : State) (serves : Nat → Bool) :
    (State.releaseSpeeds s serves).clk = s.clk ∧ (State.releaseSpeeds s serves).pwr = s.pwr ∧
    (State.releaseSpeeds s serves).sup = s.sup ∧ (State.releaseSpeeds s serves).lot = s.lot ∧
    (State.releaseSpeeds s serves).nmt = s.nmt ∧ (State.releaseSpeeds s serves).sle = s.sle ∧
    (State.releaseSpeeds s serves).sin = s.sin ∧ (State.releaseSpeeds s serves).sout = s.sout ∧
    (State.releaseSpeeds s serves).tmu.swatch = s.tmu.swatch ∧ (State.releaseSpeeds s serves).aaq = s.aaq ∧
    (State.releaseSpeeds s serves).hpo = s.hpo ∧ (State.releaseSpeeds s serves).trk = s.trk ∧
    (State.releaseSpeeds s serves).otp = s.otp ∧ (State.releaseSpeeds s serves).bist = s.bist ∧
    (State.releaseSpeeds s serves).cvus = s.cvus ∧ (State.releaseSpeeds s serves).cpl = s.cpl ∧
    (State.releaseSpeeds s serves).rcr = s.rcr ∧ (State.releaseSpeeds s serves).log = s.log ∧
    (State.releaseSpeeds s serves).fresh = s.fresh ∧ (State.releaseSpeeds s serves).pending = s.pending := by
  and_intros <;> (unfold State.releaseSpeeds; simp)

@[simp ↓] theorem State.motionRequest_keeps (s : State) (m : Nat) (lane : Bool) :
    (State.motionRequest s m lane).clk = s.clk ∧ (State.motionRequest s m lane).pwr = s.pwr ∧
    (State.motionRequest s m lane).sup = s.sup ∧ (State.motionRequest s m lane).lot = s.lot ∧
    (State.motionRequest s m lane).nmt = s.nmt ∧ (State.motionRequest s m lane).sle = s.sle ∧
    (State.motionRequest s m lane).sin = s.sin ∧ (State.motionRequest s m lane).sout = s.sout ∧
    (State.motionRequest s m lane).tmu.swatch = s.tmu.swatch ∧ (State.motionRequest s m lane).aaq = s.aaq ∧
    (State.motionRequest s m lane).hpo = s.hpo ∧ (State.motionRequest s m lane).trk = s.trk ∧
    (State.motionRequest s m lane).otp = s.otp ∧ (State.motionRequest s m lane).bist = s.bist ∧
    (State.motionRequest s m lane).cvus = s.cvus ∧ (State.motionRequest s m lane).cpl = s.cpl ∧
    (State.motionRequest s m lane).rcr = s.rcr ∧ (State.motionRequest s m lane).log = s.log ∧
    (State.motionRequest s m lane).fresh = s.fresh ∧ (State.motionRequest s m lane).pending = s.pending := by
  and_intros <;> (unfold State.motionRequest; simp)

@[simp ↓] theorem State.motionTake_keeps (s : State) (w8 : Lanes) :
    (State.motionTake s w8).clk = s.clk ∧ (State.motionTake s w8).pwr = s.pwr ∧ (State.motionTake s w8).sup = s.sup ∧
    (State.motionTake s w8).lot = s.lot ∧ (State.motionTake s w8).nmt = s.nmt ∧ (State.motionTake s w8).sle = s.sle ∧
    (State.motionTake s w8).sin = s.sin ∧ (State.motionTake s w8).sout = s.sout ∧ (State.motionTake s w8).tmu.swatch = s.tmu.swatch ∧
    (State.motionTake s w8).aaq = s.aaq ∧ (State.motionTake s w8).hpo = s.hpo ∧ (State.motionTake s w8).trk = s.trk ∧
    (State.motionTake s w8).otp = s.otp ∧ (State.motionTake s w8).bist = s.bist ∧ (State.motionTake s w8).cvus = s.cvus ∧
    (State.motionTake s w8).cpl = s.cpl ∧ (State.motionTake s w8).rcr = s.rcr ∧ (State.motionTake s w8).log = s.log ∧
    (State.motionTake s w8).fresh = s.fresh ∧ (State.motionTake s w8).pending = s.pending := by
  and_intros <;> (unfold State.motionTake; simp)

@[simp ↓] theorem State.motionStep_keeps (s : State) (m : Nat) :
    (State.motionStep s m).clk = s.clk ∧ (State.motionStep s m).pwr = s.pwr ∧ (State.motionStep s m).sup = s.sup ∧
    (State.motionStep s m).lot = s.lot ∧ (State.motionStep s m).nmt = s.nmt ∧ (State.motionStep s m).sle = s.sle ∧
    (State.motionStep s m).sin = s.sin ∧ (State.motionStep s m).sout = s.sout ∧ (State.motionStep s m).tmu.swatch = s.tmu.swatch ∧
    (State.motionStep s m).aaq = s.aaq ∧ (State.motionStep s m).hpo = s.hpo ∧ (State.motionStep s m).trk = s.trk ∧
    (State.motionStep s m).otp = s.otp ∧ (State.motionStep s m).bist = s.bist ∧ (State.motionStep s m).cvus = s.cvus ∧
    (State.motionStep s m).cpl = s.cpl ∧ (State.motionStep s m).rcr = s.rcr ∧ (State.motionStep s m).log = s.log ∧
    (State.motionStep s m).fresh = s.fresh ∧ (State.motionStep s m).pending = s.pending := by
  and_intros <;> (unfold State.motionStep; simp)

@[simp ↓] theorem State.releaseMotions_keeps (s : State) (serves : Nat → Bool) :
    (State.releaseMotions s serves).clk = s.clk ∧ (State.releaseMotions s serves).pwr = s.pwr ∧
    (State.releaseMotions s serves).sup = s.sup ∧ (State.releaseMotions s serves).lot = s.lot ∧
    (State.releaseMotions s serves).nmt = s.nmt ∧ (State.releaseMotions s serves).sle = s.sle ∧
    (State.releaseMotions s serves).sin = s.sin ∧ (State.releaseMotions s serves).sout = s.sout ∧
    (State.releaseMotions s serves).tmu.swatch = s.tmu.swatch ∧ (State.releaseMotions s serves).aaq = s.aaq ∧
    (State.releaseMotions s serves).hpo = s.hpo ∧ (State.releaseMotions s serves).trk = s.trk ∧
    (State.releaseMotions s serves).otp = s.otp ∧ (State.releaseMotions s serves).bist = s.bist ∧
    (State.releaseMotions s serves).cvus = s.cvus ∧ (State.releaseMotions s serves).cpl = s.cpl ∧
    (State.releaseMotions s serves).rcr = s.rcr ∧ (State.releaseMotions s serves).log = s.log ∧
    (State.releaseMotions s serves).fresh = s.fresh ∧ (State.releaseMotions s serves).pending = s.pending := by
  and_intros <;> (unfold State.releaseMotions; simp)

end Sys2Proof.Machine
end

