-- ==== Sys2Proof/Laws/AaqOps.lean ====
section
/-! SUPPORT. What the operations of Machine/AaqOps.lean leave alone: for each, every part of the state that it keeps. -/

namespace Sys2Proof.Machine

@[simp ↓] theorem State.aaqUrgent_keeps (s : State) (u : Nat) :
    (State.aaqUrgent s u).clk = s.clk ∧ (State.aaqUrgent s u).pwr = s.pwr ∧ (State.aaqUrgent s u).sup = s.sup ∧
    (State.aaqUrgent s u).lot = s.lot ∧ (State.aaqUrgent s u).nmt = s.nmt ∧ (State.aaqUrgent s u).sle = s.sle ∧
    (State.aaqUrgent s u).sin = s.sin ∧ (State.aaqUrgent s u).sout = s.sout ∧ (State.aaqUrgent s u).tmu = s.tmu ∧
    (State.aaqUrgent s u).hpo.reply = s.hpo.reply ∧ (State.aaqUrgent s u).hpo.partner = s.hpo.partner ∧
    (State.aaqUrgent s u).trk = s.trk ∧ (State.aaqUrgent s u).otp = s.otp ∧ (State.aaqUrgent s u).bist = s.bist ∧
    (State.aaqUrgent s u).cvus = s.cvus ∧ (State.aaqUrgent s u).cpl = s.cpl ∧ (State.aaqUrgent s u).rcr = s.rcr ∧
    (State.aaqUrgent s u).fresh = s.fresh ∧ (State.aaqUrgent s u).pending = s.pending := by
  and_intros <;> (unfold State.aaqUrgent; simp)

@[simp ↓] theorem State.apCompare_keeps (s : State) (p : Nat) :
    (State.apCompare s p).clk = s.clk ∧ (State.apCompare s p).pwr = s.pwr ∧ (State.apCompare s p).sup = s.sup ∧
    (State.apCompare s p).lot = s.lot ∧ (State.apCompare s p).nmt = s.nmt ∧ (State.apCompare s p).sle = s.sle ∧
    (State.apCompare s p).sin = s.sin ∧ (State.apCompare s p).sout = s.sout ∧ (State.apCompare s p).tmu = s.tmu ∧
    (State.apCompare s p).hpo.reply = s.hpo.reply ∧ (State.apCompare s p).hpo.partner = s.hpo.partner ∧
    (State.apCompare s p).trk = s.trk ∧ (State.apCompare s p).otp = s.otp ∧ (State.apCompare s p).bist = s.bist ∧
    (State.apCompare s p).cvus = s.cvus ∧ (State.apCompare s p).cpl = s.cpl ∧ (State.apCompare s p).rcr = s.rcr ∧
    (State.apCompare s p).fresh = s.fresh ∧ (State.apCompare s p).pending = s.pending := by
  and_intros <;> (unfold State.apCompare; simp)

@[simp ↓] theorem State.aiConvert_keeps (s : State) (n raw : Nat) (v : Int) :
    (State.aiConvert s n raw v).clk = s.clk ∧ (State.aiConvert s n raw v).pwr = s.pwr ∧ (State.aiConvert s n raw v).sup = s.sup ∧
    (State.aiConvert s n raw v).lot = s.lot ∧ (State.aiConvert s n raw v).nmt = s.nmt ∧ (State.aiConvert s n raw v).sle = s.sle ∧
    (State.aiConvert s n raw v).sin = s.sin ∧ (State.aiConvert s n raw v).sout = s.sout ∧ (State.aiConvert s n raw v).tmu = s.tmu ∧
    (State.aiConvert s n raw v).hpo.reply = s.hpo.reply ∧ (State.aiConvert s n raw v).hpo.partner = s.hpo.partner ∧
    (State.aiConvert s n raw v).trk = s.trk ∧ (State.aiConvert s n raw v).otp = s.otp ∧ (State.aiConvert s n raw v).bist = s.bist ∧
    (State.aiConvert s n raw v).cvus = s.cvus ∧ (State.aiConvert s n raw v).cpl = s.cpl ∧ (State.aiConvert s n raw v).rcr = s.rcr ∧
    (State.aiConvert s n raw v).fresh = s.fresh ∧ (State.aiConvert s n raw v).pending = s.pending := by
  and_intros <;> (unfold State.aiConvert; simp)

@[simp ↓] theorem State.aiRefresh_keeps (s : State) :
    (State.aiRefresh s).clk = s.clk ∧ (State.aiRefresh s).pwr = s.pwr ∧ (State.aiRefresh s).sup = s.sup ∧
    (State.aiRefresh s).lot = s.lot ∧ (State.aiRefresh s).nmt = s.nmt ∧ (State.aiRefresh s).sle = s.sle ∧
    (State.aiRefresh s).sin = s.sin ∧ (State.aiRefresh s).sout = s.sout ∧ (State.aiRefresh s).tmu = s.tmu ∧
    (State.aiRefresh s).hpo = s.hpo ∧ (State.aiRefresh s).trk = s.trk ∧ (State.aiRefresh s).otp = s.otp ∧
    (State.aiRefresh s).bist = s.bist ∧ (State.aiRefresh s).cvus = s.cvus ∧ (State.aiRefresh s).cpl = s.cpl ∧
    (State.aiRefresh s).rcr = s.rcr ∧ (State.aiRefresh s).log = s.log ∧ (State.aiRefresh s).fresh = s.fresh ∧
    (State.aiRefresh s).pending = s.pending := by
  and_intros <;> (unfold State.aiRefresh; simp)

@[simp ↓] theorem State.releaseAnalog_keeps (s : State) (serves : Nat → Bool) :
    (State.releaseAnalog s serves).clk = s.clk ∧ (State.releaseAnalog s serves).pwr = s.pwr ∧
    (State.releaseAnalog s serves).sup = s.sup ∧ (State.releaseAnalog s serves).lot = s.lot ∧
    (State.releaseAnalog s serves).nmt = s.nmt ∧ (State.releaseAnalog s serves).sle = s.sle ∧
    (State.releaseAnalog s serves).sin = s.sin ∧ (State.releaseAnalog s serves).sout = s.sout ∧
    (State.releaseAnalog s serves).tmu = s.tmu ∧ (State.releaseAnalog s serves).hpo = s.hpo ∧
    (State.releaseAnalog s serves).trk = s.trk ∧ (State.releaseAnalog s serves).otp = s.otp ∧
    (State.releaseAnalog s serves).bist = s.bist ∧ (State.releaseAnalog s serves).cvus = s.cvus ∧
    (State.releaseAnalog s serves).cpl = s.cpl ∧ (State.releaseAnalog s serves).rcr = s.rcr ∧
    (State.releaseAnalog s serves).log = s.log ∧ (State.releaseAnalog s serves).fresh = s.fresh ∧
    (State.releaseAnalog s serves).pending = s.pending := by
  and_intros <;> (unfold State.releaseAnalog; simp)

end Sys2Proof.Machine
end

