-- ==== Sys2Proof/Laws/BistOps.lean ====
section
/-! SUPPORT. What the operations of Machine/BistOps.lean leave alone: for each, every part of the state that it keeps. -/

namespace Sys2Proof.Machine

@[simp ↓] theorem State.cvuRuns_keeps (s : State) (n run : Nat) :
    (State.cvuRuns s n run).clk = s.clk ∧ (State.cvuRuns s n run).pwr = s.pwr ∧ (State.cvuRuns s n run).sup = s.sup ∧
    (State.cvuRuns s n run).lot = s.lot ∧ (State.cvuRuns s n run).nmt = s.nmt ∧ (State.cvuRuns s n run).sle = s.sle ∧
    (State.cvuRuns s n run).sin = s.sin ∧ (State.cvuRuns s n run).sout = s.sout ∧ (State.cvuRuns s n run).tmu = s.tmu ∧
    (State.cvuRuns s n run).aaq = s.aaq ∧ (State.cvuRuns s n run).hpo = s.hpo ∧ (State.cvuRuns s n run).trk = s.trk ∧
    (State.cvuRuns s n run).otp = s.otp ∧ (State.cvuRuns s n run).bist = s.bist ∧ (State.cvuRuns s n run).cpl = s.cpl ∧
    (State.cvuRuns s n run).rcr = s.rcr ∧ (State.cvuRuns s n run).log = s.log ∧ (State.cvuRuns s n run).fresh = s.fresh ∧
    (State.cvuRuns s n run).pending = s.pending := by
  and_intros <;> (unfold State.cvuRuns; simp)

@[simp ↓] theorem State.applyEntry_keeps (a0 : State) (w : Nat) :
    (State.applyEntry a0 w).clk = a0.clk ∧ (State.applyEntry a0 w).pwr = a0.pwr ∧ (State.applyEntry a0 w).sup = a0.sup ∧
    (State.applyEntry a0 w).lot = a0.lot ∧ (State.applyEntry a0 w).nmt = a0.nmt ∧ (State.applyEntry a0 w).sle = a0.sle ∧
    (State.applyEntry a0 w).sin = a0.sin ∧ (State.applyEntry a0 w).sout = a0.sout ∧ (State.applyEntry a0 w).tmu = a0.tmu ∧
    (State.applyEntry a0 w).aaq = a0.aaq ∧ (State.applyEntry a0 w).hpo.reply = a0.hpo.reply ∧
    (State.applyEntry a0 w).hpo.partner = a0.hpo.partner ∧ (State.applyEntry a0 w).trk = a0.trk ∧ (State.applyEntry a0 w).otp = a0.otp ∧
    (State.applyEntry a0 w).cpl = a0.cpl ∧ (State.applyEntry a0 w).rcr = a0.rcr ∧ (State.applyEntry a0 w).fresh = a0.fresh ∧
    (State.applyEntry a0 w).pending = a0.pending := by
  and_intros <;> (unfold State.applyEntry; simp)

@[simp ↓] theorem State.bootRepairs_keeps (s : State) :
    (State.bootRepairs s).clk = s.clk ∧ (State.bootRepairs s).pwr = s.pwr ∧ (State.bootRepairs s).sup = s.sup ∧
    (State.bootRepairs s).lot = s.lot ∧ (State.bootRepairs s).nmt = s.nmt ∧ (State.bootRepairs s).sle = s.sle ∧
    (State.bootRepairs s).sin = s.sin ∧ (State.bootRepairs s).sout = s.sout ∧ (State.bootRepairs s).tmu = s.tmu ∧
    (State.bootRepairs s).aaq = s.aaq ∧ (State.bootRepairs s).hpo.reply = s.hpo.reply ∧
    (State.bootRepairs s).hpo.partner = s.hpo.partner ∧ (State.bootRepairs s).trk = s.trk ∧ (State.bootRepairs s).otp = s.otp ∧
    (State.bootRepairs s).cpl = s.cpl ∧ (State.bootRepairs s).rcr = s.rcr ∧ (State.bootRepairs s).fresh = s.fresh ∧
    (State.bootRepairs s).pending = s.pending := by
  and_intros <;> (unfold State.bootRepairs; simp)

@[simp ↓] theorem State.fieldRepairs_keeps (s : State) :
    (State.fieldRepairs s).clk = s.clk ∧ (State.fieldRepairs s).pwr = s.pwr ∧ (State.fieldRepairs s).sup = s.sup ∧
    (State.fieldRepairs s).lot = s.lot ∧ (State.fieldRepairs s).nmt = s.nmt ∧ (State.fieldRepairs s).sle = s.sle ∧
    (State.fieldRepairs s).sin = s.sin ∧ (State.fieldRepairs s).sout = s.sout ∧ (State.fieldRepairs s).tmu = s.tmu ∧
    (State.fieldRepairs s).aaq = s.aaq ∧ (State.fieldRepairs s).hpo.reply = s.hpo.reply ∧
    (State.fieldRepairs s).hpo.partner = s.hpo.partner ∧ (State.fieldRepairs s).trk = s.trk ∧ (State.fieldRepairs s).otp = s.otp ∧
    (State.fieldRepairs s).cpl = s.cpl ∧ (State.fieldRepairs s).rcr = s.rcr ∧ (State.fieldRepairs s).fresh = s.fresh ∧
    (State.fieldRepairs s).pending = s.pending := by
  and_intros <;> (unfold State.fieldRepairs; simp)

@[simp ↓] theorem State.fuseRepair_keeps (s : State) (byRecord : Bool) :
    (State.fuseRepair s byRecord).clk = s.clk ∧ (State.fuseRepair s byRecord).pwr = s.pwr ∧ (State.fuseRepair s byRecord).sup = s.sup ∧
    (State.fuseRepair s byRecord).lot = s.lot ∧ (State.fuseRepair s byRecord).nmt = s.nmt ∧ (State.fuseRepair s byRecord).sle = s.sle ∧
    (State.fuseRepair s byRecord).sin = s.sin ∧ (State.fuseRepair s byRecord).sout = s.sout ∧ (State.fuseRepair s byRecord).tmu = s.tmu ∧
    (State.fuseRepair s byRecord).aaq = s.aaq ∧ (State.fuseRepair s byRecord).hpo.partner = s.hpo.partner ∧
    (State.fuseRepair s byRecord).trk = s.trk ∧ (State.fuseRepair s byRecord).otp = s.otp ∧ (State.fuseRepair s byRecord).cvus = s.cvus ∧
    (State.fuseRepair s byRecord).cpl = s.cpl ∧ (State.fuseRepair s byRecord).rcr = s.rcr ∧ (State.fuseRepair s byRecord).log = s.log ∧
    (State.fuseRepair s byRecord).fresh = s.fresh ∧ (State.fuseRepair s byRecord).pending = s.pending := by
  and_intros <;> (unfold State.fuseRepair; simp)

@[simp ↓] theorem State.setBist_keeps (s : State) (b : Bist) :
    (State.setBist s b).clk = s.clk ∧ (State.setBist s b).pwr = s.pwr ∧ (State.setBist s b).sup = s.sup ∧
    (State.setBist s b).lot = s.lot ∧ (State.setBist s b).nmt = s.nmt ∧ (State.setBist s b).sle = s.sle ∧
    (State.setBist s b).sin = s.sin ∧ (State.setBist s b).sout = s.sout ∧ (State.setBist s b).tmu = s.tmu ∧
    (State.setBist s b).aaq = s.aaq ∧ (State.setBist s b).hpo = s.hpo ∧ (State.setBist s b).trk = s.trk ∧
    (State.setBist s b).otp = s.otp ∧ (State.setBist s b).cvus = s.cvus ∧ (State.setBist s b).cpl = s.cpl ∧
    (State.setBist s b).rcr = s.rcr ∧ (State.setBist s b).log = s.log ∧ (State.setBist s b).fresh = s.fresh ∧
    (State.setBist s b).pending = s.pending := by
  and_intros <;> (unfold State.setBist; with_reducible rfl)

@[simp ↓] theorem State.fuseAt_keeps (s : State) (r : Repair) (p : Nat) (rd : WordRead) :
    (State.fuseAt s r p rd).clk = s.clk ∧ (State.fuseAt s r p rd).pwr = s.pwr ∧ (State.fuseAt s r p rd).sup = s.sup ∧
    (State.fuseAt s r p rd).lot = s.lot ∧ (State.fuseAt s r p rd).nmt = s.nmt ∧ (State.fuseAt s r p rd).sle = s.sle ∧
    (State.fuseAt s r p rd).sin = s.sin ∧ (State.fuseAt s r p rd).sout = s.sout ∧ (State.fuseAt s r p rd).tmu = s.tmu ∧
    (State.fuseAt s r p rd).aaq = s.aaq ∧ (State.fuseAt s r p rd).hpo.reply = s.hpo.reply ∧
    (State.fuseAt s r p rd).hpo.partner = s.hpo.partner ∧ (State.fuseAt s r p rd).trk = s.trk ∧
    (State.fuseAt s r p rd).otp.wlock = s.otp.wlock ∧ (State.fuseAt s r p rd).otp.rlock = s.otp.rlock ∧
    (State.fuseAt s r p rd).otp.job = s.otp.job ∧ (State.fuseAt s r p rd).cpl = s.cpl ∧ (State.fuseAt s r p rd).rcr = s.rcr ∧
    (State.fuseAt s r p rd).fresh = s.fresh ∧ (State.fuseAt s r p rd).pending = s.pending := by
  and_intros <;> (unfold State.fuseAt; simp)

@[simp ↓] theorem State.fuseEntry_keeps (s : State) (rd : WordRead) :
    (State.fuseEntry s rd).clk = s.clk ∧ (State.fuseEntry s rd).pwr = s.pwr ∧ (State.fuseEntry s rd).sup = s.sup ∧
    (State.fuseEntry s rd).lot = s.lot ∧ (State.fuseEntry s rd).nmt = s.nmt ∧ (State.fuseEntry s rd).sle = s.sle ∧
    (State.fuseEntry s rd).sin = s.sin ∧ (State.fuseEntry s rd).sout = s.sout ∧ (State.fuseEntry s rd).tmu = s.tmu ∧
    (State.fuseEntry s rd).aaq = s.aaq ∧ (State.fuseEntry s rd).hpo.reply = s.hpo.reply ∧
    (State.fuseEntry s rd).hpo.partner = s.hpo.partner ∧ (State.fuseEntry s rd).trk = s.trk ∧
    (State.fuseEntry s rd).otp.wlock = s.otp.wlock ∧ (State.fuseEntry s rd).otp.rlock = s.otp.rlock ∧
    (State.fuseEntry s rd).otp.job = s.otp.job ∧ (State.fuseEntry s rd).cpl = s.cpl ∧ (State.fuseEntry s rd).rcr = s.rcr ∧
    (State.fuseEntry s rd).fresh = s.fresh ∧ (State.fuseEntry s rd).pending = s.pending := by
  and_intros <;> (unfold State.fuseEntry; first | (with_reducible rfl) | (simp; done) | (repeat' (first | (simp; done) | split)))

@[simp ↓] theorem State.loopPart_keeps (s : State) (ok : Bool) (group : Nat) (atEnd : Bool) :
    (State.loopPart s ok group atEnd).clk = s.clk ∧ (State.loopPart s ok group atEnd).pwr = s.pwr ∧
    (State.loopPart s ok group atEnd).sup = s.sup ∧ (State.loopPart s ok group atEnd).lot = s.lot ∧
    (State.loopPart s ok group atEnd).nmt = s.nmt ∧ (State.loopPart s ok group atEnd).sle = s.sle ∧
    (State.loopPart s ok group atEnd).sin = s.sin ∧ (State.loopPart s ok group atEnd).sout = s.sout ∧
    (State.loopPart s ok group atEnd).tmu = s.tmu ∧ (State.loopPart s ok group atEnd).aaq = s.aaq ∧
    (State.loopPart s ok group atEnd).hpo.reply = s.hpo.reply ∧ (State.loopPart s ok group atEnd).hpo.partner = s.hpo.partner ∧
    (State.loopPart s ok group atEnd).trk = s.trk ∧ (State.loopPart s ok group atEnd).otp = s.otp ∧
    (State.loopPart s ok group atEnd).cvus = s.cvus ∧ (State.loopPart s ok group atEnd).cpl = s.cpl ∧
    (State.loopPart s ok group atEnd).rcr = s.rcr ∧ (State.loopPart s ok group atEnd).fresh = s.fresh ∧
    (State.loopPart s ok group atEnd).pending = s.pending := by
  and_intros <;> (unfold State.loopPart; simp)

@[simp ↓] theorem State.cvuWrite_keeps (s : State) (n sub v : Nat) :
    (State.cvuWrite s n sub v).clk = s.clk ∧ (State.cvuWrite s n sub v).pwr = s.pwr ∧ (State.cvuWrite s n sub v).sup = s.sup ∧
    (State.cvuWrite s n sub v).lot = s.lot ∧ (State.cvuWrite s n sub v).nmt = s.nmt ∧ (State.cvuWrite s n sub v).sle = s.sle ∧
    (State.cvuWrite s n sub v).sin = s.sin ∧ (State.cvuWrite s n sub v).sout = s.sout ∧ (State.cvuWrite s n sub v).tmu = s.tmu ∧
    (State.cvuWrite s n sub v).aaq = s.aaq ∧ (State.cvuWrite s n sub v).hpo.partner = s.hpo.partner ∧
    (State.cvuWrite s n sub v).trk = s.trk ∧ (State.cvuWrite s n sub v).otp = s.otp ∧ (State.cvuWrite s n sub v).bist = s.bist ∧
    (State.cvuWrite s n sub v).cpl = s.cpl ∧ (State.cvuWrite s n sub v).rcr = s.rcr ∧ (State.cvuWrite s n sub v).log = s.log ∧
    (State.cvuWrite s n sub v).fresh = s.fresh ∧ (State.cvuWrite s n sub v).pending = s.pending := by
  and_intros <;> (unfold State.cvuWrite; first | (with_reducible rfl) | (simp; done) | (repeat' (first | (simp; done) | split)))

end Sys2Proof.Machine
end

