-- ==== Sys2Proof/Laws/Timing.lean ====
section
/-! SUPPORT. What the operations of Machine/Timing.lean leave alone: for each, every part of the state that it keeps. -/

namespace Sys2Proof.Machine

@[simp ↓] theorem State.chCommand_keeps (s : State) (c code : Nat) :
    (State.chCommand s c code).clk = s.clk ∧ (State.chCommand s c code).pwr = s.pwr ∧ (State.chCommand s c code).sup = s.sup ∧
    (State.chCommand s c code).lot = s.lot ∧ (State.chCommand s c code).nmt = s.nmt ∧ (State.chCommand s c code).sle = s.sle ∧
    (State.chCommand s c code).sin = s.sin ∧ (State.chCommand s c code).sout = s.sout ∧
    (State.chCommand s c code).tmu.swatch = s.tmu.swatch ∧ (State.chCommand s c code).aaq = s.aaq ∧
    (State.chCommand s c code).hpo.partner = s.hpo.partner ∧ (State.chCommand s c code).trk = s.trk ∧
    (State.chCommand s c code).otp = s.otp ∧ (State.chCommand s c code).bist = s.bist ∧ (State.chCommand s c code).cvus = s.cvus ∧
    (State.chCommand s c code).cpl = s.cpl ∧ (State.chCommand s c code).log = s.log ∧ (State.chCommand s c code).fresh = s.fresh ∧
    (State.chCommand s c code).pending = s.pending := by
  and_intros <;> (unfold State.chCommand; first | (with_reducible rfl) | (simp; done) | (repeat' (first | (simp; done) | split)))

@[simp ↓] theorem State.chTarget_keeps (s : State) (c v : Nat) :
    (State.chTarget s c v).clk = s.clk ∧ (State.chTarget s c v).pwr = s.pwr ∧ (State.chTarget s c v).sup = s.sup ∧
    (State.chTarget s c v).lot = s.lot ∧ (State.chTarget s c v).nmt = s.nmt ∧ (State.chTarget s c v).sle = s.sle ∧
    (State.chTarget s c v).sin = s.sin ∧ (State.chTarget s c v).sout = s.sout ∧ (State.chTarget s c v).tmu.swatch = s.tmu.swatch ∧
    (State.chTarget s c v).aaq = s.aaq ∧ (State.chTarget s c v).hpo.partner = s.hpo.partner ∧ (State.chTarget s c v).trk = s.trk ∧
    (State.chTarget s c v).otp = s.otp ∧ (State.chTarget s c v).bist = s.bist ∧ (State.chTarget s c v).cvus = s.cvus ∧
    (State.chTarget s c v).cpl = s.cpl ∧ (State.chTarget s c v).log = s.log ∧ (State.chTarget s c v).fresh = s.fresh ∧
    (State.chTarget s c v).pending = s.pending := by
  and_intros <;> (unfold State.chTarget; simp)

@[simp ↓] theorem State.chPeriod_keeps (s : State) (c v : Nat) :
    (State.chPeriod s c v).clk = s.clk ∧ (State.chPeriod s c v).pwr = s.pwr ∧ (State.chPeriod s c v).sup = s.sup ∧
    (State.chPeriod s c v).lot = s.lot ∧ (State.chPeriod s c v).nmt = s.nmt ∧ (State.chPeriod s c v).sle = s.sle ∧
    (State.chPeriod s c v).sin = s.sin ∧ (State.chPeriod s c v).sout = s.sout ∧ (State.chPeriod s c v).tmu.swatch = s.tmu.swatch ∧
    (State.chPeriod s c v).aaq = s.aaq ∧ (State.chPeriod s c v).hpo.partner = s.hpo.partner ∧ (State.chPeriod s c v).trk = s.trk ∧
    (State.chPeriod s c v).otp = s.otp ∧ (State.chPeriod s c v).bist = s.bist ∧ (State.chPeriod s c v).cvus = s.cvus ∧
    (State.chPeriod s c v).cpl = s.cpl ∧ (State.chPeriod s c v).log = s.log ∧ (State.chPeriod s c v).fresh = s.fresh ∧
    (State.chPeriod s c v).pending = s.pending := by
  and_intros <;> (unfold State.chPeriod; simp)

@[simp ↓] theorem State.chSetup_keeps (s : State) (c sub v : Nat) :
    (State.chSetup s c sub v).clk = s.clk ∧ (State.chSetup s c sub v).pwr = s.pwr ∧ (State.chSetup s c sub v).sup = s.sup ∧
    (State.chSetup s c sub v).lot = s.lot ∧ (State.chSetup s c sub v).nmt = s.nmt ∧ (State.chSetup s c sub v).sle = s.sle ∧
    (State.chSetup s c sub v).sin = s.sin ∧ (State.chSetup s c sub v).sout = s.sout ∧
    (State.chSetup s c sub v).tmu.swatch = s.tmu.swatch ∧ (State.chSetup s c sub v).aaq = s.aaq ∧
    (State.chSetup s c sub v).hpo.partner = s.hpo.partner ∧ (State.chSetup s c sub v).trk = s.trk ∧
    (State.chSetup s c sub v).otp = s.otp ∧ (State.chSetup s c sub v).bist = s.bist ∧ (State.chSetup s c sub v).cvus = s.cvus ∧
    (State.chSetup s c sub v).cpl = s.cpl ∧ (State.chSetup s c sub v).log = s.log ∧ (State.chSetup s c sub v).fresh = s.fresh ∧
    (State.chSetup s c sub v).pending = s.pending := by
  and_intros <;> (unfold State.chSetup; simp)

end Sys2Proof.Machine
end

