-- ==== Sys2Proof/Laws/Bist.lean ====
section
/-! SUPPORT. What the operations of Machine/Bist.lean leave alone: for each, every part of the state that it keeps. -/

namespace Sys2Proof.Machine

@[simp ↓] theorem State.programRun_keeps (s : State) (f : SliceFinding) (i : Nat) :
    (State.programRun s f i).clk = s.clk ∧ (State.programRun s f i).pwr = s.pwr ∧ (State.programRun s f i).sup = s.sup ∧
    (State.programRun s f i).lot = s.lot ∧ (State.programRun s f i).nmt = s.nmt ∧ (State.programRun s f i).sle = s.sle ∧
    (State.programRun s f i).sin = s.sin ∧ (State.programRun s f i).sout = s.sout ∧ (State.programRun s f i).tmu = s.tmu ∧
    (State.programRun s f i).aaq = s.aaq ∧ (State.programRun s f i).hpo = s.hpo ∧ (State.programRun s f i).trk = s.trk ∧
    (State.programRun s f i).otp = s.otp ∧ (State.programRun s f i).bist = s.bist ∧ (State.programRun s f i).cpl = s.cpl ∧
    (State.programRun s f i).rcr = s.rcr ∧ (State.programRun s f i).log = s.log ∧ (State.programRun s f i).fresh = s.fresh ∧
    (State.programRun s f i).pending = s.pending := by
  and_intros <;> (unfold State.programRun; first | (with_reducible rfl) | (simp; done) | (repeat' (first | (simp; done) | split)))

@[simp ↓] theorem State.criticalRead_keeps (s : State) (reads : OtpReads) :
    (State.criticalRead s reads).clk = s.clk ∧ (State.criticalRead s reads).pwr = s.pwr ∧ (State.criticalRead s reads).sup = s.sup ∧
    (State.criticalRead s reads).lot = s.lot ∧ (State.criticalRead s reads).nmt = s.nmt ∧ (State.criticalRead s reads).sle = s.sle ∧
    (State.criticalRead s reads).sin = s.sin ∧ (State.criticalRead s reads).sout = s.sout ∧ (State.criticalRead s reads).tmu = s.tmu ∧
    (State.criticalRead s reads).aaq = s.aaq ∧ (State.criticalRead s reads).hpo.reply = s.hpo.reply ∧
    (State.criticalRead s reads).hpo.partner = s.hpo.partner ∧ (State.criticalRead s reads).trk = s.trk ∧
    (State.criticalRead s reads).otp.job = s.otp.job ∧ (State.criticalRead s reads).cvus = s.cvus ∧
    (State.criticalRead s reads).cpl = s.cpl ∧ (State.criticalRead s reads).rcr = s.rcr ∧ (State.criticalRead s reads).fresh = s.fresh ∧
    (State.criticalRead s reads).pending = s.pending := by
  and_intros <;> (unfold State.criticalRead; simp)

@[simp ↓] theorem State.jobAnswer_keeps (s : State) (byRecord : Bool) (r : Reply) :
    (State.jobAnswer s byRecord r).clk = s.clk ∧ (State.jobAnswer s byRecord r).pwr = s.pwr ∧
    (State.jobAnswer s byRecord r).sup = s.sup ∧ (State.jobAnswer s byRecord r).lot = s.lot ∧
    (State.jobAnswer s byRecord r).nmt = s.nmt ∧ (State.jobAnswer s byRecord r).sle = s.sle ∧
    (State.jobAnswer s byRecord r).sin = s.sin ∧ (State.jobAnswer s byRecord r).sout = s.sout ∧
    (State.jobAnswer s byRecord r).tmu = s.tmu ∧ (State.jobAnswer s byRecord r).aaq = s.aaq ∧
    (State.jobAnswer s byRecord r).hpo.partner = s.hpo.partner ∧ (State.jobAnswer s byRecord r).trk = s.trk ∧
    (State.jobAnswer s byRecord r).otp = s.otp ∧ (State.jobAnswer s byRecord r).bist = s.bist ∧
    (State.jobAnswer s byRecord r).cvus = s.cvus ∧ (State.jobAnswer s byRecord r).cpl = s.cpl ∧
    (State.jobAnswer s byRecord r).rcr = s.rcr ∧ (State.jobAnswer s byRecord r).log = s.log ∧
    (State.jobAnswer s byRecord r).fresh = s.fresh ∧ (State.jobAnswer s byRecord r).pending = s.pending := by
  and_intros <;> (unfold State.jobAnswer; simp)

end Sys2Proof.Machine
end

