-- ==== Sys2Proof/Laws/Resets.lean ====
section
/-! SUPPORT. What the operations of Machine/Resets.lean leave alone: for each, every part of the state that it keeps. -/

namespace Sys2Proof.Machine

@[simp ↓] theorem State.releaseHalt_keeps (s : State) :
    (State.releaseHalt s).clk = s.clk ∧ (State.releaseHalt s).pwr.doms = s.pwr.doms ∧
    (State.releaseHalt s).sup.driveRemoved = s.sup.driveRemoved ∧ (State.releaseHalt s).sup.bootCount = s.sup.bootCount ∧
    (State.releaseHalt s).lot = s.lot ∧ (State.releaseHalt s).nmt = s.nmt ∧ (State.releaseHalt s).sle = s.sle ∧
    (State.releaseHalt s).sin = s.sin ∧ (State.releaseHalt s).sout = s.sout ∧ (State.releaseHalt s).tmu = s.tmu ∧
    (State.releaseHalt s).aaq = s.aaq ∧ (State.releaseHalt s).hpo.reply = s.hpo.reply ∧
    (State.releaseHalt s).hpo.partner = s.hpo.partner ∧ (State.releaseHalt s).otp = s.otp ∧ (State.releaseHalt s).bist = s.bist ∧
    (State.releaseHalt s).cvus = s.cvus ∧ (State.releaseHalt s).cpl = s.cpl ∧ (State.releaseHalt s).fresh = s.fresh ∧
    (State.releaseHalt s).pending = s.pending := by
  and_intros <;> (unfold State.releaseHalt; simp)

@[simp ↓] theorem State.markEdge_keeps (s : State) :
    (State.markEdge s).clk = s.clk ∧ (State.markEdge s).pwr = s.pwr ∧ (State.markEdge s).sup = s.sup ∧ (State.markEdge s).lot = s.lot ∧
    (State.markEdge s).nmt = s.nmt ∧ (State.markEdge s).sle.epoch = s.sle.epoch ∧ (State.markEdge s).sle.lfsr = s.sle.lfsr ∧
    (State.markEdge s).sin = s.sin ∧ (State.markEdge s).sout = s.sout ∧ (State.markEdge s).tmu = s.tmu ∧ (State.markEdge s).aaq = s.aaq ∧
    (State.markEdge s).hpo = s.hpo ∧ (State.markEdge s).trk = s.trk ∧ (State.markEdge s).otp = s.otp ∧ (State.markEdge s).bist = s.bist ∧
    (State.markEdge s).cvus = s.cvus ∧ (State.markEdge s).cpl = s.cpl ∧ (State.markEdge s).rcr = s.rcr ∧ (State.markEdge s).log = s.log ∧
    (State.markEdge s).fresh = s.fresh ∧ (State.markEdge s).pending = s.pending := by
  and_intros <;> (unfold State.markEdge; with_reducible rfl)

@[simp ↓] theorem State.resetEdge_keeps (s : State) (src : ResetSource) :
    (State.resetEdge s src).clk = s.clk ∧ (State.resetEdge s src).pwr.doms = s.pwr.doms ∧
    (State.resetEdge s src).sup.driveRemoved = s.sup.driveRemoved ∧ (State.resetEdge s src).sup.bootCount = s.sup.bootCount ∧
    (State.resetEdge s src).lot = s.lot ∧ (State.resetEdge s src).nmt = s.nmt ∧ (State.resetEdge s src).sle.epoch = s.sle.epoch ∧
    (State.resetEdge s src).sle.lfsr = s.sle.lfsr ∧ (State.resetEdge s src).sout.w8 = s.sout.w8 ∧
    (State.resetEdge s src).tmu.swatch = s.tmu.swatch ∧ (State.resetEdge s src).hpo.reply = s.hpo.reply ∧
    (State.resetEdge s src).hpo.partner = s.hpo.partner ∧ (State.resetEdge s src).otp = s.otp ∧ (State.resetEdge s src).bist = s.bist ∧
    (State.resetEdge s src).cvus = s.cvus ∧ (State.resetEdge s src).cpl = s.cpl ∧ (State.resetEdge s src).fresh = s.fresh ∧
    (State.resetEdge s src).pending = s.pending := by
  and_intros <;> (unfold State.resetEdge; simp)

end Sys2Proof.Machine
end

