-- ==== Sys2Proof/Laws/TrunkOps.lean ====
section
/-! SUPPORT. What the operations of Machine/TrunkOps.lean leave alone: for each, every part of the state that it keeps. -/

namespace Sys2Proof.Machine

@[simp ↓] theorem State.trunkSend_keeps (s : State) (k : Nat) :
    (State.trunkSend s k).clk = s.clk ∧ (State.trunkSend s k).pwr = s.pwr ∧ (State.trunkSend s k).sup = s.sup ∧
    (State.trunkSend s k).lot = s.lot ∧ (State.trunkSend s k).nmt = s.nmt ∧ (State.trunkSend s k).sle = s.sle ∧
    (State.trunkSend s k).sin = s.sin ∧ (State.trunkSend s k).sout = s.sout ∧ (State.trunkSend s k).tmu = s.tmu ∧
    (State.trunkSend s k).aaq = s.aaq ∧ (State.trunkSend s k).hpo = s.hpo ∧ (State.trunkSend s k).otp = s.otp ∧
    (State.trunkSend s k).bist = s.bist ∧ (State.trunkSend s k).cvus = s.cvus ∧ (State.trunkSend s k).cpl = s.cpl ∧
    (State.trunkSend s k).rcr = s.rcr ∧ (State.trunkSend s k).log = s.log ∧ (State.trunkSend s k).fresh = s.fresh ∧
    (State.trunkSend s k).pending = s.pending := by
  and_intros <;> (unfold State.trunkSend; simp)

@[simp ↓] theorem State.trunkResend_keeps (s : State) :
    (State.trunkResend s).clk = s.clk ∧ (State.trunkResend s).pwr = s.pwr ∧ (State.trunkResend s).sup = s.sup ∧
    (State.trunkResend s).lot = s.lot ∧ (State.trunkResend s).nmt = s.nmt ∧ (State.trunkResend s).sle = s.sle ∧
    (State.trunkResend s).sin = s.sin ∧ (State.trunkResend s).sout = s.sout ∧ (State.trunkResend s).tmu = s.tmu ∧
    (State.trunkResend s).aaq = s.aaq ∧ (State.trunkResend s).hpo = s.hpo ∧ (State.trunkResend s).otp = s.otp ∧
    (State.trunkResend s).bist = s.bist ∧ (State.trunkResend s).cvus = s.cvus ∧ (State.trunkResend s).cpl = s.cpl ∧
    (State.trunkResend s).rcr = s.rcr ∧ (State.trunkResend s).log = s.log ∧ (State.trunkResend s).fresh = s.fresh ∧
    (State.trunkResend s).pending = s.pending := by
  and_intros <;> (unfold State.trunkResend; simp)

@[simp ↓] theorem State.judgeGap_keeps (s : State) (e : StEntry) :
    (State.judgeGap s e).clk = s.clk ∧ (State.judgeGap s e).pwr = s.pwr ∧ (State.judgeGap s e).sup = s.sup ∧
    (State.judgeGap s e).lot = s.lot ∧ (State.judgeGap s e).nmt = s.nmt ∧ (State.judgeGap s e).sle = s.sle ∧
    (State.judgeGap s e).sout = s.sout ∧ (State.judgeGap s e).tmu = s.tmu ∧ (State.judgeGap s e).aaq = s.aaq ∧
    (State.judgeGap s e).hpo = s.hpo ∧ (State.judgeGap s e).trk = s.trk ∧ (State.judgeGap s e).otp = s.otp ∧
    (State.judgeGap s e).bist = s.bist ∧ (State.judgeGap s e).cvus = s.cvus ∧ (State.judgeGap s e).cpl = s.cpl ∧
    (State.judgeGap s e).rcr = s.rcr ∧ (State.judgeGap s e).log = s.log ∧ (State.judgeGap s e).fresh = s.fresh ∧
    (State.judgeGap s e).pending = s.pending := by
  and_intros <;> (unfold State.judgeGap; simp)

@[simp ↓] theorem State.judgeRecord_keeps (s : State) (e : StEntry) (data t : Nat) :
    (State.judgeRecord s e data t).clk = s.clk ∧ (State.judgeRecord s e data t).pwr.doms = s.pwr.doms ∧
    (State.judgeRecord s e data t).sup.driveRemoved = s.sup.driveRemoved ∧
    (State.judgeRecord s e data t).sup.bootCount = s.sup.bootCount ∧ (State.judgeRecord s e data t).lot = s.lot ∧
    (State.judgeRecord s e data t).nmt = s.nmt ∧ (State.judgeRecord s e data t).sle.epoch = s.sle.epoch ∧
    (State.judgeRecord s e data t).sle.lfsr = s.sle.lfsr ∧ (State.judgeRecord s e data t).sout.w8 = s.sout.w8 ∧
    (State.judgeRecord s e data t).tmu.swatch = s.tmu.swatch ∧ (State.judgeRecord s e data t).hpo.reply = s.hpo.reply ∧
    (State.judgeRecord s e data t).hpo.partner = s.hpo.partner ∧ (State.judgeRecord s e data t).otp = s.otp ∧
    (State.judgeRecord s e data t).bist = s.bist ∧ (State.judgeRecord s e data t).cvus = s.cvus ∧
    (State.judgeRecord s e data t).cpl = s.cpl ∧ (State.judgeRecord s e data t).fresh = s.fresh ∧
    (State.judgeRecord s e data t).pending = s.pending := by
  and_intros <;> (unfold State.judgeRecord; (try dsimp only); first | (with_reducible rfl) | (simp; done) | (repeat' (first | (simp; done) | split)))

@[simp ↓] theorem State.recordIn_keeps (s : State) (e : StEntry) (q data stamp seq : Nat) :
    (State.recordIn s e q data stamp seq).clk = s.clk ∧ (State.recordIn s e q data stamp seq).pwr.doms = s.pwr.doms ∧
    (State.recordIn s e q data stamp seq).sup.driveRemoved = s.sup.driveRemoved ∧
    (State.recordIn s e q data stamp seq).sup.bootCount = s.sup.bootCount ∧ (State.recordIn s e q data stamp seq).lot = s.lot ∧
    (State.recordIn s e q data stamp seq).nmt = s.nmt ∧ (State.recordIn s e q data stamp seq).sle.epoch = s.sle.epoch ∧
    (State.recordIn s e q data stamp seq).sle.lfsr = s.sle.lfsr ∧ (State.recordIn s e q data stamp seq).sout.w8 = s.sout.w8 ∧
    (State.recordIn s e q data stamp seq).tmu.swatch = s.tmu.swatch ∧ (State.recordIn s e q data stamp seq).hpo.reply = s.hpo.reply ∧
    (State.recordIn s e q data stamp seq).hpo.partner = s.hpo.partner ∧ (State.recordIn s e q data stamp seq).otp = s.otp ∧
    (State.recordIn s e q data stamp seq).bist = s.bist ∧ (State.recordIn s e q data stamp seq).cvus = s.cvus ∧
    (State.recordIn s e q data stamp seq).cpl = s.cpl ∧ (State.recordIn s e q data stamp seq).fresh = s.fresh ∧
    (State.recordIn s e q data stamp seq).pending = s.pending := by
  and_intros <;> (unfold State.recordIn; simp)

@[simp ↓] theorem State.landRecord_keeps (s : State) (e : StEntry) (q data stamp seq : Nat) :
    (State.landRecord s e q data stamp seq).clk = s.clk ∧ (State.landRecord s e q data stamp seq).pwr.doms = s.pwr.doms ∧
    (State.landRecord s e q data stamp seq).sup.driveRemoved = s.sup.driveRemoved ∧
    (State.landRecord s e q data stamp seq).sup.bootCount = s.sup.bootCount ∧ (State.landRecord s e q data stamp seq).lot = s.lot ∧
    (State.landRecord s e q data stamp seq).sle.epoch = s.sle.epoch ∧ (State.landRecord s e q data stamp seq).sle.lfsr = s.sle.lfsr ∧
    (State.landRecord s e q data stamp seq).sout.w8 = s.sout.w8 ∧ (State.landRecord s e q data stamp seq).tmu.swatch = s.tmu.swatch ∧
    (State.landRecord s e q data stamp seq).hpo.reply = s.hpo.reply ∧
    (State.landRecord s e q data stamp seq).hpo.partner = s.hpo.partner ∧ (State.landRecord s e q data stamp seq).otp = s.otp ∧
    (State.landRecord s e q data stamp seq).cvus = s.cvus ∧ (State.landRecord s e q data stamp seq).cpl = s.cpl ∧
    (State.landRecord s e q data stamp seq).fresh = s.fresh ∧ (State.landRecord s e q data stamp seq).pending = s.pending := by
  and_intros <;> (unfold State.landRecord; simp)

@[simp ↓] theorem State.decideStation_keeps (s : State) (e : StEntry) (seq : Nat) :
    (State.decideStation s e seq).clk = s.clk ∧ (State.decideStation s e seq).pwr.doms = s.pwr.doms ∧
    (State.decideStation s e seq).sup.driveRemoved = s.sup.driveRemoved ∧ (State.decideStation s e seq).sup.bootCount = s.sup.bootCount ∧
    (State.decideStation s e seq).lot = s.lot ∧ (State.decideStation s e seq).sle.epoch = s.sle.epoch ∧
    (State.decideStation s e seq).sle.lfsr = s.sle.lfsr ∧ (State.decideStation s e seq).sout.w8 = s.sout.w8 ∧
    (State.decideStation s e seq).tmu.swatch = s.tmu.swatch ∧ (State.decideStation s e seq).hpo.reply = s.hpo.reply ∧
    (State.decideStation s e seq).hpo.partner = s.hpo.partner ∧ (State.decideStation s e seq).otp = s.otp ∧
    (State.decideStation s e seq).cvus = s.cvus ∧ (State.decideStation s e seq).cpl = s.cpl ∧
    (State.decideStation s e seq).fresh = s.fresh ∧ (State.decideStation s e seq).pending = s.pending := by
  and_intros <;> (unfold State.decideStation; (try dsimp only); first | (with_reducible rfl) | (simp; done) | (repeat' (first | (simp; done) | split)))

@[simp ↓] theorem State.endStation_keeps (s : State) (seq : Nat) (e : StEntry) :
    (State.endStation s seq e).clk = s.clk ∧ (State.endStation s seq e).pwr.doms = s.pwr.doms ∧
    (State.endStation s seq e).sup.driveRemoved = s.sup.driveRemoved ∧ (State.endStation s seq e).sup.bootCount = s.sup.bootCount ∧
    (State.endStation s seq e).lot = s.lot ∧ (State.endStation s seq e).sle.epoch = s.sle.epoch ∧
    (State.endStation s seq e).sle.lfsr = s.sle.lfsr ∧ (State.endStation s seq e).sout.w8 = s.sout.w8 ∧
    (State.endStation s seq e).tmu.swatch = s.tmu.swatch ∧ (State.endStation s seq e).hpo.reply = s.hpo.reply ∧
    (State.endStation s seq e).hpo.partner = s.hpo.partner ∧ (State.endStation s seq e).otp = s.otp ∧
    (State.endStation s seq e).cvus = s.cvus ∧ (State.endStation s seq e).cpl = s.cpl ∧ (State.endStation s seq e).fresh = s.fresh ∧
    (State.endStation s seq e).pending = s.pending := by
  and_intros <;> (unfold State.endStation; (try dsimp only); first | (with_reducible rfl) | (simp; done) | (repeat' (first | (simp; done) | split)))

@[simp ↓] theorem State.ringEnd_keeps (s : State) :
    (State.ringEnd s).clk = s.clk ∧ (State.ringEnd s).pwr = s.pwr ∧ (State.ringEnd s).sup = s.sup ∧ (State.ringEnd s).lot = s.lot ∧
    (State.ringEnd s).nmt = s.nmt ∧ (State.ringEnd s).sle = s.sle ∧ (State.ringEnd s).sin = s.sin ∧ (State.ringEnd s).sout = s.sout ∧
    (State.ringEnd s).tmu = s.tmu ∧ (State.ringEnd s).aaq = s.aaq ∧ (State.ringEnd s).hpo.reply = s.hpo.reply ∧
    (State.ringEnd s).hpo.partner = s.hpo.partner ∧ (State.ringEnd s).otp = s.otp ∧ (State.ringEnd s).bist = s.bist ∧
    (State.ringEnd s).cvus = s.cvus ∧ (State.ringEnd s).cpl = s.cpl ∧ (State.ringEnd s).rcr = s.rcr ∧ (State.ringEnd s).fresh = s.fresh ∧
    (State.ringEnd s).pending = s.pending := by
  and_intros <;> (unfold State.ringEnd; (try dsimp only); first | (with_reducible rfl) | (simp; done) | (repeat' (first | (simp; done) | split)))

@[simp ↓] theorem State.endCycle_keeps (s : State) :
    (State.endCycle s).clk = s.clk ∧ (State.endCycle s).pwr.doms = s.pwr.doms ∧
    (State.endCycle s).sup.driveRemoved = s.sup.driveRemoved ∧ (State.endCycle s).sup.bootCount = s.sup.bootCount ∧
    (State.endCycle s).lot = s.lot ∧ (State.endCycle s).sle.epoch = s.sle.epoch ∧ (State.endCycle s).sle.lfsr = s.sle.lfsr ∧
    (State.endCycle s).sout.w8 = s.sout.w8 ∧ (State.endCycle s).tmu.swatch = s.tmu.swatch ∧ (State.endCycle s).hpo.reply = s.hpo.reply ∧
    (State.endCycle s).hpo.partner = s.hpo.partner ∧ (State.endCycle s).otp = s.otp ∧ (State.endCycle s).cvus = s.cvus ∧
    (State.endCycle s).cpl = s.cpl ∧ (State.endCycle s).fresh = s.fresh ∧ (State.endCycle s).pending = s.pending := by
  and_intros <;> (unfold State.endCycle; first | (with_reducible rfl) | (simp; done) | (repeat' (first | (simp; done) | split)))

@[simp ↓] theorem State.trunkStart_keeps (s : State) (fresh : Bool) (e : Nat) :
    (State.trunkStart s fresh e).clk = s.clk ∧ (State.trunkStart s fresh e).pwr = s.pwr ∧ (State.trunkStart s fresh e).sup = s.sup ∧
    (State.trunkStart s fresh e).lot = s.lot ∧ (State.trunkStart s fresh e).nmt = s.nmt ∧ (State.trunkStart s fresh e).sle = s.sle ∧
    (State.trunkStart s fresh e).sin = s.sin ∧ (State.trunkStart s fresh e).sout = s.sout ∧ (State.trunkStart s fresh e).tmu = s.tmu ∧
    (State.trunkStart s fresh e).aaq = s.aaq ∧ (State.trunkStart s fresh e).hpo = s.hpo ∧ (State.trunkStart s fresh e).otp = s.otp ∧
    (State.trunkStart s fresh e).bist = s.bist ∧ (State.trunkStart s fresh e).cvus = s.cvus ∧ (State.trunkStart s fresh e).cpl = s.cpl ∧
    (State.trunkStart s fresh e).log = s.log ∧ (State.trunkStart s fresh e).fresh = s.fresh ∧
    (State.trunkStart s fresh e).pending = s.pending := by
  and_intros <;> (unfold State.trunkStart; simp)

@[simp ↓] theorem State.trunkStop_keeps (s : State) :
    (State.trunkStop s).clk = s.clk ∧ (State.trunkStop s).pwr = s.pwr ∧ (State.trunkStop s).sup = s.sup ∧
    (State.trunkStop s).lot = s.lot ∧ (State.trunkStop s).nmt = s.nmt ∧ (State.trunkStop s).sle = s.sle ∧
    (State.trunkStop s).sin = s.sin ∧ (State.trunkStop s).sout = s.sout ∧ (State.trunkStop s).tmu = s.tmu ∧
    (State.trunkStop s).aaq = s.aaq ∧ (State.trunkStop s).hpo = s.hpo ∧ (State.trunkStop s).otp = s.otp ∧
    (State.trunkStop s).bist = s.bist ∧ (State.trunkStop s).cvus = s.cvus ∧ (State.trunkStop s).cpl = s.cpl ∧
    (State.trunkStop s).rcr = s.rcr ∧ (State.trunkStop s).log = s.log ∧ (State.trunkStop s).fresh = s.fresh ∧
    (State.trunkStop s).pending = s.pending := by
  and_intros <;> (unfold State.trunkStop; with_reducible rfl)

end Sys2Proof.Machine
end

