-- ==== Sys2Proof/Laws/Landing.lean ====
section
/-! SUPPORT. What the operations of Machine/Landing.lean leave alone: for each, every part of the state that it keeps. -/

namespace Sys2Proof.Machine

@[simp ↓] theorem State.land_keeps (s : State) (w : Nat) (c : Cell) :
    (State.land s w c).clk = s.clk ∧ (State.land s w c).pwr = s.pwr ∧ (State.land s w c).sup = s.sup ∧ (State.land s w c).lot = s.lot ∧
    (State.land s w c).sle = s.sle ∧ (State.land s w c).sin = s.sin ∧ (State.land s w c).sout = s.sout ∧ (State.land s w c).tmu = s.tmu ∧
    (State.land s w c).aaq = s.aaq ∧ (State.land s w c).hpo.reply = s.hpo.reply ∧ (State.land s w c).hpo.partner = s.hpo.partner ∧
    (State.land s w c).trk = s.trk ∧ (State.land s w c).otp = s.otp ∧ (State.land s w c).cvus = s.cvus ∧ (State.land s w c).cpl = s.cpl ∧
    (State.land s w c).rcr = s.rcr ∧ (State.land s w c).fresh = s.fresh ∧ (State.land s w c).pending = s.pending := by
  and_intros <;> (unfold State.land; simp)

end Sys2Proof.Machine
end

