-- ==== Sys2Proof/Laws/RecCommit.lean ====
section
/-! SUPPORT. What the operations of Machine/RecCommit.lean leave alone: for each, every part of the state that it keeps. -/

namespace Sys2Proof.Machine

@[simp ↓] theorem State.frcKeyframe_keeps (s : State) :
    (State.frcKeyframe s).clk = s.clk ∧ (State.frcKeyframe s).sup = s.sup ∧ (State.frcKeyframe s).lot = s.lot ∧
    (State.frcKeyframe s).nmt = s.nmt ∧ (State.frcKeyframe s).sle = s.sle ∧ (State.frcKeyframe s).sin = s.sin ∧
    (State.frcKeyframe s).sout = s.sout ∧ (State.frcKeyframe s).aaq = s.aaq ∧ (State.frcKeyframe s).hpo = s.hpo ∧
    (State.frcKeyframe s).trk = s.trk ∧ (State.frcKeyframe s).otp = s.otp ∧ (State.frcKeyframe s).bist = s.bist ∧
    (State.frcKeyframe s).cvus = s.cvus ∧ (State.frcKeyframe s).cpl = s.cpl ∧ (State.frcKeyframe s).log = s.log ∧
    (State.frcKeyframe s).pending = s.pending := by
  and_intros <;> (unfold State.frcKeyframe; simp)

@[simp ↓] theorem State.frcRelease_keeps (s : State) :
    (State.frcRelease s).clk = s.clk ∧ (State.frcRelease s).sup = s.sup ∧ (State.frcRelease s).lot = s.lot ∧
    (State.frcRelease s).nmt = s.nmt ∧ (State.frcRelease s).sle = s.sle ∧ (State.frcRelease s).sin = s.sin ∧
    (State.frcRelease s).sout = s.sout ∧ (State.frcRelease s).aaq = s.aaq ∧ (State.frcRelease s).hpo = s.hpo ∧
    (State.frcRelease s).trk = s.trk ∧ (State.frcRelease s).otp = s.otp ∧ (State.frcRelease s).bist = s.bist ∧
    (State.frcRelease s).cvus = s.cvus ∧ (State.frcRelease s).cpl = s.cpl ∧ (State.frcRelease s).log = s.log ∧
    (State.frcRelease s).pending = s.pending := by
  and_intros <;> (unfold State.frcRelease; simp)

@[simp ↓] theorem State.frcNoteRelease_keeps (s : State) (p pos : Nat) :
    (State.frcNoteRelease s p pos).clk = s.clk ∧ (State.frcNoteRelease s p pos).pwr = s.pwr ∧
    (State.frcNoteRelease s p pos).sup = s.sup ∧ (State.frcNoteRelease s p pos).lot = s.lot ∧
    (State.frcNoteRelease s p pos).nmt = s.nmt ∧ (State.frcNoteRelease s p pos).sle = s.sle ∧
    (State.frcNoteRelease s p pos).sin = s.sin ∧ (State.frcNoteRelease s p pos).sout = s.sout ∧
    (State.frcNoteRelease s p pos).tmu = s.tmu ∧ (State.frcNoteRelease s p pos).aaq = s.aaq ∧
    (State.frcNoteRelease s p pos).hpo = s.hpo ∧ (State.frcNoteRelease s p pos).trk = s.trk ∧
    (State.frcNoteRelease s p pos).otp = s.otp ∧ (State.frcNoteRelease s p pos).bist = s.bist ∧
    (State.frcNoteRelease s p pos).cvus = s.cvus ∧ (State.frcNoteRelease s p pos).cpl = s.cpl ∧
    (State.frcNoteRelease s p pos).rcr.written = s.rcr.written ∧ (State.frcNoteRelease s p pos).log = s.log ∧
    (State.frcNoteRelease s p pos).fresh = s.fresh ∧ (State.frcNoteRelease s p pos).pending = s.pending := by
  and_intros <;> (unfold State.frcNoteRelease; with_reducible rfl)

@[simp ↓] theorem State.frcPutRelease_keeps (s : State) (p : Nat) (b : List Byte) :
    (State.frcPutRelease s p b).clk = s.clk ∧ (State.frcPutRelease s p b).pwr = s.pwr ∧ (State.frcPutRelease s p b).sup = s.sup ∧
    (State.frcPutRelease s p b).lot = s.lot ∧ (State.frcPutRelease s p b).nmt = s.nmt ∧ (State.frcPutRelease s p b).sle = s.sle ∧
    (State.frcPutRelease s p b).sin = s.sin ∧ (State.frcPutRelease s p b).sout = s.sout ∧ (State.frcPutRelease s p b).tmu = s.tmu ∧
    (State.frcPutRelease s p b).aaq = s.aaq ∧ (State.frcPutRelease s p b).hpo = s.hpo ∧ (State.frcPutRelease s p b).trk = s.trk ∧
    (State.frcPutRelease s p b).otp = s.otp ∧ (State.frcPutRelease s p b).bist = s.bist ∧ (State.frcPutRelease s p b).cvus = s.cvus ∧
    (State.frcPutRelease s p b).cpl = s.cpl ∧ (State.frcPutRelease s p b).log = s.log ∧ (State.frcPutRelease s p b).fresh = s.fresh ∧
    (State.frcPutRelease s p b).pending = s.pending := by
  and_intros <;> (unfold State.frcPutRelease; simp)

@[simp ↓] theorem State.frcCommit_keeps (s : State) (p : Nat) :
    (State.frcCommit s p).clk = s.clk ∧ (State.frcCommit s p).pwr = s.pwr ∧ (State.frcCommit s p).sup = s.sup ∧
    (State.frcCommit s p).lot = s.lot ∧ (State.frcCommit s p).nmt = s.nmt ∧ (State.frcCommit s p).sle = s.sle ∧
    (State.frcCommit s p).sin = s.sin ∧ (State.frcCommit s p).sout = s.sout ∧ (State.frcCommit s p).tmu = s.tmu ∧
    (State.frcCommit s p).aaq = s.aaq ∧ (State.frcCommit s p).hpo = s.hpo ∧ (State.frcCommit s p).trk = s.trk ∧
    (State.frcCommit s p).otp = s.otp ∧ (State.frcCommit s p).bist = s.bist ∧ (State.frcCommit s p).cvus = s.cvus ∧
    (State.frcCommit s p).cpl = s.cpl ∧ (State.frcCommit s p).log = s.log ∧ (State.frcCommit s p).fresh = s.fresh ∧
    (State.frcCommit s p).pending = s.pending := by
  and_intros <;> (unfold State.frcCommit; simp)

end Sys2Proof.Machine
end

