-- ==== Sys2Proof/Laws/Latch.lean ====
section
/-! SUPPORT. What the operations of Machine/Latch.lean leave alone: for each, every part of the state that it keeps. -/

namespace Sys2Proof.Machine

@[simp ↓] theorem State.latchCell_keeps (s : State) (p : Nat) (k : Key) (w : Nat) (c : Cell) :
    (State.latchCell s p k w c).clk = s.clk ∧ (State.latchCell s p k w c).pwr = s.pwr ∧ (State.latchCell s p k w c).sup = s.sup ∧
    (State.latchCell s p k w c).lot = s.lot ∧ (State.latchCell s p k w c).nmt.comG = s.nmt.comG ∧
    (State.latchCell s p k w c).sle = s.sle ∧ (State.latchCell s p k w c).sin = s.sin ∧ (State.latchCell s p k w c).sout = s.sout ∧
    (State.latchCell s p k w c).tmu = s.tmu ∧ (State.latchCell s p k w c).aaq = s.aaq ∧ (State.latchCell s p k w c).hpo = s.hpo ∧
    (State.latchCell s p k w c).trk = s.trk ∧ (State.latchCell s p k w c).otp = s.otp ∧ (State.latchCell s p k w c).bist = s.bist ∧
    (State.latchCell s p k w c).cvus = s.cvus ∧ (State.latchCell s p k w c).cpl = s.cpl ∧ (State.latchCell s p k w c).rcr = s.rcr ∧
    (State.latchCell s p k w c).log = s.log ∧ (State.latchCell s p k w c).fresh = s.fresh ∧
    (State.latchCell s p k w c).pending = s.pending := by
  and_intros <;> (unfold State.latchCell; with_reducible rfl)

@[simp ↓] theorem State.latchCommitted_keeps (s : State) (p : Nat) (k : Key) (w : Nat) :
    (State.latchCommitted s p k w).clk = s.clk ∧ (State.latchCommitted s p k w).pwr = s.pwr ∧
    (State.latchCommitted s p k w).sup = s.sup ∧ (State.latchCommitted s p k w).lot = s.lot ∧
    (State.latchCommitted s p k w).nmt.comG = s.nmt.comG ∧ (State.latchCommitted s p k w).sle = s.sle ∧
    (State.latchCommitted s p k w).sin = s.sin ∧ (State.latchCommitted s p k w).sout = s.sout ∧
    (State.latchCommitted s p k w).tmu = s.tmu ∧ (State.latchCommitted s p k w).aaq = s.aaq ∧
    (State.latchCommitted s p k w).hpo = s.hpo ∧ (State.latchCommitted s p k w).trk = s.trk ∧
    (State.latchCommitted s p k w).otp = s.otp ∧ (State.latchCommitted s p k w).bist = s.bist ∧
    (State.latchCommitted s p k w).cvus = s.cvus ∧ (State.latchCommitted s p k w).cpl = s.cpl ∧
    (State.latchCommitted s p k w).rcr = s.rcr ∧ (State.latchCommitted s p k w).log = s.log ∧
    (State.latchCommitted s p k w).fresh = s.fresh ∧ (State.latchCommitted s p k w).pending = s.pending := by
  and_intros <;> (unfold State.latchCommitted; with_reducible rfl)

@[simp ↓] theorem State.latchOthers_keeps (s : State) (p : Nat) (k : Key) :
    (State.latchOthers s p k).clk = s.clk ∧ (State.latchOthers s p k).pwr = s.pwr ∧ (State.latchOthers s p k).sup = s.sup ∧
    (State.latchOthers s p k).lot = s.lot ∧ (State.latchOthers s p k).nmt.comG = s.nmt.comG ∧ (State.latchOthers s p k).sle = s.sle ∧
    (State.latchOthers s p k).sin = s.sin ∧ (State.latchOthers s p k).sout = s.sout ∧ (State.latchOthers s p k).tmu = s.tmu ∧
    (State.latchOthers s p k).aaq = s.aaq ∧ (State.latchOthers s p k).hpo = s.hpo ∧ (State.latchOthers s p k).trk = s.trk ∧
    (State.latchOthers s p k).otp = s.otp ∧ (State.latchOthers s p k).bist = s.bist ∧ (State.latchOthers s p k).cvus = s.cvus ∧
    (State.latchOthers s p k).cpl = s.cpl ∧ (State.latchOthers s p k).rcr = s.rcr ∧ (State.latchOthers s p k).log = s.log ∧
    (State.latchOthers s p k).fresh = s.fresh ∧ (State.latchOthers s p k).pending = s.pending := by
  and_intros <;> (unfold State.latchOthers; simp)

@[simp ↓] theorem State.latchOwn_keeps (s : State) (p : Nat) (k : Key) (w5 : Lanes) :
    (State.latchOwn s p k w5).clk = s.clk ∧ (State.latchOwn s p k w5).pwr = s.pwr ∧ (State.latchOwn s p k w5).sup = s.sup ∧
    (State.latchOwn s p k w5).lot = s.lot ∧ (State.latchOwn s p k w5).nmt.comG = s.nmt.comG ∧ (State.latchOwn s p k w5).sle = s.sle ∧
    (State.latchOwn s p k w5).sin = s.sin ∧ (State.latchOwn s p k w5).sout = s.sout ∧ (State.latchOwn s p k w5).tmu = s.tmu ∧
    (State.latchOwn s p k w5).aaq = s.aaq ∧ (State.latchOwn s p k w5).hpo = s.hpo ∧ (State.latchOwn s p k w5).trk = s.trk ∧
    (State.latchOwn s p k w5).otp = s.otp ∧ (State.latchOwn s p k w5).bist = s.bist ∧ (State.latchOwn s p k w5).cvus = s.cvus ∧
    (State.latchOwn s p k w5).cpl = s.cpl ∧ (State.latchOwn s p k w5).rcr = s.rcr ∧ (State.latchOwn s p k w5).log = s.log ∧
    (State.latchOwn s p k w5).fresh = s.fresh ∧ (State.latchOwn s p k w5).pending = s.pending := by
  and_intros <;> (unfold State.latchOwn; simp)

@[simp ↓] theorem State.latchImage_keeps (s : State) (p : Nat) (k : Key) (ws : List (Nat × Cell)) :
    (State.latchImage s p k ws).clk = s.clk ∧ (State.latchImage s p k ws).pwr = s.pwr ∧ (State.latchImage s p k ws).sup = s.sup ∧
    (State.latchImage s p k ws).lot = s.lot ∧ (State.latchImage s p k ws).nmt.comG = s.nmt.comG ∧
    (State.latchImage s p k ws).sle = s.sle ∧ (State.latchImage s p k ws).sin = s.sin ∧ (State.latchImage s p k ws).sout = s.sout ∧
    (State.latchImage s p k ws).tmu = s.tmu ∧ (State.latchImage s p k ws).aaq = s.aaq ∧ (State.latchImage s p k ws).hpo = s.hpo ∧
    (State.latchImage s p k ws).trk = s.trk ∧ (State.latchImage s p k ws).otp = s.otp ∧ (State.latchImage s p k ws).bist = s.bist ∧
    (State.latchImage s p k ws).cvus = s.cvus ∧ (State.latchImage s p k ws).cpl = s.cpl ∧ (State.latchImage s p k ws).rcr = s.rcr ∧
    (State.latchImage s p k ws).log = s.log ∧ (State.latchImage s p k ws).fresh = s.fresh ∧
    (State.latchImage s p k ws).pending = s.pending := by
  and_intros <;> (unfold State.latchImage; simp)

end Sys2Proof.Machine
end

