-- ==== Sys2Proof/Laws/CplOps.lean ====
section
/-! SUPPORT. What the operations of Machine/CplOps.lean leave alone: for each, every part of the state that it keeps. -/

namespace Sys2Proof.Machine

@[simp ↓] theorem State.pushXl_keeps (s : State) (f : List Byte) :
    (State.pushXl s f).clk = s.clk ∧ (State.pushXl s f).pwr = s.pwr ∧ (State.pushXl s f).sup = s.sup ∧ (State.pushXl s f).lot = s.lot ∧
    (State.pushXl s f).nmt = s.nmt ∧ (State.pushXl s f).sle = s.sle ∧ (State.pushXl s f).sin = s.sin ∧ (State.pushXl s f).sout = s.sout ∧
    (State.pushXl s f).tmu = s.tmu ∧ (State.pushXl s f).aaq = s.aaq ∧ (State.pushXl s f).hpo = s.hpo ∧ (State.pushXl s f).trk = s.trk ∧
    (State.pushXl s f).otp = s.otp ∧ (State.pushXl s f).bist = s.bist ∧ (State.pushXl s f).cvus = s.cvus ∧
    (State.pushXl s f).cpl.role = s.cpl.role ∧ (State.pushXl s f).rcr = s.rcr ∧ (State.pushXl s f).log = s.log ∧
    (State.pushXl s f).fresh = s.fresh ∧ (State.pushXl s f).pending = s.pending := by
  and_intros <;> (unfold State.pushXl; with_reducible rfl)

@[simp ↓] theorem State.pushCa_keeps (s : State) (f : List Byte) :
    (State.pushCa s f).clk = s.clk ∧ (State.pushCa s f).pwr = s.pwr ∧ (State.pushCa s f).sup = s.sup ∧ (State.pushCa s f).lot = s.lot ∧
    (State.pushCa s f).nmt = s.nmt ∧ (State.pushCa s f).sle = s.sle ∧ (State.pushCa s f).sin = s.sin ∧ (State.pushCa s f).sout = s.sout ∧
    (State.pushCa s f).tmu = s.tmu ∧ (State.pushCa s f).aaq = s.aaq ∧ (State.pushCa s f).hpo = s.hpo ∧ (State.pushCa s f).trk = s.trk ∧
    (State.pushCa s f).otp = s.otp ∧ (State.pushCa s f).bist = s.bist ∧ (State.pushCa s f).cvus = s.cvus ∧
    (State.pushCa s f).cpl.role = s.cpl.role ∧ (State.pushCa s f).rcr = s.rcr ∧ (State.pushCa s f).log = s.log ∧
    (State.pushCa s f).fresh = s.fresh ∧ (State.pushCa s f).pending = s.pending := by
  and_intros <;> (unfold State.pushCa; with_reducible rfl)

@[simp ↓] theorem State.xlSend_keeps (s : State) (type part seq : Nat) (body : List Byte) :
    (State.xlSend s type part seq body).clk = s.clk ∧ (State.xlSend s type part seq body).pwr = s.pwr ∧
    (State.xlSend s type part seq body).sup = s.sup ∧ (State.xlSend s type part seq body).lot = s.lot ∧
    (State.xlSend s type part seq body).nmt = s.nmt ∧ (State.xlSend s type part seq body).sle = s.sle ∧
    (State.xlSend s type part seq body).sin = s.sin ∧ (State.xlSend s type part seq body).sout = s.sout ∧
    (State.xlSend s type part seq body).tmu = s.tmu ∧ (State.xlSend s type part seq body).aaq = s.aaq ∧
    (State.xlSend s type part seq body).hpo = s.hpo ∧ (State.xlSend s type part seq body).trk = s.trk ∧
    (State.xlSend s type part seq body).otp = s.otp ∧ (State.xlSend s type part seq body).bist = s.bist ∧
    (State.xlSend s type part seq body).cvus = s.cvus ∧ (State.xlSend s type part seq body).cpl.role = s.cpl.role ∧
    (State.xlSend s type part seq body).rcr = s.rcr ∧ (State.xlSend s type part seq body).log = s.log ∧
    (State.xlSend s type part seq body).fresh = s.fresh ∧ (State.xlSend s type part seq body).pending = s.pending := by
  and_intros <;> (unfold State.xlSend; simp)

@[simp ↓] theorem State.xlCounted_keeps (s : State) (type : Nat) (body : List Byte) :
    (State.xlCounted s type body).clk = s.clk ∧ (State.xlCounted s type body).pwr = s.pwr ∧ (State.xlCounted s type body).sup = s.sup ∧
    (State.xlCounted s type body).lot = s.lot ∧ (State.xlCounted s type body).nmt = s.nmt ∧ (State.xlCounted s type body).sle = s.sle ∧
    (State.xlCounted s type body).sin = s.sin ∧ (State.xlCounted s type body).sout = s.sout ∧ (State.xlCounted s type body).tmu = s.tmu ∧
    (State.xlCounted s type body).aaq = s.aaq ∧ (State.xlCounted s type body).hpo = s.hpo ∧ (State.xlCounted s type body).trk = s.trk ∧
    (State.xlCounted s type body).otp = s.otp ∧ (State.xlCounted s type body).bist = s.bist ∧
    (State.xlCounted s type body).cvus = s.cvus ∧ (State.xlCounted s type body).cpl.role = s.cpl.role ∧
    (State.xlCounted s type body).rcr = s.rcr ∧ (State.xlCounted s type body).log = s.log ∧
    (State.xlCounted s type body).fresh = s.fresh ∧ (State.xlCounted s type body).pending = s.pending := by
  and_intros <;> (unfold State.xlCounted; simp)

@[simp ↓] theorem State.xlControl_keeps (s : State) (code arg : Nat) :
    (State.xlControl s code arg).clk = s.clk ∧ (State.xlControl s code arg).pwr = s.pwr ∧ (State.xlControl s code arg).sup = s.sup ∧
    (State.xlControl s code arg).lot = s.lot ∧ (State.xlControl s code arg).nmt = s.nmt ∧ (State.xlControl s code arg).sle = s.sle ∧
    (State.xlControl s code arg).sin = s.sin ∧ (State.xlControl s code arg).sout = s.sout ∧ (State.xlControl s code arg).tmu = s.tmu ∧
    (State.xlControl s code arg).aaq = s.aaq ∧ (State.xlControl s code arg).hpo = s.hpo ∧ (State.xlControl s code arg).trk = s.trk ∧
    (State.xlControl s code arg).otp = s.otp ∧ (State.xlControl s code arg).bist = s.bist ∧ (State.xlControl s code arg).cvus = s.cvus ∧
    (State.xlControl s code arg).cpl.role = s.cpl.role ∧ (State.xlControl s code arg).rcr = s.rcr ∧
    (State.xlControl s code arg).log = s.log ∧ (State.xlControl s code arg).fresh = s.fresh ∧
    (State.xlControl s code arg).pending = s.pending := by
  and_intros <;> (unfold State.xlControl; simp)

@[simp ↓] theorem State.caSend_keeps (s : State) (type dest : Nat) (body : List Byte) :
    (State.caSend s type dest body).clk = s.clk ∧ (State.caSend s type dest body).pwr = s.pwr ∧
    (State.caSend s type dest body).sup = s.sup ∧ (State.caSend s type dest body).lot = s.lot ∧
    (State.caSend s type dest body).nmt = s.nmt ∧ (State.caSend s type dest body).sle = s.sle ∧
    (State.caSend s type dest body).sin = s.sin ∧ (State.caSend s type dest body).sout = s.sout ∧
    (State.caSend s type dest body).tmu = s.tmu ∧ (State.caSend s type dest body).aaq = s.aaq ∧
    (State.caSend s type dest body).hpo = s.hpo ∧ (State.caSend s type dest body).trk = s.trk ∧
    (State.caSend s type dest body).otp = s.otp ∧ (State.caSend s type dest body).bist = s.bist ∧
    (State.caSend s type dest body).cvus = s.cvus ∧ (State.caSend s type dest body).cpl.role = s.cpl.role ∧
    (State.caSend s type dest body).rcr = s.rcr ∧ (State.caSend s type dest body).log = s.log ∧
    (State.caSend s type dest body).fresh = s.fresh ∧ (State.caSend s type dest body).pending = s.pending := by
  and_intros <;> (unfold State.caSend; simp)

@[simp ↓] theorem State.caControl_keeps (s : State) (dest code arg : Nat) :
    (State.caControl s dest code arg).clk = s.clk ∧ (State.caControl s dest code arg).pwr = s.pwr ∧
    (State.caControl s dest code arg).sup = s.sup ∧ (State.caControl s dest code arg).lot = s.lot ∧
    (State.caControl s dest code arg).nmt = s.nmt ∧ (State.caControl s dest code arg).sle = s.sle ∧
    (State.caControl s dest code arg).sin = s.sin ∧ (State.caControl s dest code arg).sout = s.sout ∧
    (State.caControl s dest code arg).tmu = s.tmu ∧ (State.caControl s dest code arg).aaq = s.aaq ∧
    (State.caControl s dest code arg).hpo = s.hpo ∧ (State.caControl s dest code arg).trk = s.trk ∧
    (State.caControl s dest code arg).otp = s.otp ∧ (State.caControl s dest code arg).bist = s.bist ∧
    (State.caControl s dest code arg).cvus = s.cvus ∧ (State.caControl s dest code arg).cpl.role = s.cpl.role ∧
    (State.caControl s dest code arg).rcr = s.rcr ∧ (State.caControl s dest code arg).log = s.log ∧
    (State.caControl s dest code arg).fresh = s.fresh ∧ (State.caControl s dest code arg).pending = s.pending := by
  and_intros <;> (unfold State.caControl; simp)

@[simp ↓] theorem State.sendWords_keeps (s : State) (p : Nat) :
    (State.sendWords s p).clk = s.clk ∧ (State.sendWords s p).pwr = s.pwr ∧ (State.sendWords s p).sup = s.sup ∧
    (State.sendWords s p).lot = s.lot ∧ (State.sendWords s p).nmt = s.nmt ∧ (State.sendWords s p).sle = s.sle ∧
    (State.sendWords s p).sin = s.sin ∧ (State.sendWords s p).sout = s.sout ∧ (State.sendWords s p).tmu = s.tmu ∧
    (State.sendWords s p).aaq = s.aaq ∧ (State.sendWords s p).hpo = s.hpo ∧ (State.sendWords s p).trk = s.trk ∧
    (State.sendWords s p).otp = s.otp ∧ (State.sendWords s p).bist = s.bist ∧ (State.sendWords s p).cvus = s.cvus ∧
    (State.sendWords s p).cpl.role = s.cpl.role ∧ (State.sendWords s p).rcr = s.rcr ∧ (State.sendWords s p).log = s.log ∧
    (State.sendWords s p).fresh = s.fresh ∧ (State.sendWords s p).pending = s.pending := by
  and_intros <;> (unfold State.sendWords; simp)

@[simp ↓] theorem State.faultSource_keeps (s : State) (m : Nat) :
    (State.faultSource s m).clk = s.clk ∧ (State.faultSource s m).pwr = s.pwr ∧ (State.faultSource s m).sup = s.sup ∧
    (State.faultSource s m).lot = s.lot ∧ (State.faultSource s m).sle = s.sle ∧ (State.faultSource s m).sin = s.sin ∧
    (State.faultSource s m).sout = s.sout ∧ (State.faultSource s m).tmu = s.tmu ∧ (State.faultSource s m).aaq = s.aaq ∧
    (State.faultSource s m).hpo.reply = s.hpo.reply ∧ (State.faultSource s m).hpo.partner = s.hpo.partner ∧
    (State.faultSource s m).trk = s.trk ∧ (State.faultSource s m).otp = s.otp ∧ (State.faultSource s m).cvus = s.cvus ∧
    (State.faultSource s m).cpl.role = s.cpl.role ∧ (State.faultSource s m).rcr = s.rcr ∧ (State.faultSource s m).fresh = s.fresh ∧
    (State.faultSource s m).pending = s.pending := by
  and_intros <;> (unfold State.faultSource; simp)

@[simp ↓] theorem State.pairFault_keeps (s : State) :
    (State.pairFault s).clk = s.clk ∧ (State.pairFault s).pwr = s.pwr ∧ (State.pairFault s).sup = s.sup ∧
    (State.pairFault s).lot = s.lot ∧ (State.pairFault s).sle = s.sle ∧ (State.pairFault s).sin = s.sin ∧
    (State.pairFault s).sout = s.sout ∧ (State.pairFault s).tmu = s.tmu ∧ (State.pairFault s).aaq = s.aaq ∧
    (State.pairFault s).hpo.reply = s.hpo.reply ∧ (State.pairFault s).hpo.partner = s.hpo.partner ∧ (State.pairFault s).trk = s.trk ∧
    (State.pairFault s).otp = s.otp ∧ (State.pairFault s).cvus = s.cvus ∧ (State.pairFault s).cpl = s.cpl ∧
    (State.pairFault s).rcr = s.rcr ∧ (State.pairFault s).fresh = s.fresh ∧ (State.pairFault s).pending = s.pending := by
  and_intros <;> (unfold State.pairFault; simp)

@[simp ↓] theorem State.linksLost_keeps (s : State) :
    (State.linksLost s).clk = s.clk ∧ (State.linksLost s).pwr = s.pwr ∧ (State.linksLost s).sup = s.sup ∧
    (State.linksLost s).lot = s.lot ∧ (State.linksLost s).sle = s.sle ∧ (State.linksLost s).sin = s.sin ∧
    (State.linksLost s).sout = s.sout ∧ (State.linksLost s).tmu = s.tmu ∧ (State.linksLost s).aaq = s.aaq ∧
    (State.linksLost s).hpo.reply = s.hpo.reply ∧ (State.linksLost s).hpo.partner = s.hpo.partner ∧ (State.linksLost s).trk = s.trk ∧
    (State.linksLost s).otp = s.otp ∧ (State.linksLost s).cvus = s.cvus ∧ (State.linksLost s).cpl.role = s.cpl.role ∧
    (State.linksLost s).rcr = s.rcr ∧ (State.linksLost s).fresh = s.fresh ∧ (State.linksLost s).pending = s.pending := by
  and_intros <;> (unfold State.linksLost; simp)

@[simp ↓] theorem State.pullTrip_keeps (s : State) :
    (State.pullTrip s).clk = s.clk ∧ (State.pullTrip s).pwr = s.pwr ∧ (State.pullTrip s).sup = s.sup ∧ (State.pullTrip s).lot = s.lot ∧
    (State.pullTrip s).nmt = s.nmt ∧ (State.pullTrip s).sle = s.sle ∧ (State.pullTrip s).sin = s.sin ∧ (State.pullTrip s).sout = s.sout ∧
    (State.pullTrip s).tmu = s.tmu ∧ (State.pullTrip s).aaq = s.aaq ∧ (State.pullTrip s).hpo.reply = s.hpo.reply ∧
    (State.pullTrip s).hpo.partner = s.hpo.partner ∧ (State.pullTrip s).trk = s.trk ∧ (State.pullTrip s).otp = s.otp ∧
    (State.pullTrip s).bist = s.bist ∧ (State.pullTrip s).cvus = s.cvus ∧ (State.pullTrip s).cpl.role = s.cpl.role ∧
    (State.pullTrip s).rcr = s.rcr ∧ (State.pullTrip s).fresh = s.fresh ∧ (State.pullTrip s).pending = s.pending := by
  and_intros <;> (unfold State.pullTrip; simp)

@[simp ↓] theorem State.ownLatch_keeps (s : State) (p : Nat) :
    (State.ownLatch s p).clk = s.clk ∧ (State.ownLatch s p).pwr = s.pwr ∧ (State.ownLatch s p).sup = s.sup ∧
    (State.ownLatch s p).lot = s.lot ∧ (State.ownLatch s p).nmt.comG = s.nmt.comG ∧ (State.ownLatch s p).sle.epoch = s.sle.epoch ∧
    (State.ownLatch s p).sle.lfsr = s.sle.lfsr ∧ (State.ownLatch s p).sin = s.sin ∧ (State.ownLatch s p).sout = s.sout ∧
    (State.ownLatch s p).tmu = s.tmu ∧ (State.ownLatch s p).aaq = s.aaq ∧ (State.ownLatch s p).hpo = s.hpo ∧
    (State.ownLatch s p).trk = s.trk ∧ (State.ownLatch s p).otp = s.otp ∧ (State.ownLatch s p).bist = s.bist ∧
    (State.ownLatch s p).cvus = s.cvus ∧ (State.ownLatch s p).cpl = s.cpl ∧ (State.ownLatch s p).rcr = s.rcr ∧
    (State.ownLatch s p).log = s.log ∧ (State.ownLatch s p).fresh = s.fresh ∧ (State.ownLatch s p).pending = s.pending := by
  and_intros <;> (unfold State.ownLatch; simp)

@[simp ↓] theorem State.kick_keeps (s : State) :
    (State.kick s).clk = s.clk ∧ (State.kick s).pwr = s.pwr ∧ (State.kick s).sup = s.sup ∧ (State.kick s).lot = s.lot ∧
    (State.kick s).nmt = s.nmt ∧ (State.kick s).sle.epoch = s.sle.epoch ∧ (State.kick s).sle.lfsr = s.sle.lfsr ∧
    (State.kick s).sin = s.sin ∧ (State.kick s).sout = s.sout ∧ (State.kick s).tmu = s.tmu ∧ (State.kick s).aaq = s.aaq ∧
    (State.kick s).hpo = s.hpo ∧ (State.kick s).trk = s.trk ∧ (State.kick s).otp = s.otp ∧ (State.kick s).bist = s.bist ∧
    (State.kick s).cvus = s.cvus ∧ (State.kick s).cpl = s.cpl ∧ (State.kick s).rcr = s.rcr ∧ (State.kick s).log = s.log ∧
    (State.kick s).fresh = s.fresh ∧ (State.kick s).pending = s.pending := by
  and_intros <;> (unfold State.kick; first | (with_reducible rfl) | (simp; done) | (repeat' (first | (simp; done) | split)))

@[simp ↓] theorem State.ownLatches_keeps (s : State) :
    (State.ownLatches s).clk = s.clk ∧ (State.ownLatches s).pwr = s.pwr ∧ (State.ownLatches s).sup = s.sup ∧
    (State.ownLatches s).lot = s.lot ∧ (State.ownLatches s).nmt.comG = s.nmt.comG ∧ (State.ownLatches s).sle.epoch = s.sle.epoch ∧
    (State.ownLatches s).sle.lfsr = s.sle.lfsr ∧ (State.ownLatches s).sin = s.sin ∧ (State.ownLatches s).sout = s.sout ∧
    (State.ownLatches s).tmu = s.tmu ∧ (State.ownLatches s).aaq = s.aaq ∧ (State.ownLatches s).hpo = s.hpo ∧
    (State.ownLatches s).trk = s.trk ∧ (State.ownLatches s).otp = s.otp ∧ (State.ownLatches s).bist = s.bist ∧
    (State.ownLatches s).cvus = s.cvus ∧ (State.ownLatches s).cpl = s.cpl ∧ (State.ownLatches s).rcr = s.rcr ∧
    (State.ownLatches s).log = s.log ∧ (State.ownLatches s).fresh = s.fresh ∧ (State.ownLatches s).pending = s.pending := by
  and_intros <;> (unfold State.ownLatches; simp)

@[simp ↓] theorem State.dropImages_keeps (s : State) :
    (State.dropImages s).clk = s.clk ∧ (State.dropImages s).pwr = s.pwr ∧ (State.dropImages s).sup = s.sup ∧
    (State.dropImages s).lot = s.lot ∧ (State.dropImages s).nmt = s.nmt ∧ (State.dropImages s).sle = s.sle ∧
    (State.dropImages s).sin = s.sin ∧ (State.dropImages s).sout = s.sout ∧ (State.dropImages s).tmu = s.tmu ∧
    (State.dropImages s).aaq = s.aaq ∧ (State.dropImages s).hpo = s.hpo ∧ (State.dropImages s).trk = s.trk ∧
    (State.dropImages s).otp = s.otp ∧ (State.dropImages s).bist = s.bist ∧ (State.dropImages s).cvus = s.cvus ∧
    (State.dropImages s).cpl.role = s.cpl.role ∧ (State.dropImages s).rcr = s.rcr ∧ (State.dropImages s).log = s.log ∧
    (State.dropImages s).fresh = s.fresh ∧ (State.dropImages s).pending = s.pending := by
  and_intros <;> (unfold State.dropImages; with_reducible rfl)

@[simp ↓] theorem State.isolate_keeps (s : State) :
    (State.isolate s).clk = s.clk ∧ (State.isolate s).pwr = s.pwr ∧ (State.isolate s).sup = s.sup ∧ (State.isolate s).lot = s.lot ∧
    (State.isolate s).nmt.comG = s.nmt.comG ∧ (State.isolate s).sle.epoch = s.sle.epoch ∧ (State.isolate s).sle.lfsr = s.sle.lfsr ∧
    (State.isolate s).sin = s.sin ∧ (State.isolate s).sout = s.sout ∧ (State.isolate s).tmu = s.tmu ∧ (State.isolate s).aaq = s.aaq ∧
    (State.isolate s).hpo.reply = s.hpo.reply ∧ (State.isolate s).hpo.partner = s.hpo.partner ∧ (State.isolate s).trk = s.trk ∧
    (State.isolate s).otp = s.otp ∧ (State.isolate s).bist = s.bist ∧ (State.isolate s).cvus = s.cvus ∧
    (State.isolate s).fresh = s.fresh ∧ (State.isolate s).pending = s.pending := by
  and_intros <;> (unfold State.isolate; simp)

@[simp ↓] theorem State.runFree_keeps (s : State) :
    (State.runFree s).clk.now = s.clk.now ∧ (State.runFree s).clk.real = s.clk.real ∧ (State.runFree s).clk.running = s.clk.running ∧
    (State.runFree s).pwr = s.pwr ∧ (State.runFree s).sup = s.sup ∧ (State.runFree s).lot = s.lot ∧ (State.runFree s).nmt = s.nmt ∧
    (State.runFree s).sle = s.sle ∧ (State.runFree s).sin = s.sin ∧ (State.runFree s).sout = s.sout ∧ (State.runFree s).tmu = s.tmu ∧
    (State.runFree s).aaq = s.aaq ∧ (State.runFree s).hpo = s.hpo ∧ (State.runFree s).trk = s.trk ∧ (State.runFree s).otp = s.otp ∧
    (State.runFree s).bist = s.bist ∧ (State.runFree s).cvus = s.cvus ∧ (State.runFree s).cpl = s.cpl ∧ (State.runFree s).rcr = s.rcr ∧
    (State.runFree s).log = s.log ∧ (State.runFree s).fresh = s.fresh ∧ (State.runFree s).pending = s.pending := by
  and_intros <;> (unfold State.runFree; with_reducible rfl)

@[simp ↓] theorem State.newEpoch_keeps (s : State) (fresh : Bool) (e : Nat) :
    (State.newEpoch s fresh e).clk = s.clk ∧ (State.newEpoch s fresh e).pwr = s.pwr ∧ (State.newEpoch s fresh e).sup = s.sup ∧
    (State.newEpoch s fresh e).lot = s.lot ∧ (State.newEpoch s fresh e).nmt = s.nmt ∧ (State.newEpoch s fresh e).sle.lfsr = s.sle.lfsr ∧
    (State.newEpoch s fresh e).sin = s.sin ∧ (State.newEpoch s fresh e).sout = s.sout ∧ (State.newEpoch s fresh e).tmu = s.tmu ∧
    (State.newEpoch s fresh e).aaq = s.aaq ∧ (State.newEpoch s fresh e).hpo = s.hpo ∧ (State.newEpoch s fresh e).otp = s.otp ∧
    (State.newEpoch s fresh e).bist = s.bist ∧ (State.newEpoch s fresh e).cvus = s.cvus ∧ (State.newEpoch s fresh e).cpl = s.cpl ∧
    (State.newEpoch s fresh e).log = s.log ∧ (State.newEpoch s fresh e).fresh = s.fresh ∧ (State.newEpoch s fresh e).pending = s.pending := by
  and_intros <;> (unfold State.newEpoch; simp)

@[simp ↓] theorem State.freshEpoch_keeps (s : State) (fresh : Bool) :
    (State.freshEpoch s fresh).clk = s.clk ∧ (State.freshEpoch s fresh).pwr = s.pwr ∧ (State.freshEpoch s fresh).sup = s.sup ∧
    (State.freshEpoch s fresh).lot = s.lot ∧ (State.freshEpoch s fresh).nmt = s.nmt ∧ (State.freshEpoch s fresh).sle.lfsr = s.sle.lfsr ∧
    (State.freshEpoch s fresh).sin = s.sin ∧ (State.freshEpoch s fresh).sout = s.sout ∧ (State.freshEpoch s fresh).tmu = s.tmu ∧
    (State.freshEpoch s fresh).aaq = s.aaq ∧ (State.freshEpoch s fresh).hpo = s.hpo ∧ (State.freshEpoch s fresh).otp = s.otp ∧
    (State.freshEpoch s fresh).bist = s.bist ∧ (State.freshEpoch s fresh).cvus = s.cvus ∧ (State.freshEpoch s fresh).cpl = s.cpl ∧
    (State.freshEpoch s fresh).log = s.log ∧ (State.freshEpoch s fresh).fresh = s.fresh ∧ (State.freshEpoch s fresh).pending = s.pending := by
  and_intros <;> (unfold State.freshEpoch; simp)

@[simp ↓] theorem State.becomeActive_keeps (s : State) :
    (State.becomeActive s).clk.now = s.clk.now ∧ (State.becomeActive s).clk.real = s.clk.real ∧
    (State.becomeActive s).clk.running = s.clk.running ∧ (State.becomeActive s).pwr = s.pwr ∧ (State.becomeActive s).sup = s.sup ∧
    (State.becomeActive s).lot = s.lot ∧ (State.becomeActive s).nmt = s.nmt ∧ (State.becomeActive s).sle.lfsr = s.sle.lfsr ∧
    (State.becomeActive s).sin = s.sin ∧ (State.becomeActive s).sout.w8 = s.sout.w8 ∧ (State.becomeActive s).tmu = s.tmu ∧
    (State.becomeActive s).aaq = s.aaq ∧ (State.becomeActive s).hpo = s.hpo ∧ (State.becomeActive s).otp = s.otp ∧
    (State.becomeActive s).bist = s.bist ∧ (State.becomeActive s).cvus = s.cvus ∧ (State.becomeActive s).log = s.log ∧
    (State.becomeActive s).fresh = s.fresh ∧ (State.becomeActive s).pending = s.pending := by
  and_intros <;> (unfold State.becomeActive; simp)

@[simp ↓] theorem State.enterResync_keeps (s : State) :
    (State.enterResync s).clk = s.clk ∧ (State.enterResync s).pwr = s.pwr ∧ (State.enterResync s).sup = s.sup ∧
    (State.enterResync s).lot = s.lot ∧ (State.enterResync s).nmt = s.nmt ∧ (State.enterResync s).sle = s.sle ∧
    (State.enterResync s).sin = s.sin ∧ (State.enterResync s).sout.w8 = s.sout.w8 ∧ (State.enterResync s).tmu = s.tmu ∧
    (State.enterResync s).aaq = s.aaq ∧ (State.enterResync s).hpo = s.hpo ∧ (State.enterResync s).trk = s.trk ∧
    (State.enterResync s).otp = s.otp ∧ (State.enterResync s).bist = s.bist ∧ (State.enterResync s).cvus = s.cvus ∧
    (State.enterResync s).log = s.log ∧ (State.enterResync s).fresh = s.fresh ∧ (State.enterResync s).pending = s.pending := by
  and_intros <;> (unfold State.enterResync; simp)

@[simp ↓] theorem State.resyncTry_keeps (s : State) :
    (State.resyncTry s).clk = s.clk ∧ (State.resyncTry s).pwr = s.pwr ∧ (State.resyncTry s).sup = s.sup ∧
    (State.resyncTry s).lot = s.lot ∧ (State.resyncTry s).nmt = s.nmt ∧ (State.resyncTry s).sle = s.sle ∧
    (State.resyncTry s).sin = s.sin ∧ (State.resyncTry s).sout = s.sout ∧ (State.resyncTry s).tmu = s.tmu ∧
    (State.resyncTry s).aaq = s.aaq ∧ (State.resyncTry s).hpo.reply = s.hpo.reply ∧ (State.resyncTry s).hpo.partner = s.hpo.partner ∧
    (State.resyncTry s).trk = s.trk ∧ (State.resyncTry s).otp = s.otp ∧ (State.resyncTry s).bist = s.bist ∧
    (State.resyncTry s).cvus = s.cvus ∧ (State.resyncTry s).cpl.role = s.cpl.role ∧ (State.resyncTry s).rcr = s.rcr ∧
    (State.resyncTry s).fresh = s.fresh ∧ (State.resyncTry s).pending = s.pending := by
  and_intros <;> (unfold State.resyncTry; simp)

@[simp ↓] theorem State.resyncRestart_keeps (s : State) :
    (State.resyncRestart s).clk = s.clk ∧ (State.resyncRestart s).pwr = s.pwr ∧ (State.resyncRestart s).sup = s.sup ∧
    (State.resyncRestart s).lot = s.lot ∧ (State.resyncRestart s).nmt.comG = s.nmt.comG ∧
    (State.resyncRestart s).sle.epoch = s.sle.epoch ∧ (State.resyncRestart s).sle.lfsr = s.sle.lfsr ∧
    (State.resyncRestart s).sin = s.sin ∧ (State.resyncRestart s).sout = s.sout ∧ (State.resyncRestart s).tmu = s.tmu ∧
    (State.resyncRestart s).aaq = s.aaq ∧ (State.resyncRestart s).hpo.reply = s.hpo.reply ∧
    (State.resyncRestart s).hpo.partner = s.hpo.partner ∧ (State.resyncRestart s).trk = s.trk ∧ (State.resyncRestart s).otp = s.otp ∧
    (State.resyncRestart s).bist = s.bist ∧ (State.resyncRestart s).cvus = s.cvus ∧ (State.resyncRestart s).fresh = s.fresh ∧
    (State.resyncRestart s).pending = s.pending := by
  and_intros <;> (unfold State.resyncRestart; simp)

@[simp ↓] theorem State.decideRole_keeps (s : State) :
    (State.decideRole s).clk.now = s.clk.now ∧ (State.decideRole s).clk.real = s.clk.real ∧
    (State.decideRole s).clk.running = s.clk.running ∧ (State.decideRole s).pwr = s.pwr ∧ (State.decideRole s).sup = s.sup ∧
    (State.decideRole s).lot = s.lot ∧ (State.decideRole s).nmt = s.nmt ∧ (State.decideRole s).sle.lfsr = s.sle.lfsr ∧
    (State.decideRole s).sin = s.sin ∧ (State.decideRole s).sout.w8 = s.sout.w8 ∧ (State.decideRole s).tmu = s.tmu ∧
    (State.decideRole s).aaq = s.aaq ∧ (State.decideRole s).hpo.reply = s.hpo.reply ∧ (State.decideRole s).hpo.partner = s.hpo.partner ∧
    (State.decideRole s).otp = s.otp ∧ (State.decideRole s).bist = s.bist ∧ (State.decideRole s).cvus = s.cvus ∧
    (State.decideRole s).fresh = s.fresh ∧ (State.decideRole s).pending = s.pending := by
  and_intros <;> (unfold State.decideRole; simp)

@[simp ↓] theorem State.rejoin_keeps (s : State) :
    (State.rejoin s).clk = s.clk ∧ (State.rejoin s).pwr = s.pwr ∧ (State.rejoin s).sup = s.sup ∧ (State.rejoin s).lot = s.lot ∧
    (State.rejoin s).nmt = s.nmt ∧ (State.rejoin s).sle = s.sle ∧ (State.rejoin s).sin = s.sin ∧ (State.rejoin s).sout.w8 = s.sout.w8 ∧
    (State.rejoin s).tmu = s.tmu ∧ (State.rejoin s).aaq = s.aaq ∧ (State.rejoin s).hpo.reply = s.hpo.reply ∧
    (State.rejoin s).hpo.partner = s.hpo.partner ∧ (State.rejoin s).trk = s.trk ∧ (State.rejoin s).otp = s.otp ∧
    (State.rejoin s).bist = s.bist ∧ (State.rejoin s).cvus = s.cvus ∧ (State.rejoin s).fresh = s.fresh ∧
    (State.rejoin s).pending = s.pending := by
  and_intros <;> (unfold State.rejoin; simp)

@[simp ↓] theorem State.startRole_keeps (s : State) :
    (State.startRole s).clk.now = s.clk.now ∧ (State.startRole s).clk.real = s.clk.real ∧
    (State.startRole s).clk.running = s.clk.running ∧ (State.startRole s).pwr = s.pwr ∧ (State.startRole s).sup = s.sup ∧
    (State.startRole s).lot = s.lot ∧ (State.startRole s).nmt = s.nmt ∧ (State.startRole s).sle.lfsr = s.sle.lfsr ∧
    (State.startRole s).sin = s.sin ∧ (State.startRole s).sout.w8 = s.sout.w8 ∧ (State.startRole s).tmu = s.tmu ∧
    (State.startRole s).aaq = s.aaq ∧ (State.startRole s).hpo.reply = s.hpo.reply ∧ (State.startRole s).hpo.partner = s.hpo.partner ∧
    (State.startRole s).otp = s.otp ∧ (State.startRole s).bist = s.bist ∧ (State.startRole s).cvus = s.cvus ∧
    (State.startRole s).fresh = s.fresh ∧ (State.startRole s).pending = s.pending := by
  and_intros <;> (unfold State.startRole; simp)

@[simp ↓] theorem State.sendImage_keeps (s : State) (p : Nat) :
    (State.sendImage s p).clk = s.clk ∧ (State.sendImage s p).pwr = s.pwr ∧ (State.sendImage s p).sup = s.sup ∧
    (State.sendImage s p).lot = s.lot ∧ (State.sendImage s p).nmt = s.nmt ∧ (State.sendImage s p).sle = s.sle ∧
    (State.sendImage s p).sin = s.sin ∧ (State.sendImage s p).sout = s.sout ∧ (State.sendImage s p).tmu = s.tmu ∧
    (State.sendImage s p).aaq = s.aaq ∧ (State.sendImage s p).hpo = s.hpo ∧ (State.sendImage s p).trk = s.trk ∧
    (State.sendImage s p).otp = s.otp ∧ (State.sendImage s p).bist = s.bist ∧ (State.sendImage s p).cvus = s.cvus ∧
    (State.sendImage s p).cpl.role = s.cpl.role ∧ (State.sendImage s p).rcr = s.rcr ∧ (State.sendImage s p).log = s.log ∧
    (State.sendImage s p).fresh = s.fresh ∧ (State.sendImage s p).pending = s.pending := by
  and_intros <;> (unfold State.sendImage; simp)

@[simp ↓] theorem State.sendPairWords_keeps (s : State) (p : Nat) :
    (State.sendPairWords s p).clk = s.clk ∧ (State.sendPairWords s p).pwr = s.pwr ∧ (State.sendPairWords s p).sup = s.sup ∧
    (State.sendPairWords s p).lot = s.lot ∧ (State.sendPairWords s p).nmt = s.nmt ∧ (State.sendPairWords s p).sle = s.sle ∧
    (State.sendPairWords s p).sin = s.sin ∧ (State.sendPairWords s p).sout = s.sout ∧ (State.sendPairWords s p).tmu = s.tmu ∧
    (State.sendPairWords s p).aaq = s.aaq ∧ (State.sendPairWords s p).hpo = s.hpo ∧ (State.sendPairWords s p).trk = s.trk ∧
    (State.sendPairWords s p).otp = s.otp ∧ (State.sendPairWords s p).bist = s.bist ∧ (State.sendPairWords s p).cvus = s.cvus ∧
    (State.sendPairWords s p).cpl.role = s.cpl.role ∧ (State.sendPairWords s p).rcr = s.rcr ∧ (State.sendPairWords s p).log = s.log ∧
    (State.sendPairWords s p).fresh = s.fresh ∧ (State.sendPairWords s p).pending = s.pending := by
  and_intros <;> (unfold State.sendPairWords; simp)

@[simp ↓] theorem State.frontStep_keeps (ws : List (Nat × Cell)) (a : State) (e : Nat × Nat × Nat) :
    (State.frontStep ws a e).clk = a.clk ∧ (State.frontStep ws a e).pwr = a.pwr ∧ (State.frontStep ws a e).sup = a.sup ∧
    (State.frontStep ws a e).lot = a.lot ∧ (State.frontStep ws a e).nmt = a.nmt ∧ (State.frontStep ws a e).sle = a.sle ∧
    (State.frontStep ws a e).sin = a.sin ∧ (State.frontStep ws a e).sout = a.sout ∧ (State.frontStep ws a e).tmu = a.tmu ∧
    (State.frontStep ws a e).aaq = a.aaq ∧ (State.frontStep ws a e).hpo.reply = a.hpo.reply ∧
    (State.frontStep ws a e).hpo.partner = a.hpo.partner ∧ (State.frontStep ws a e).trk = a.trk ∧ (State.frontStep ws a e).otp = a.otp ∧
    (State.frontStep ws a e).bist = a.bist ∧ (State.frontStep ws a e).cvus = a.cvus ∧ (State.frontStep ws a e).cpl.role = a.cpl.role ∧
    (State.frontStep ws a e).rcr = a.rcr ∧ (State.frontStep ws a e).fresh = a.fresh ∧ (State.frontStep ws a e).pending = a.pending := by
  and_intros <;> (unfold State.frontStep; first | (with_reducible rfl) | (simp; done) | (repeat' (first | (simp; done) | split)))

@[simp ↓] theorem State.frontCheck_keeps (s : State) (ws : List (Nat × Cell)) :
    (State.frontCheck s ws).clk = s.clk ∧ (State.frontCheck s ws).pwr = s.pwr ∧ (State.frontCheck s ws).sup = s.sup ∧
    (State.frontCheck s ws).lot = s.lot ∧ (State.frontCheck s ws).nmt = s.nmt ∧ (State.frontCheck s ws).sle = s.sle ∧
    (State.frontCheck s ws).sin = s.sin ∧ (State.frontCheck s ws).sout = s.sout ∧ (State.frontCheck s ws).tmu = s.tmu ∧
    (State.frontCheck s ws).aaq = s.aaq ∧ (State.frontCheck s ws).hpo.reply = s.hpo.reply ∧
    (State.frontCheck s ws).hpo.partner = s.hpo.partner ∧ (State.frontCheck s ws).trk = s.trk ∧ (State.frontCheck s ws).otp = s.otp ∧
    (State.frontCheck s ws).bist = s.bist ∧ (State.frontCheck s ws).cvus = s.cvus ∧ (State.frontCheck s ws).cpl.role = s.cpl.role ∧
    (State.frontCheck s ws).rcr = s.rcr ∧ (State.frontCheck s ws).fresh = s.fresh ∧ (State.frontCheck s ws).pending = s.pending := by
  and_intros <;> (unfold State.frontCheck; simp)

@[simp ↓] theorem State.readbackCheck_keeps (s : State) (ws : List (Nat × Cell)) :
    (State.readbackCheck s ws).clk = s.clk ∧ (State.readbackCheck s ws).pwr = s.pwr ∧ (State.readbackCheck s ws).sup = s.sup ∧
    (State.readbackCheck s ws).lot = s.lot ∧ (State.readbackCheck s ws).nmt = s.nmt ∧ (State.readbackCheck s ws).sle = s.sle ∧
    (State.readbackCheck s ws).sin = s.sin ∧ (State.readbackCheck s ws).tmu = s.tmu ∧ (State.readbackCheck s ws).aaq = s.aaq ∧
    (State.readbackCheck s ws).hpo.reply = s.hpo.reply ∧ (State.readbackCheck s ws).hpo.partner = s.hpo.partner ∧
    (State.readbackCheck s ws).trk = s.trk ∧ (State.readbackCheck s ws).otp = s.otp ∧ (State.readbackCheck s ws).bist = s.bist ∧
    (State.readbackCheck s ws).cvus = s.cvus ∧ (State.readbackCheck s ws).cpl.role = s.cpl.role ∧
    (State.readbackCheck s ws).rcr = s.rcr ∧ (State.readbackCheck s ws).fresh = s.fresh ∧ (State.readbackCheck s ws).pending = s.pending := by
  and_intros <;> (unfold State.readbackCheck; first | (with_reducible rfl) | (simp; done) | (repeat' (first | (simp; done) | split)))

@[simp ↓] theorem State.useImage_keeps (s : State) (p : Nat) (i : PImage) :
    (State.useImage s p i).clk = s.clk ∧ (State.useImage s p i).pwr = s.pwr ∧ (State.useImage s p i).sup = s.sup ∧
    (State.useImage s p i).lot = s.lot ∧ (State.useImage s p i).nmt.comG = s.nmt.comG ∧ (State.useImage s p i).sle.epoch = s.sle.epoch ∧
    (State.useImage s p i).sle.lfsr = s.sle.lfsr ∧ (State.useImage s p i).sin = s.sin ∧ (State.useImage s p i).sout = s.sout ∧
    (State.useImage s p i).tmu = s.tmu ∧ (State.useImage s p i).aaq = s.aaq ∧ (State.useImage s p i).hpo.reply = s.hpo.reply ∧
    (State.useImage s p i).hpo.partner = s.hpo.partner ∧ (State.useImage s p i).trk = s.trk ∧ (State.useImage s p i).otp = s.otp ∧
    (State.useImage s p i).bist = s.bist ∧ (State.useImage s p i).cvus = s.cvus ∧ (State.useImage s p i).cpl.role = s.cpl.role ∧
    (State.useImage s p i).rcr = s.rcr ∧ (State.useImage s p i).fresh = s.fresh ∧ (State.useImage s p i).pending = s.pending := by
  and_intros <;> (unfold State.useImage; simp)

@[simp ↓] theorem State.tryImage_keeps (s : State) (p : Nat) :
    (State.tryImage s p).clk = s.clk ∧ (State.tryImage s p).pwr = s.pwr ∧ (State.tryImage s p).sup = s.sup ∧
    (State.tryImage s p).lot = s.lot ∧ (State.tryImage s p).nmt.comG = s.nmt.comG ∧ (State.tryImage s p).sle.epoch = s.sle.epoch ∧
    (State.tryImage s p).sle.lfsr = s.sle.lfsr ∧ (State.tryImage s p).sin = s.sin ∧ (State.tryImage s p).sout = s.sout ∧
    (State.tryImage s p).tmu = s.tmu ∧ (State.tryImage s p).aaq = s.aaq ∧ (State.tryImage s p).hpo.reply = s.hpo.reply ∧
    (State.tryImage s p).hpo.partner = s.hpo.partner ∧ (State.tryImage s p).trk = s.trk ∧ (State.tryImage s p).otp = s.otp ∧
    (State.tryImage s p).bist = s.bist ∧ (State.tryImage s p).cvus = s.cvus ∧ (State.tryImage s p).cpl.role = s.cpl.role ∧
    (State.tryImage s p).rcr = s.rcr ∧ (State.tryImage s p).fresh = s.fresh ∧ (State.tryImage s p).pending = s.pending := by
  and_intros <;> (unfold State.tryImage; first | (with_reducible rfl) | (simp; done) | (repeat' (first | (simp; done) | split)))

@[simp ↓] theorem State.newKey_keeps (s : State) (p : Nat) (failed : Key) :
    (State.newKey s p failed).1.clk = s.clk ∧ (State.newKey s p failed).1.pwr = s.pwr ∧ (State.newKey s p failed).1.sup = s.sup ∧
    (State.newKey s p failed).1.lot = s.lot ∧ (State.newKey s p failed).1.nmt = s.nmt ∧
    (State.newKey s p failed).1.sle.epoch = s.sle.epoch ∧ (State.newKey s p failed).1.sin = s.sin ∧
    (State.newKey s p failed).1.sout = s.sout ∧ (State.newKey s p failed).1.tmu = s.tmu ∧ (State.newKey s p failed).1.aaq = s.aaq ∧
    (State.newKey s p failed).1.hpo = s.hpo ∧ (State.newKey s p failed).1.trk = s.trk ∧ (State.newKey s p failed).1.otp = s.otp ∧
    (State.newKey s p failed).1.bist = s.bist ∧ (State.newKey s p failed).1.cvus = s.cvus ∧ (State.newKey s p failed).1.cpl = s.cpl ∧
    (State.newKey s p failed).1.rcr = s.rcr ∧ (State.newKey s p failed).1.log = s.log ∧ (State.newKey s p failed).1.fresh = s.fresh ∧
    (State.newKey s p failed).1.pending = s.pending := by
  and_intros <;> (unfold State.newKey; with_reducible rfl)

@[simp ↓] theorem State.catchUp_keeps (s : State) :
    (State.catchUp s).clk = s.clk ∧ (State.catchUp s).pwr = s.pwr ∧ (State.catchUp s).sup = s.sup ∧ (State.catchUp s).lot = s.lot ∧
    (State.catchUp s).nmt.comG = s.nmt.comG ∧ (State.catchUp s).sle.epoch = s.sle.epoch ∧ (State.catchUp s).sin = s.sin ∧
    (State.catchUp s).sout = s.sout ∧ (State.catchUp s).tmu = s.tmu ∧ (State.catchUp s).aaq = s.aaq ∧
    (State.catchUp s).hpo.reply = s.hpo.reply ∧ (State.catchUp s).hpo.partner = s.hpo.partner ∧ (State.catchUp s).trk = s.trk ∧
    (State.catchUp s).otp = s.otp ∧ (State.catchUp s).bist = s.bist ∧ (State.catchUp s).cvus = s.cvus ∧
    (State.catchUp s).cpl.role = s.cpl.role ∧ (State.catchUp s).rcr = s.rcr ∧ (State.catchUp s).fresh = s.fresh ∧
    (State.catchUp s).pending = s.pending := by
  and_intros <;> (unfold State.catchUp; first | (with_reducible rfl) | (simp; done) | (repeat' (first | (simp; done) | split)))

@[simp ↓] theorem State.disagree_keeps (s : State) (p seq : Nat) :
    (State.disagree s p seq).clk = s.clk ∧ (State.disagree s p seq).pwr = s.pwr ∧ (State.disagree s p seq).sup = s.sup ∧
    (State.disagree s p seq).lot = s.lot ∧ (State.disagree s p seq).nmt.comG = s.nmt.comG ∧
    (State.disagree s p seq).sle.epoch = s.sle.epoch ∧ (State.disagree s p seq).sle.lfsr = s.sle.lfsr ∧
    (State.disagree s p seq).sin = s.sin ∧ (State.disagree s p seq).sout = s.sout ∧ (State.disagree s p seq).tmu = s.tmu ∧
    (State.disagree s p seq).aaq = s.aaq ∧ (State.disagree s p seq).hpo.reply = s.hpo.reply ∧
    (State.disagree s p seq).hpo.partner = s.hpo.partner ∧ (State.disagree s p seq).trk = s.trk ∧ (State.disagree s p seq).otp = s.otp ∧
    (State.disagree s p seq).bist = s.bist ∧ (State.disagree s p seq).cvus = s.cvus ∧ (State.disagree s p seq).fresh = s.fresh ∧
    (State.disagree s p seq).pending = s.pending := by
  and_intros <;> (unfold State.disagree; (try dsimp only); first | (with_reducible rfl) | (simp; done) | (repeat' (first | (simp; done) | split)))

@[simp ↓] theorem State.compareResults_keeps (s : State) (p : Nat) :
    (State.compareResults s p).clk = s.clk ∧ (State.compareResults s p).pwr = s.pwr ∧ (State.compareResults s p).sup = s.sup ∧
    (State.compareResults s p).lot = s.lot ∧ (State.compareResults s p).nmt.comG = s.nmt.comG ∧
    (State.compareResults s p).sle.epoch = s.sle.epoch ∧ (State.compareResults s p).sle.lfsr = s.sle.lfsr ∧
    (State.compareResults s p).sin = s.sin ∧ (State.compareResults s p).sout = s.sout ∧ (State.compareResults s p).tmu = s.tmu ∧
    (State.compareResults s p).aaq = s.aaq ∧ (State.compareResults s p).hpo.reply = s.hpo.reply ∧
    (State.compareResults s p).hpo.partner = s.hpo.partner ∧ (State.compareResults s p).trk = s.trk ∧
    (State.compareResults s p).otp = s.otp ∧ (State.compareResults s p).bist = s.bist ∧ (State.compareResults s p).cvus = s.cvus ∧
    (State.compareResults s p).fresh = s.fresh ∧ (State.compareResults s p).pending = s.pending := by
  and_intros <;> (unfold State.compareResults; (try dsimp only); first | (with_reducible rfl) | (simp; done) | (repeat' (first | (simp; done) | split)))

@[simp ↓] theorem State.sendResult_keeps (s : State) (p : Nat) :
    (State.sendResult s p).clk = s.clk ∧ (State.sendResult s p).pwr = s.pwr ∧ (State.sendResult s p).sup = s.sup ∧
    (State.sendResult s p).lot = s.lot ∧ (State.sendResult s p).nmt.comG = s.nmt.comG ∧ (State.sendResult s p).sle.epoch = s.sle.epoch ∧
    (State.sendResult s p).sle.lfsr = s.sle.lfsr ∧ (State.sendResult s p).sin = s.sin ∧ (State.sendResult s p).sout = s.sout ∧
    (State.sendResult s p).tmu = s.tmu ∧ (State.sendResult s p).aaq = s.aaq ∧ (State.sendResult s p).hpo.reply = s.hpo.reply ∧
    (State.sendResult s p).hpo.partner = s.hpo.partner ∧ (State.sendResult s p).trk = s.trk ∧ (State.sendResult s p).otp = s.otp ∧
    (State.sendResult s p).bist = s.bist ∧ (State.sendResult s p).cvus = s.cvus ∧ (State.sendResult s p).fresh = s.fresh ∧
    (State.sendResult s p).pending = s.pending := by
  and_intros <;> (unfold State.sendResult; simp)

@[simp ↓] theorem State.missingResult_keeps (s : State) (p : Nat) :
    (State.missingResult s p).clk = s.clk ∧ (State.missingResult s p).pwr = s.pwr ∧ (State.missingResult s p).sup = s.sup ∧
    (State.missingResult s p).lot = s.lot ∧ (State.missingResult s p).nmt.comG = s.nmt.comG ∧
    (State.missingResult s p).sle.epoch = s.sle.epoch ∧ (State.missingResult s p).sle.lfsr = s.sle.lfsr ∧
    (State.missingResult s p).sin = s.sin ∧ (State.missingResult s p).sout = s.sout ∧ (State.missingResult s p).tmu = s.tmu ∧
    (State.missingResult s p).aaq = s.aaq ∧ (State.missingResult s p).hpo.reply = s.hpo.reply ∧
    (State.missingResult s p).hpo.partner = s.hpo.partner ∧ (State.missingResult s p).trk = s.trk ∧
    (State.missingResult s p).otp = s.otp ∧ (State.missingResult s p).bist = s.bist ∧ (State.missingResult s p).cvus = s.cvus ∧
    (State.missingResult s p).fresh = s.fresh ∧ (State.missingResult s p).pending = s.pending := by
  and_intros <;> (unfold State.missingResult; (try dsimp only); first | (with_reducible rfl) | (simp; done) | (repeat' (first | (simp; done) | split)))

end Sys2Proof.Machine
end

