-- ==== Sys2Proof/Laws/ReplayOps.lean ====
section
/-! SUPPORT. What the operations of Machine/ReplayOps.lean leave alone: for each, every part of the state that it keeps. -/

namespace Sys2Proof.Machine

@[simp ↓] theorem State.installPart_keeps (s : State) (p n : Nat) (words : List (Nat × Cell)) (timers : List (Nat × Nat)) (prev : Nat) :
    (State.installPart s p n words timers prev).clk = s.clk ∧ (State.installPart s p n words timers prev).pwr = s.pwr ∧
    (State.installPart s p n words timers prev).sup = s.sup ∧ (State.installPart s p n words timers prev).lot = s.lot ∧
    (State.installPart s p n words timers prev).sle.epoch = s.sle.epoch ∧
    (State.installPart s p n words timers prev).sle.lfsr = s.sle.lfsr ∧ (State.installPart s p n words timers prev).sin = s.sin ∧
    (State.installPart s p n words timers prev).sout = s.sout ∧ (State.installPart s p n words timers prev).tmu = s.tmu ∧
    (State.installPart s p n words timers prev).aaq = s.aaq ∧ (State.installPart s p n words timers prev).hpo = s.hpo ∧
    (State.installPart s p n words timers prev).trk = s.trk ∧ (State.installPart s p n words timers prev).otp = s.otp ∧
    (State.installPart s p n words timers prev).bist = s.bist ∧ (State.installPart s p n words timers prev).cvus = s.cvus ∧
    (State.installPart s p n words timers prev).cpl = s.cpl ∧ (State.installPart s p n words timers prev).rcr = s.rcr ∧
    (State.installPart s p n words timers prev).log = s.log ∧ (State.installPart s p n words timers prev).fresh = s.fresh ∧
    (State.installPart s p n words timers prev).pending = s.pending := by
  and_intros <;> (unfold State.installPart; simp)

@[simp ↓] theorem State.replayEvent_keeps (s : State) (r : Rcd) :
    (State.replayEvent s r).clk = s.clk ∧ (State.replayEvent s r).pwr = s.pwr ∧ (State.replayEvent s r).sup = s.sup ∧
    (State.replayEvent s r).lot = s.lot ∧ (State.replayEvent s r).nmt = s.nmt ∧ (State.replayEvent s r).sle = s.sle ∧
    (State.replayEvent s r).sin = s.sin ∧ (State.replayEvent s r).sout = s.sout ∧ (State.replayEvent s r).tmu.swatch = s.tmu.swatch ∧
    (State.replayEvent s r).aaq = s.aaq ∧ (State.replayEvent s r).hpo = s.hpo ∧ (State.replayEvent s r).trk = s.trk ∧
    (State.replayEvent s r).otp = s.otp ∧ (State.replayEvent s r).bist = s.bist ∧ (State.replayEvent s r).cvus = s.cvus ∧
    (State.replayEvent s r).cpl = s.cpl ∧ (State.replayEvent s r).log = s.log ∧ (State.replayEvent s r).fresh = s.fresh ∧
    (State.replayEvent s r).pending = s.pending := by
  and_intros <;> (unfold State.replayEvent; simp)

@[simp ↓] theorem State.replayEvents_keeps (s : State) (t : Nat) :
    (State.replayEvents s t).clk = s.clk ∧ (State.replayEvents s t).pwr = s.pwr ∧ (State.replayEvents s t).sup = s.sup ∧
    (State.replayEvents s t).lot = s.lot ∧ (State.replayEvents s t).nmt = s.nmt ∧ (State.replayEvents s t).sle = s.sle ∧
    (State.replayEvents s t).sin = s.sin ∧ (State.replayEvents s t).sout = s.sout ∧ (State.replayEvents s t).tmu.swatch = s.tmu.swatch ∧
    (State.replayEvents s t).aaq = s.aaq ∧ (State.replayEvents s t).hpo = s.hpo ∧ (State.replayEvents s t).trk = s.trk ∧
    (State.replayEvents s t).otp = s.otp ∧ (State.replayEvents s t).bist = s.bist ∧ (State.replayEvents s t).cvus = s.cvus ∧
    (State.replayEvents s t).cpl = s.cpl ∧ (State.replayEvents s t).log = s.log ∧ (State.replayEvents s t).fresh = s.fresh ∧
    (State.replayEvents s t).pending = s.pending := by
  and_intros <;> (unfold State.replayEvents; simp)

@[simp ↓] theorem State.replayIndex_keeps (l : Lot) (recE k0 : Nat) (a : State) (x : Nat × Nat × Nat) :
    (State.replayIndex l recE k0 a x).clk = a.clk ∧ (State.replayIndex l recE k0 a x).pwr = a.pwr ∧
    (State.replayIndex l recE k0 a x).sup = a.sup ∧ (State.replayIndex l recE k0 a x).lot = a.lot ∧
    (State.replayIndex l recE k0 a x).nmt = a.nmt ∧ (State.replayIndex l recE k0 a x).sle.epoch = a.sle.epoch ∧
    (State.replayIndex l recE k0 a x).sle.lfsr = a.sle.lfsr ∧ (State.replayIndex l recE k0 a x).sin = a.sin ∧
    (State.replayIndex l recE k0 a x).sout = a.sout ∧ (State.replayIndex l recE k0 a x).tmu = a.tmu ∧
    (State.replayIndex l recE k0 a x).aaq = a.aaq ∧ (State.replayIndex l recE k0 a x).hpo = a.hpo ∧
    (State.replayIndex l recE k0 a x).trk = a.trk ∧ (State.replayIndex l recE k0 a x).otp = a.otp ∧
    (State.replayIndex l recE k0 a x).bist = a.bist ∧ (State.replayIndex l recE k0 a x).cvus = a.cvus ∧
    (State.replayIndex l recE k0 a x).cpl = a.cpl ∧ (State.replayIndex l recE k0 a x).rcr = a.rcr ∧
    (State.replayIndex l recE k0 a x).log = a.log ∧ (State.replayIndex l recE k0 a x).fresh = a.fresh ∧
    (State.replayIndex l recE k0 a x).pending = a.pending := by
  and_intros <;> (unfold State.replayIndex; simp)

@[simp ↓] theorem State.setRpart_keeps (s : State) (p : Nat) (c : RPart) :
    (State.setRpart s p c).clk = s.clk ∧ (State.setRpart s p c).pwr = s.pwr ∧ (State.setRpart s p c).sup = s.sup ∧
    (State.setRpart s p c).lot = s.lot ∧ (State.setRpart s p c).nmt = s.nmt ∧ (State.setRpart s p c).sle = s.sle ∧
    (State.setRpart s p c).sin = s.sin ∧ (State.setRpart s p c).sout = s.sout ∧ (State.setRpart s p c).tmu = s.tmu ∧
    (State.setRpart s p c).aaq = s.aaq ∧ (State.setRpart s p c).hpo = s.hpo ∧ (State.setRpart s p c).trk = s.trk ∧
    (State.setRpart s p c).otp = s.otp ∧ (State.setRpart s p c).bist = s.bist ∧ (State.setRpart s p c).cvus = s.cvus ∧
    (State.setRpart s p c).cpl = s.cpl ∧ (State.setRpart s p c).rcr.written = s.rcr.written ∧ (State.setRpart s p c).log = s.log ∧
    (State.setRpart s p c).fresh = s.fresh ∧ (State.setRpart s p c).pending = s.pending := by
  and_intros <;> (unfold State.setRpart; with_reducible rfl)

@[simp ↓] theorem State.replayRelease_keeps (s : State) (p : Nat) :
    (State.replayRelease s p).clk = s.clk ∧ (State.replayRelease s p).pwr = s.pwr ∧ (State.replayRelease s p).sup = s.sup ∧
    (State.replayRelease s p).lot = s.lot ∧ (State.replayRelease s p).nmt.comG = s.nmt.comG ∧
    (State.replayRelease s p).sle.epoch = s.sle.epoch ∧ (State.replayRelease s p).sle.lfsr = s.sle.lfsr ∧
    (State.replayRelease s p).sin = s.sin ∧ (State.replayRelease s p).sout = s.sout ∧
    (State.replayRelease s p).tmu.swatch = s.tmu.swatch ∧ (State.replayRelease s p).aaq = s.aaq ∧ (State.replayRelease s p).hpo = s.hpo ∧
    (State.replayRelease s p).trk = s.trk ∧ (State.replayRelease s p).otp = s.otp ∧ (State.replayRelease s p).bist = s.bist ∧
    (State.replayRelease s p).cvus = s.cvus ∧ (State.replayRelease s p).cpl = s.cpl ∧ (State.replayRelease s p).log = s.log ∧
    (State.replayRelease s p).fresh = s.fresh ∧ (State.replayRelease s p).pending = s.pending := by
  and_intros <;> (unfold State.replayRelease; first | (with_reducible rfl) | (simp; done) | (repeat' (first | (simp; done) | split)))

@[simp ↓] theorem State.replayCommit_keeps (s : State) (p : Nat) :
    (State.replayCommit s p).clk = s.clk ∧ (State.replayCommit s p).pwr = s.pwr ∧ (State.replayCommit s p).sup = s.sup ∧
    (State.replayCommit s p).lot = s.lot ∧ (State.replayCommit s p).nmt = s.nmt ∧ (State.replayCommit s p).sle = s.sle ∧
    (State.replayCommit s p).sin = s.sin ∧ (State.replayCommit s p).sout = s.sout ∧ (State.replayCommit s p).tmu = s.tmu ∧
    (State.replayCommit s p).aaq = s.aaq ∧ (State.replayCommit s p).hpo.reply = s.hpo.reply ∧
    (State.replayCommit s p).hpo.partner = s.hpo.partner ∧ (State.replayCommit s p).trk = s.trk ∧ (State.replayCommit s p).otp = s.otp ∧
    (State.replayCommit s p).bist = s.bist ∧ (State.replayCommit s p).cvus = s.cvus ∧ (State.replayCommit s p).cpl = s.cpl ∧
    (State.replayCommit s p).rcr.written = s.rcr.written ∧ (State.replayCommit s p).fresh = s.fresh ∧
    (State.replayCommit s p).pending = s.pending := by
  and_intros <;> (unfold State.replayCommit; (try dsimp only); first | (with_reducible rfl) | (simp; done) | (repeat' (first | (simp; done) | split)))

end Sys2Proof.Machine
end

