-- ==== Sys2Proof/Laws/BootStart.lean ====
section
/-! SUPPORT. What the operations of Machine/BootStart.lean leave alone: for each, every part of the state that it keeps. -/

namespace Sys2Proof.Machine

@[simp ↓] theorem State.domUp_keeps (s : State) (d : Nat) :
    (State.domUp s d).clk = s.clk ∧ (State.domUp s d).sup = s.sup ∧ (State.domUp s d).lot = s.lot ∧ (State.domUp s d).nmt = s.nmt ∧
    (State.domUp s d).sle = s.sle ∧ (State.domUp s d).sin = s.sin ∧ (State.domUp s d).sout = s.sout ∧ (State.domUp s d).tmu = s.tmu ∧
    (State.domUp s d).aaq = s.aaq ∧ (State.domUp s d).hpo = s.hpo ∧ (State.domUp s d).trk = s.trk ∧ (State.domUp s d).otp = s.otp ∧
    (State.domUp s d).bist = s.bist ∧ (State.domUp s d).cvus = s.cvus ∧ (State.domUp s d).cpl.role = s.cpl.role ∧
    (State.domUp s d).rcr = s.rcr ∧ (State.domUp s d).log = s.log ∧ (State.domUp s d).fresh = s.fresh ∧
    (State.domUp s d).pending = s.pending := by
  and_intros <;> (unfold State.domUp; simp)

@[simp ↓] theorem State.domsUp_keeps (s : State) (ds : List Nat) :
    (State.domsUp s ds).clk = s.clk ∧ (State.domsUp s ds).sup = s.sup ∧ (State.domsUp s ds).lot = s.lot ∧
    (State.domsUp s ds).nmt = s.nmt ∧ (State.domsUp s ds).sle = s.sle ∧ (State.domsUp s ds).sin = s.sin ∧
    (State.domsUp s ds).sout = s.sout ∧ (State.domsUp s ds).tmu = s.tmu ∧ (State.domsUp s ds).aaq = s.aaq ∧
    (State.domsUp s ds).hpo = s.hpo ∧ (State.domsUp s ds).trk = s.trk ∧ (State.domsUp s ds).otp = s.otp ∧
    (State.domsUp s ds).bist = s.bist ∧ (State.domsUp s ds).cvus = s.cvus ∧ (State.domsUp s ds).cpl.role = s.cpl.role ∧
    (State.domsUp s ds).rcr = s.rcr ∧ (State.domsUp s ds).log = s.log ∧ (State.domsUp s ds).fresh = s.fresh ∧
    (State.domsUp s ds).pending = s.pending := by
  and_intros <;> (unfold State.domsUp; simp)

@[simp ↓] theorem State.powerLost_keeps (s : State) :
    (State.powerLost s).otp.words = s.otp.words ∧ (State.powerLost s).otp.wlock = s.otp.wlock ∧
    (State.powerLost s).otp.rlock = s.otp.rlock ∧ (State.powerLost s).otp.job = s.otp.job ∧
    (State.powerLost s).rcr.written = s.rcr.written := by
  and_intros <;> (unfold State.powerLost; with_reducible rfl)

@[simp ↓] theorem State.bootOtp_keeps (s : State) (reads : OtpReads) :
    (State.bootOtp s reads).clk = s.clk ∧ (State.bootOtp s reads).pwr = s.pwr ∧ (State.bootOtp s reads).sup = s.sup ∧
    (State.bootOtp s reads).lot = s.lot ∧ (State.bootOtp s reads).nmt = s.nmt ∧ (State.bootOtp s reads).sle = s.sle ∧
    (State.bootOtp s reads).sin = s.sin ∧ (State.bootOtp s reads).sout = s.sout ∧ (State.bootOtp s reads).tmu = s.tmu ∧
    (State.bootOtp s reads).aaq = s.aaq ∧ (State.bootOtp s reads).hpo.reply = s.hpo.reply ∧
    (State.bootOtp s reads).hpo.partner = s.hpo.partner ∧ (State.bootOtp s reads).trk = s.trk ∧
    (State.bootOtp s reads).otp.job = s.otp.job ∧ (State.bootOtp s reads).bist = s.bist ∧ (State.bootOtp s reads).cvus = s.cvus ∧
    (State.bootOtp s reads).cpl = s.cpl ∧ (State.bootOtp s reads).rcr = s.rcr ∧ (State.bootOtp s reads).fresh = s.fresh ∧
    (State.bootOtp s reads).pending = s.pending := by
  and_intros <;> (unfold State.bootOtp; simp)

@[simp ↓] theorem State.restOtp_keeps (s : State) (reads : OtpReads) :
    (State.restOtp s reads).clk = s.clk ∧ (State.restOtp s reads).pwr = s.pwr ∧ (State.restOtp s reads).sup = s.sup ∧
    (State.restOtp s reads).lot = s.lot ∧ (State.restOtp s reads).nmt = s.nmt ∧ (State.restOtp s reads).sle = s.sle ∧
    (State.restOtp s reads).sin = s.sin ∧ (State.restOtp s reads).sout = s.sout ∧ (State.restOtp s reads).tmu = s.tmu ∧
    (State.restOtp s reads).aaq = s.aaq ∧ (State.restOtp s reads).hpo.reply = s.hpo.reply ∧
    (State.restOtp s reads).hpo.partner = s.hpo.partner ∧ (State.restOtp s reads).trk = s.trk ∧
    (State.restOtp s reads).otp.job = s.otp.job ∧ (State.restOtp s reads).cpl = s.cpl ∧ (State.restOtp s reads).rcr = s.rcr ∧
    (State.restOtp s reads).fresh = s.fresh ∧ (State.restOtp s reads).pending = s.pending := by
  and_intros <;> (unfold State.restOtp; simp)

@[simp ↓] theorem State.certCheck_keeps (s : State) :
    (State.certCheck s).clk = s.clk ∧ (State.certCheck s).pwr = s.pwr ∧ (State.certCheck s).sup = s.sup ∧
    (State.certCheck s).lot = s.lot ∧ (State.certCheck s).nmt = s.nmt ∧ (State.certCheck s).sle = s.sle ∧
    (State.certCheck s).sin = s.sin ∧ (State.certCheck s).sout = s.sout ∧ (State.certCheck s).tmu = s.tmu ∧
    (State.certCheck s).aaq = s.aaq ∧ (State.certCheck s).hpo.reply = s.hpo.reply ∧ (State.certCheck s).hpo.partner = s.hpo.partner ∧
    (State.certCheck s).trk = s.trk ∧ (State.certCheck s).otp = s.otp ∧ (State.certCheck s).bist = s.bist ∧
    (State.certCheck s).cvus = s.cvus ∧ (State.certCheck s).cpl = s.cpl ∧ (State.certCheck s).rcr = s.rcr ∧
    (State.certCheck s).fresh = s.fresh ∧ (State.certCheck s).pending = s.pending := by
  and_intros <;> (unfold State.certCheck; simp)

end Sys2Proof.Machine
end

