-- ==== Sys2Proof/Laws/StateOps.lean ====
section
/-! SUPPORT. What the operations of Machine/StateOps.lean leave alone: for each, every part of the state that it keeps. -/

namespace Sys2Proof.Machine

@[simp ↓] theorem State.selectExport_keeps (s : State) (e : Nat) :
    (State.selectExport s e).clk = s.clk ∧ (State.selectExport s e).pwr = s.pwr ∧ (State.selectExport s e).sup = s.sup ∧
    (State.selectExport s e).lot = s.lot ∧ (State.selectExport s e).nmt = s.nmt ∧ (State.selectExport s e).sle = s.sle ∧
    (State.selectExport s e).sin = s.sin ∧ (State.selectExport s e).sout = s.sout ∧ (State.selectExport s e).tmu = s.tmu ∧
    (State.selectExport s e).aaq = s.aaq ∧ (State.selectExport s e).hpo.reply = s.hpo.reply ∧
    (State.selectExport s e).hpo.partner = s.hpo.partner ∧ (State.selectExport s e).trk = s.trk ∧ (State.selectExport s e).otp = s.otp ∧
    (State.selectExport s e).bist = s.bist ∧ (State.selectExport s e).cvus = s.cvus ∧ (State.selectExport s e).cpl = s.cpl ∧
    (State.selectExport s e).rcr.written = s.rcr.written ∧ (State.selectExport s e).log = s.log ∧
    (State.selectExport s e).fresh = s.fresh ∧ (State.selectExport s e).pending = s.pending := by
  and_intros <;> (unfold State.selectExport; simp)

@[simp ↓] theorem State.selectEntry_keeps (s : State) (q : Nat) :
    (State.selectEntry s q).clk = s.clk ∧ (State.selectEntry s q).pwr = s.pwr ∧ (State.selectEntry s q).sup = s.sup ∧
    (State.selectEntry s q).lot = s.lot ∧ (State.selectEntry s q).nmt = s.nmt ∧ (State.selectEntry s q).sle = s.sle ∧
    (State.selectEntry s q).sin = s.sin ∧ (State.selectEntry s q).sout = s.sout ∧ (State.selectEntry s q).tmu = s.tmu ∧
    (State.selectEntry s q).aaq = s.aaq ∧ (State.selectEntry s q).hpo.reply = s.hpo.reply ∧
    (State.selectEntry s q).hpo.partner = s.hpo.partner ∧ (State.selectEntry s q).trk = s.trk ∧ (State.selectEntry s q).otp = s.otp ∧
    (State.selectEntry s q).bist = s.bist ∧ (State.selectEntry s q).cvus = s.cvus ∧ (State.selectEntry s q).cpl = s.cpl ∧
    (State.selectEntry s q).rcr = s.rcr ∧ (State.selectEntry s q).fresh = s.fresh ∧ (State.selectEntry s q).pending = s.pending := by
  and_intros <;> (unfold State.selectEntry; simp)

@[simp ↓] theorem State.odReset_keeps (s : State) :
    (State.odReset s).clk = s.clk ∧ (State.odReset s).pwr = s.pwr ∧ (State.odReset s).sup.mode = s.sup.mode ∧
    (State.odReset s).sup.driveRemoved = s.sup.driveRemoved ∧ (State.odReset s).sup.bootCount = s.sup.bootCount ∧
    (State.odReset s).sup.causes = s.sup.causes ∧ (State.odReset s).sup.firstCause = s.sup.firstCause ∧ (State.odReset s).lot = s.lot ∧
    (State.odReset s).nmt = s.nmt ∧ (State.odReset s).sle = s.sle ∧ (State.odReset s).sin = s.sin ∧ (State.odReset s).sout = s.sout ∧
    (State.odReset s).aaq = s.aaq ∧ (State.odReset s).hpo.reply = s.hpo.reply ∧ (State.odReset s).hpo.partner = s.hpo.partner ∧
    (State.odReset s).trk = s.trk ∧ (State.odReset s).otp.words = s.otp.words ∧ (State.odReset s).otp.wlock = s.otp.wlock ∧
    (State.odReset s).otp.rlock = s.otp.rlock ∧ (State.odReset s).otp.job = s.otp.job ∧ (State.odReset s).cpl = s.cpl ∧
    (State.odReset s).rcr.written = s.rcr.written ∧ (State.odReset s).fresh = s.fresh ∧ (State.odReset s).pending = s.pending := by
  and_intros <;> (unfold State.odReset; simp)

@[simp ↓] theorem State.odDefault_keeps (s : State) (d : OdDefault) :
    (State.odDefault s d).clk = s.clk ∧ (State.odDefault s d).pwr = s.pwr ∧ (State.odDefault s d).sup.driveRemoved = s.sup.driveRemoved ∧
    (State.odDefault s d).sup.bootCount = s.sup.bootCount ∧ (State.odDefault s d).sup.causes = s.sup.causes ∧
    (State.odDefault s d).sup.firstCause = s.sup.firstCause ∧ (State.odDefault s d).lot = s.lot ∧ (State.odDefault s d).nmt = s.nmt ∧
    (State.odDefault s d).sle = s.sle ∧ (State.odDefault s d).sin = s.sin ∧ (State.odDefault s d).sout = s.sout ∧
    (State.odDefault s d).aaq = s.aaq ∧ (State.odDefault s d).hpo.reply = s.hpo.reply ∧
    (State.odDefault s d).hpo.partner = s.hpo.partner ∧ (State.odDefault s d).trk = s.trk ∧
    (State.odDefault s d).otp.words = s.otp.words ∧ (State.odDefault s d).otp.wlock = s.otp.wlock ∧
    (State.odDefault s d).otp.rlock = s.otp.rlock ∧ (State.odDefault s d).otp.job = s.otp.job ∧ (State.odDefault s d).bist = s.bist ∧
    (State.odDefault s d).cpl = s.cpl ∧ (State.odDefault s d).fresh = s.fresh ∧ (State.odDefault s d).pending = s.pending := by
  and_intros <;> (unfold State.odDefault; (try dsimp only); first | (with_reducible rfl) | (simp; done) | (repeat' (first | (simp; done) | split)))

@[simp ↓] theorem State.odDefaultsIn_keeps (s : State) :
    (State.odDefaultsIn s).clk = s.clk ∧ (State.odDefaultsIn s).pwr = s.pwr ∧
    (State.odDefaultsIn s).sup.driveRemoved = s.sup.driveRemoved ∧ (State.odDefaultsIn s).sup.bootCount = s.sup.bootCount ∧
    (State.odDefaultsIn s).sup.causes = s.sup.causes ∧ (State.odDefaultsIn s).sup.firstCause = s.sup.firstCause ∧
    (State.odDefaultsIn s).lot = s.lot ∧ (State.odDefaultsIn s).nmt = s.nmt ∧ (State.odDefaultsIn s).sle = s.sle ∧
    (State.odDefaultsIn s).sin = s.sin ∧ (State.odDefaultsIn s).sout = s.sout ∧ (State.odDefaultsIn s).aaq = s.aaq ∧
    (State.odDefaultsIn s).hpo.reply = s.hpo.reply ∧ (State.odDefaultsIn s).hpo.partner = s.hpo.partner ∧
    (State.odDefaultsIn s).trk = s.trk ∧ (State.odDefaultsIn s).otp.words = s.otp.words ∧
    (State.odDefaultsIn s).otp.wlock = s.otp.wlock ∧ (State.odDefaultsIn s).otp.rlock = s.otp.rlock ∧
    (State.odDefaultsIn s).otp.job = s.otp.job ∧ (State.odDefaultsIn s).cpl = s.cpl ∧ (State.odDefaultsIn s).fresh = s.fresh ∧
    (State.odDefaultsIn s).pending = s.pending := by
  and_intros <;> (unfold State.odDefaultsIn; simp)

@[simp ↓] theorem State.enterRunning_keeps (s : State) (m : Mode) :
    (State.enterRunning s m).clk = s.clk ∧ (State.enterRunning s m).pwr.doms = s.pwr.doms ∧
    (State.enterRunning s m).sup.bootCount = s.sup.bootCount ∧ (State.enterRunning s m).sup.causes = s.sup.causes ∧
    (State.enterRunning s m).sup.firstCause = s.sup.firstCause ∧ (State.enterRunning s m).lot = s.lot ∧
    (State.enterRunning s m).nmt = s.nmt ∧ (State.enterRunning s m).sle = s.sle ∧ (State.enterRunning s m).sin = s.sin ∧
    (State.enterRunning s m).sout.w8 = s.sout.w8 ∧ (State.enterRunning s m).tmu = s.tmu ∧ (State.enterRunning s m).aaq = s.aaq ∧
    (State.enterRunning s m).hpo = s.hpo ∧ (State.enterRunning s m).otp = s.otp ∧ (State.enterRunning s m).bist = s.bist ∧
    (State.enterRunning s m).cvus = s.cvus ∧ (State.enterRunning s m).cpl = s.cpl ∧ (State.enterRunning s m).log = s.log ∧
    (State.enterRunning s m).fresh = s.fresh ∧ (State.enterRunning s m).pending = s.pending := by
  and_intros <;> (unfold State.enterRunning; simp)

@[simp ↓] theorem State.unitsStart_keeps (s : State) :
    (State.unitsStart s).clk = s.clk ∧ (State.unitsStart s).pwr = s.pwr ∧ (State.unitsStart s).sup = s.sup ∧
    (State.unitsStart s).lot = s.lot ∧ (State.unitsStart s).sle.epoch = s.sle.epoch ∧ (State.unitsStart s).sle.lfsr = s.sle.lfsr ∧
    (State.unitsStart s).tmu.swatch = s.tmu.swatch ∧ (State.unitsStart s).hpo.reply = s.hpo.reply ∧
    (State.unitsStart s).hpo.partner = s.hpo.partner ∧ (State.unitsStart s).trk = s.trk ∧ (State.unitsStart s).otp = s.otp ∧
    (State.unitsStart s).bist = s.bist ∧ (State.unitsStart s).cvus = s.cvus ∧ (State.unitsStart s).cpl.role = s.cpl.role ∧
    (State.unitsStart s).rcr.written = s.rcr.written ∧ (State.unitsStart s).log = s.log ∧ (State.unitsStart s).fresh = s.fresh ∧
    (State.unitsStart s).pending = s.pending := by
  and_intros <;> (unfold State.unitsStart; simp)

@[simp ↓] theorem State.leaveValidating_keeps (s : State) (m : Mode) :
    (State.leaveValidating s m).clk.now = s.clk.now ∧ (State.leaveValidating s m).clk.real = s.clk.real ∧
    (State.leaveValidating s m).clk.running = s.clk.running ∧ (State.leaveValidating s m).pwr.doms = s.pwr.doms ∧
    (State.leaveValidating s m).sup.bootCount = s.sup.bootCount ∧ (State.leaveValidating s m).sup.causes = s.sup.causes ∧
    (State.leaveValidating s m).sup.firstCause = s.sup.firstCause ∧ (State.leaveValidating s m).lot = s.lot ∧
    (State.leaveValidating s m).sle.lfsr = s.sle.lfsr ∧ (State.leaveValidating s m).hpo.reply = s.hpo.reply ∧
    (State.leaveValidating s m).hpo.partner = s.hpo.partner ∧ (State.leaveValidating s m).otp.words = s.otp.words ∧
    (State.leaveValidating s m).otp.wlock = s.otp.wlock ∧ (State.leaveValidating s m).otp.rlock = s.otp.rlock ∧
    (State.leaveValidating s m).otp.job = s.otp.job ∧ (State.leaveValidating s m).fresh = s.fresh ∧
    (State.leaveValidating s m).pending = s.pending := by
  and_intros <;> (unfold State.leaveValidating; simp)

@[simp ↓] theorem State.leaveReplay_keeps (s : State) :
    (State.leaveReplay s).clk.now = s.clk.now ∧ (State.leaveReplay s).clk.real = s.clk.real ∧
    (State.leaveReplay s).clk.running = s.clk.running ∧ (State.leaveReplay s).pwr.doms = s.pwr.doms ∧
    (State.leaveReplay s).sup.bootCount = s.sup.bootCount ∧ (State.leaveReplay s).sup.causes = s.sup.causes ∧
    (State.leaveReplay s).sup.firstCause = s.sup.firstCause ∧ (State.leaveReplay s).lot = s.lot ∧
    (State.leaveReplay s).sle.lfsr = s.sle.lfsr ∧ (State.leaveReplay s).tmu.swatch = s.tmu.swatch ∧
    (State.leaveReplay s).hpo.reply = s.hpo.reply ∧ (State.leaveReplay s).hpo.partner = s.hpo.partner ∧
    (State.leaveReplay s).otp = s.otp ∧ (State.leaveReplay s).bist = s.bist ∧ (State.leaveReplay s).cvus = s.cvus ∧
    (State.leaveReplay s).fresh = s.fresh ∧ (State.leaveReplay s).pending = s.pending := by
  and_intros <;> (unfold State.leaveReplay; simp)

@[simp ↓] theorem State.leaveRunning_keeps (s : State) :
    (State.leaveRunning s).clk = s.clk ∧ (State.leaveRunning s).pwr = s.pwr ∧ (State.leaveRunning s).sup.mode = s.sup.mode ∧
    (State.leaveRunning s).sup.bootCount = s.sup.bootCount ∧ (State.leaveRunning s).sup.causes = s.sup.causes ∧
    (State.leaveRunning s).sup.firstCause = s.sup.firstCause ∧ (State.leaveRunning s).lot = s.lot ∧ (State.leaveRunning s).nmt = s.nmt ∧
    (State.leaveRunning s).sle.epoch = s.sle.epoch ∧ (State.leaveRunning s).sle.lfsr = s.sle.lfsr ∧ (State.leaveRunning s).sin = s.sin ∧
    (State.leaveRunning s).sout.w8 = s.sout.w8 ∧ (State.leaveRunning s).tmu = s.tmu ∧ (State.leaveRunning s).aaq = s.aaq ∧
    (State.leaveRunning s).hpo = s.hpo ∧ (State.leaveRunning s).otp = s.otp ∧ (State.leaveRunning s).bist = s.bist ∧
    (State.leaveRunning s).cvus = s.cvus ∧ (State.leaveRunning s).log = s.log ∧ (State.leaveRunning s).fresh = s.fresh ∧
    (State.leaveRunning s).pending = s.pending := by
  and_intros <;> (unfold State.leaveRunning; simp)

@[simp ↓] theorem State.stopLot_keeps (s : State) :
    (State.stopLot s).clk.now = s.clk.now ∧ (State.stopLot s).clk.real = s.clk.real ∧ (State.stopLot s).pwr = s.pwr ∧
    (State.stopLot s).sup.mode = s.sup.mode ∧ (State.stopLot s).sup.bootCount = s.sup.bootCount ∧
    (State.stopLot s).sup.causes = s.sup.causes ∧ (State.stopLot s).sup.firstCause = s.sup.firstCause ∧
    (State.stopLot s).lot.stored = s.lot.stored ∧ (State.stopLot s).sle.lfsr = s.sle.lfsr ∧ (State.stopLot s).tmu.swatch = s.tmu.swatch ∧
    (State.stopLot s).hpo.reply = s.hpo.reply ∧ (State.stopLot s).hpo.partner = s.hpo.partner ∧ (State.stopLot s).otp = s.otp ∧
    (State.stopLot s).bist = s.bist ∧ (State.stopLot s).cvus = s.cvus ∧ (State.stopLot s).log = s.log ∧
    (State.stopLot s).fresh = s.fresh ∧ (State.stopLot s).pending = s.pending := by
  and_intros <;> (unfold State.stopLot; simp)

@[simp ↓] theorem State.enterConfiguring_keeps (s : State) :
    (State.enterConfiguring s).clk = s.clk ∧ (State.enterConfiguring s).pwr.doms = s.pwr.doms ∧
    (State.enterConfiguring s).sup.driveRemoved = s.sup.driveRemoved ∧ (State.enterConfiguring s).sup.bootCount = s.sup.bootCount ∧
    (State.enterConfiguring s).sup.causes = s.sup.causes ∧ (State.enterConfiguring s).sup.firstCause = s.sup.firstCause ∧
    (State.enterConfiguring s).lot.active = s.lot.active ∧ (State.enterConfiguring s).lot.stored = s.lot.stored ∧
    (State.enterConfiguring s).nmt = s.nmt ∧ (State.enterConfiguring s).sle = s.sle ∧ (State.enterConfiguring s).sin = s.sin ∧
    (State.enterConfiguring s).sout = s.sout ∧ (State.enterConfiguring s).tmu = s.tmu ∧ (State.enterConfiguring s).aaq = s.aaq ∧
    (State.enterConfiguring s).hpo = s.hpo ∧ (State.enterConfiguring s).otp = s.otp ∧ (State.enterConfiguring s).bist = s.bist ∧
    (State.enterConfiguring s).cvus = s.cvus ∧ (State.enterConfiguring s).cpl = s.cpl ∧ (State.enterConfiguring s).log = s.log ∧
    (State.enterConfiguring s).fresh = s.fresh ∧ (State.enterConfiguring s).pending = s.pending := by
  and_intros <;> (unfold State.enterConfiguring; simp)

@[simp ↓] theorem State.setParked_keeps (s : State) (rho : Nat) :
    (State.setParked s rho).clk.now = s.clk.now ∧ (State.setParked s rho).clk.real = s.clk.real ∧
    (State.setParked s rho).clk.running = s.clk.running ∧ (State.setParked s rho).pwr = s.pwr ∧
    (State.setParked s rho).sup.mode = s.sup.mode ∧ (State.setParked s rho).sup.driveRemoved = s.sup.driveRemoved ∧
    (State.setParked s rho).sup.bootCount = s.sup.bootCount ∧ (State.setParked s rho).sup.causes = s.sup.causes ∧
    (State.setParked s rho).sup.firstCause = s.sup.firstCause ∧ (State.setParked s rho).lot = s.lot ∧
    (State.setParked s rho).nmt = s.nmt ∧ (State.setParked s rho).sle = s.sle ∧ (State.setParked s rho).sin = s.sin ∧
    (State.setParked s rho).sout = s.sout ∧ (State.setParked s rho).tmu = s.tmu ∧ (State.setParked s rho).aaq = s.aaq ∧
    (State.setParked s rho).hpo = s.hpo ∧ (State.setParked s rho).trk = s.trk ∧ (State.setParked s rho).otp = s.otp ∧
    (State.setParked s rho).bist = s.bist ∧ (State.setParked s rho).cvus = s.cvus ∧ (State.setParked s rho).cpl = s.cpl ∧
    (State.setParked s rho).rcr = s.rcr ∧ (State.setParked s rho).log = s.log ∧ (State.setParked s rho).fresh = s.fresh ∧
    (State.setParked s rho).pending = s.pending := by
  and_intros <;> (unfold State.setParked; with_reducible rfl)

@[simp ↓] theorem State.parkBegins_keeps (s : State) (c : PendCmd) :
    (State.parkBegins s c).clk.now = s.clk.now ∧ (State.parkBegins s c).clk.real = s.clk.real ∧
    (State.parkBegins s c).clk.running = s.clk.running ∧ (State.parkBegins s c).pwr = s.pwr ∧
    (State.parkBegins s c).sup.mode = s.sup.mode ∧ (State.parkBegins s c).sup.driveRemoved = s.sup.driveRemoved ∧
    (State.parkBegins s c).sup.bootCount = s.sup.bootCount ∧ (State.parkBegins s c).sup.causes = s.sup.causes ∧
    (State.parkBegins s c).sup.firstCause = s.sup.firstCause ∧ (State.parkBegins s c).lot = s.lot ∧ (State.parkBegins s c).nmt = s.nmt ∧
    (State.parkBegins s c).sle = s.sle ∧ (State.parkBegins s c).sin = s.sin ∧ (State.parkBegins s c).sout = s.sout ∧
    (State.parkBegins s c).tmu = s.tmu ∧ (State.parkBegins s c).aaq = s.aaq ∧ (State.parkBegins s c).hpo = s.hpo ∧
    (State.parkBegins s c).trk = s.trk ∧ (State.parkBegins s c).otp = s.otp ∧ (State.parkBegins s c).bist = s.bist ∧
    (State.parkBegins s c).cvus = s.cvus ∧ (State.parkBegins s c).cpl = s.cpl ∧ (State.parkBegins s c).rcr = s.rcr ∧
    (State.parkBegins s c).log = s.log ∧ (State.parkBegins s c).fresh = s.fresh ∧ (State.parkBegins s c).pending = s.pending := by
  and_intros <;> (unfold State.parkBegins; simp)

@[simp ↓] theorem State.parkTell_keeps (s : State) (t0 : Nat) :
    (State.parkTell s t0).clk = s.clk ∧ (State.parkTell s t0).pwr = s.pwr ∧ (State.parkTell s t0).sup = s.sup ∧
    (State.parkTell s t0).lot = s.lot ∧ (State.parkTell s t0).nmt = s.nmt ∧ (State.parkTell s t0).sle = s.sle ∧
    (State.parkTell s t0).sin = s.sin ∧ (State.parkTell s t0).sout = s.sout ∧ (State.parkTell s t0).tmu = s.tmu ∧
    (State.parkTell s t0).aaq = s.aaq ∧ (State.parkTell s t0).hpo = s.hpo ∧ (State.parkTell s t0).trk = s.trk ∧
    (State.parkTell s t0).otp = s.otp ∧ (State.parkTell s t0).bist = s.bist ∧ (State.parkTell s t0).cvus = s.cvus ∧
    (State.parkTell s t0).cpl.role = s.cpl.role ∧ (State.parkTell s t0).rcr = s.rcr ∧ (State.parkTell s t0).log = s.log ∧
    (State.parkTell s t0).fresh = s.fresh ∧ (State.parkTell s t0).pending = s.pending := by
  and_intros <;> (unfold State.parkTell; simp)

@[simp ↓] theorem State.groupPark_keeps (s : State) (c : PendCmd) :
    (State.groupPark s c).clk.now = s.clk.now ∧ (State.groupPark s c).clk.real = s.clk.real ∧
    (State.groupPark s c).clk.running = s.clk.running ∧ (State.groupPark s c).pwr = s.pwr ∧ (State.groupPark s c).sup.mode = s.sup.mode ∧
    (State.groupPark s c).sup.driveRemoved = s.sup.driveRemoved ∧ (State.groupPark s c).sup.bootCount = s.sup.bootCount ∧
    (State.groupPark s c).sup.causes = s.sup.causes ∧ (State.groupPark s c).sup.firstCause = s.sup.firstCause ∧
    (State.groupPark s c).lot = s.lot ∧ (State.groupPark s c).nmt = s.nmt ∧ (State.groupPark s c).sle = s.sle ∧
    (State.groupPark s c).sin = s.sin ∧ (State.groupPark s c).sout = s.sout ∧ (State.groupPark s c).tmu = s.tmu ∧
    (State.groupPark s c).aaq = s.aaq ∧ (State.groupPark s c).hpo = s.hpo ∧ (State.groupPark s c).trk = s.trk ∧
    (State.groupPark s c).otp = s.otp ∧ (State.groupPark s c).bist = s.bist ∧ (State.groupPark s c).cvus = s.cvus ∧
    (State.groupPark s c).cpl.role = s.cpl.role ∧ (State.groupPark s c).rcr = s.rcr ∧ (State.groupPark s c).log = s.log ∧
    (State.groupPark s c).fresh = s.fresh ∧ (State.groupPark s c).pending = s.pending := by
  and_intros <;> (unfold State.groupPark; simp)

@[simp ↓] theorem State.dropPark_keeps (s : State) :
    (State.dropPark s).clk = s.clk ∧ (State.dropPark s).pwr = s.pwr ∧ (State.dropPark s).sup.mode = s.sup.mode ∧
    (State.dropPark s).sup.driveRemoved = s.sup.driveRemoved ∧ (State.dropPark s).sup.bootCount = s.sup.bootCount ∧
    (State.dropPark s).sup.causes = s.sup.causes ∧ (State.dropPark s).sup.firstCause = s.sup.firstCause ∧
    (State.dropPark s).lot = s.lot ∧ (State.dropPark s).nmt = s.nmt ∧ (State.dropPark s).sle = s.sle ∧ (State.dropPark s).sin = s.sin ∧
    (State.dropPark s).sout = s.sout ∧ (State.dropPark s).tmu = s.tmu ∧ (State.dropPark s).aaq = s.aaq ∧
    (State.dropPark s).hpo.reply = s.hpo.reply ∧ (State.dropPark s).hpo.partner = s.hpo.partner ∧ (State.dropPark s).trk = s.trk ∧
    (State.dropPark s).otp = s.otp ∧ (State.dropPark s).bist = s.bist ∧ (State.dropPark s).cvus = s.cvus ∧
    (State.dropPark s).cpl.role = s.cpl.role ∧ (State.dropPark s).rcr = s.rcr ∧ (State.dropPark s).fresh = s.fresh ∧
    (State.dropPark s).pending = s.pending := by
  and_intros <;> (unfold State.dropPark; simp)

@[simp ↓] theorem State.parkOff_keeps (s : State) :
    (State.parkOff s).clk = s.clk ∧ (State.parkOff s).pwr = s.pwr ∧ (State.parkOff s).sup = s.sup ∧ (State.parkOff s).lot = s.lot ∧
    (State.parkOff s).nmt = s.nmt ∧ (State.parkOff s).sle = s.sle ∧ (State.parkOff s).sin = s.sin ∧ (State.parkOff s).sout = s.sout ∧
    (State.parkOff s).tmu = s.tmu ∧ (State.parkOff s).aaq = s.aaq ∧ (State.parkOff s).hpo = s.hpo ∧ (State.parkOff s).trk = s.trk ∧
    (State.parkOff s).otp = s.otp ∧ (State.parkOff s).bist = s.bist ∧ (State.parkOff s).cvus = s.cvus ∧
    (State.parkOff s).cpl.role = s.cpl.role ∧ (State.parkOff s).rcr = s.rcr ∧ (State.parkOff s).log = s.log ∧
    (State.parkOff s).fresh = s.fresh ∧ (State.parkOff s).pending = s.pending := by
  and_intros <;> (unfold State.parkOff; simp)

@[simp ↓] theorem State.parkDenied_keeps (s : State) (g : Option GroupPark) :
    (State.parkDenied s g).clk = s.clk ∧ (State.parkDenied s g).pwr = s.pwr ∧ (State.parkDenied s g).sup = s.sup ∧
    (State.parkDenied s g).lot = s.lot ∧ (State.parkDenied s g).nmt = s.nmt ∧ (State.parkDenied s g).sle = s.sle ∧
    (State.parkDenied s g).sin = s.sin ∧ (State.parkDenied s g).sout = s.sout ∧ (State.parkDenied s g).tmu = s.tmu ∧
    (State.parkDenied s g).aaq = s.aaq ∧ (State.parkDenied s g).hpo.partner = s.hpo.partner ∧ (State.parkDenied s g).trk = s.trk ∧
    (State.parkDenied s g).otp = s.otp ∧ (State.parkDenied s g).bist = s.bist ∧ (State.parkDenied s g).cvus = s.cvus ∧
    (State.parkDenied s g).cpl = s.cpl ∧ (State.parkDenied s g).rcr = s.rcr ∧ (State.parkDenied s g).log = s.log ∧
    (State.parkDenied s g).fresh = s.fresh ∧ (State.parkDenied s g).pending = s.pending := by
  and_intros <;> (unfold State.parkDenied; first | (with_reducible rfl) | (simp; done) | (repeat' (first | (simp; done) | split)))

@[simp ↓] theorem State.abandonPark_keeps (s : State) :
    (State.abandonPark s).clk = s.clk ∧ (State.abandonPark s).pwr = s.pwr ∧ (State.abandonPark s).sup.mode = s.sup.mode ∧
    (State.abandonPark s).sup.driveRemoved = s.sup.driveRemoved ∧ (State.abandonPark s).sup.bootCount = s.sup.bootCount ∧
    (State.abandonPark s).sup.causes = s.sup.causes ∧ (State.abandonPark s).sup.firstCause = s.sup.firstCause ∧
    (State.abandonPark s).lot = s.lot ∧ (State.abandonPark s).nmt = s.nmt ∧ (State.abandonPark s).sle = s.sle ∧
    (State.abandonPark s).sin = s.sin ∧ (State.abandonPark s).sout = s.sout ∧ (State.abandonPark s).tmu = s.tmu ∧
    (State.abandonPark s).aaq = s.aaq ∧ (State.abandonPark s).hpo.partner = s.hpo.partner ∧ (State.abandonPark s).trk = s.trk ∧
    (State.abandonPark s).otp = s.otp ∧ (State.abandonPark s).bist = s.bist ∧ (State.abandonPark s).cvus = s.cvus ∧
    (State.abandonPark s).cpl.role = s.cpl.role ∧ (State.abandonPark s).rcr = s.rcr ∧ (State.abandonPark s).fresh = s.fresh ∧
    (State.abandonPark s).pending = s.pending := by
  and_intros <;> (unfold State.abandonPark; simp)

end Sys2Proof.Machine
end

