-- ==== Sys2Proof/Laws/Deliver.lean ====
section
/-! SUPPORT. What the operations of Machine/Deliver.lean leave alone: for each, every part of the state that it keeps. -/

namespace Sys2Proof.Machine

@[simp ↓] theorem State.openRelease_keeps (s : State) (p : Nat) (k : Key) (phase : Phase) :
    (State.openRelease s p k phase).clk = s.clk ∧ (State.openRelease s p k phase).pwr = s.pwr ∧
    (State.openRelease s p k phase).sup = s.sup ∧ (State.openRelease s p k phase).lot = s.lot ∧
    (State.openRelease s p k phase).nmt = s.nmt ∧ (State.openRelease s p k phase).sle.epoch = s.sle.epoch ∧
    (State.openRelease s p k phase).sle.lfsr = s.sle.lfsr ∧ (State.openRelease s p k phase).sin = s.sin ∧
    (State.openRelease s p k phase).sout = s.sout ∧ (State.openRelease s p k phase).tmu = s.tmu ∧
    (State.openRelease s p k phase).aaq = s.aaq ∧ (State.openRelease s p k phase).hpo = s.hpo ∧
    (State.openRelease s p k phase).trk = s.trk ∧ (State.openRelease s p k phase).otp = s.otp ∧
    (State.openRelease s p k phase).bist = s.bist ∧ (State.openRelease s p k phase).cvus = s.cvus ∧
    (State.openRelease s p k phase).cpl = s.cpl ∧ (State.openRelease s p k phase).rcr = s.rcr ∧
    (State.openRelease s p k phase).log = s.log ∧ (State.openRelease s p k phase).fresh = s.fresh ∧
    (State.openRelease s p k phase).pending = s.pending := by
  and_intros <;> (unfold State.openRelease; simp)

@[simp ↓] theorem State.ownRelease_keeps (s : State) (p : Nat) :
    (State.ownRelease s p).clk = s.clk ∧ (State.ownRelease s p).pwr = s.pwr ∧ (State.ownRelease s p).sup = s.sup ∧
    (State.ownRelease s p).lot = s.lot ∧ (State.ownRelease s p).nmt.comG = s.nmt.comG ∧ (State.ownRelease s p).sle.epoch = s.sle.epoch ∧
    (State.ownRelease s p).sin = s.sin ∧ (State.ownRelease s p).sout = s.sout ∧ (State.ownRelease s p).tmu = s.tmu ∧
    (State.ownRelease s p).aaq = s.aaq ∧ (State.ownRelease s p).hpo = s.hpo ∧ (State.ownRelease s p).trk = s.trk ∧
    (State.ownRelease s p).otp = s.otp ∧ (State.ownRelease s p).bist = s.bist ∧ (State.ownRelease s p).cvus = s.cvus ∧
    (State.ownRelease s p).cpl.role = s.cpl.role ∧ (State.ownRelease s p).rcr = s.rcr ∧ (State.ownRelease s p).log = s.log ∧
    (State.ownRelease s p).fresh = s.fresh ∧ (State.ownRelease s p).pending = s.pending := by
  and_intros <;> (unfold State.ownRelease; simp)

@[simp ↓] theorem State.imageRelease_keeps (s : State) (p : Nat) :
    (State.imageRelease s p).clk = s.clk ∧ (State.imageRelease s p).pwr = s.pwr ∧ (State.imageRelease s p).sup = s.sup ∧
    (State.imageRelease s p).lot = s.lot ∧ (State.imageRelease s p).nmt.comG = s.nmt.comG ∧
    (State.imageRelease s p).sle.epoch = s.sle.epoch ∧ (State.imageRelease s p).sin = s.sin ∧ (State.imageRelease s p).sout = s.sout ∧
    (State.imageRelease s p).tmu = s.tmu ∧ (State.imageRelease s p).aaq = s.aaq ∧ (State.imageRelease s p).hpo.reply = s.hpo.reply ∧
    (State.imageRelease s p).hpo.partner = s.hpo.partner ∧ (State.imageRelease s p).trk = s.trk ∧ (State.imageRelease s p).otp = s.otp ∧
    (State.imageRelease s p).bist = s.bist ∧ (State.imageRelease s p).cvus = s.cvus ∧ (State.imageRelease s p).cpl.role = s.cpl.role ∧
    (State.imageRelease s p).rcr = s.rcr ∧ (State.imageRelease s p).fresh = s.fresh ∧ (State.imageRelease s p).pending = s.pending := by
  and_intros <;> (unfold State.imageRelease; simp)

@[simp ↓] theorem State.skipRelease_keeps (s : State) (p : Nat) :
    (State.skipRelease s p).clk = s.clk ∧ (State.skipRelease s p).pwr = s.pwr ∧ (State.skipRelease s p).sup = s.sup ∧
    (State.skipRelease s p).lot = s.lot ∧ (State.skipRelease s p).nmt = s.nmt ∧ (State.skipRelease s p).sle.epoch = s.sle.epoch ∧
    (State.skipRelease s p).sle.lfsr = s.sle.lfsr ∧ (State.skipRelease s p).sin = s.sin ∧ (State.skipRelease s p).sout = s.sout ∧
    (State.skipRelease s p).tmu = s.tmu ∧ (State.skipRelease s p).aaq = s.aaq ∧ (State.skipRelease s p).hpo = s.hpo ∧
    (State.skipRelease s p).trk = s.trk ∧ (State.skipRelease s p).otp = s.otp ∧ (State.skipRelease s p).bist = s.bist ∧
    (State.skipRelease s p).cvus = s.cvus ∧ (State.skipRelease s p).cpl = s.cpl ∧ (State.skipRelease s p).rcr = s.rcr ∧
    (State.skipRelease s p).log = s.log ∧ (State.skipRelease s p).fresh = s.fresh ∧ (State.skipRelease s p).pending = s.pending := by
  and_intros <;> (unfold State.skipRelease; simp)

@[simp ↓] theorem State.latchRelease_keeps (s : State) (p : Nat) :
    (State.latchRelease s p).clk = s.clk ∧ (State.latchRelease s p).sup = s.sup ∧ (State.latchRelease s p).lot = s.lot ∧
    (State.latchRelease s p).sle.epoch = s.sle.epoch ∧ (State.latchRelease s p).sin = s.sin ∧ (State.latchRelease s p).sout = s.sout ∧
    (State.latchRelease s p).aaq = s.aaq ∧ (State.latchRelease s p).hpo.reply = s.hpo.reply ∧
    (State.latchRelease s p).hpo.partner = s.hpo.partner ∧ (State.latchRelease s p).trk = s.trk ∧ (State.latchRelease s p).otp = s.otp ∧
    (State.latchRelease s p).cvus = s.cvus ∧ (State.latchRelease s p).cpl.role = s.cpl.role ∧
    (State.latchRelease s p).pending = s.pending := by
  and_intros <;> (unfold State.latchRelease; (try dsimp only); first | (with_reducible rfl) | (simp; done) | (repeat' (first | (simp; done) | split)))

@[simp ↓] theorem State.retryKey_keeps (s : State) (p : Nat) (failed : Key) :
    (State.retryKey s p failed).1.clk = s.clk ∧ (State.retryKey s p failed).1.pwr = s.pwr ∧ (State.retryKey s p failed).1.sup = s.sup ∧
    (State.retryKey s p failed).1.lot = s.lot ∧ (State.retryKey s p failed).1.nmt = s.nmt ∧
    (State.retryKey s p failed).1.sle.epoch = s.sle.epoch ∧ (State.retryKey s p failed).1.sin = s.sin ∧
    (State.retryKey s p failed).1.sout = s.sout ∧ (State.retryKey s p failed).1.tmu = s.tmu ∧ (State.retryKey s p failed).1.aaq = s.aaq ∧
    (State.retryKey s p failed).1.hpo = s.hpo ∧ (State.retryKey s p failed).1.trk = s.trk ∧ (State.retryKey s p failed).1.otp = s.otp ∧
    (State.retryKey s p failed).1.bist = s.bist ∧ (State.retryKey s p failed).1.cvus = s.cvus ∧
    (State.retryKey s p failed).1.cpl = s.cpl ∧ (State.retryKey s p failed).1.rcr = s.rcr ∧ (State.retryKey s p failed).1.log = s.log ∧
    (State.retryKey s p failed).1.fresh = s.fresh ∧ (State.retryKey s p failed).1.pending = s.pending := by
  and_intros <;> (unfold State.retryKey; first | (with_reducible rfl) | (simp; done) | (repeat' (first | (simp; done) | split)))

@[simp ↓] theorem State.logNonsafe_keeps (s : State) (p : Nat) :
    (State.logNonsafe s p).clk = s.clk ∧ (State.logNonsafe s p).pwr = s.pwr ∧ (State.logNonsafe s p).sup = s.sup ∧
    (State.logNonsafe s p).lot = s.lot ∧ (State.logNonsafe s p).nmt = s.nmt ∧ (State.logNonsafe s p).sle = s.sle ∧
    (State.logNonsafe s p).sin = s.sin ∧ (State.logNonsafe s p).sout = s.sout ∧ (State.logNonsafe s p).tmu = s.tmu ∧
    (State.logNonsafe s p).aaq = s.aaq ∧ (State.logNonsafe s p).hpo.reply = s.hpo.reply ∧
    (State.logNonsafe s p).hpo.partner = s.hpo.partner ∧ (State.logNonsafe s p).trk = s.trk ∧ (State.logNonsafe s p).otp = s.otp ∧
    (State.logNonsafe s p).bist = s.bist ∧ (State.logNonsafe s p).cvus = s.cvus ∧ (State.logNonsafe s p).cpl = s.cpl ∧
    (State.logNonsafe s p).rcr = s.rcr ∧ (State.logNonsafe s p).fresh = s.fresh ∧ (State.logNonsafe s p).pending = s.pending := by
  exact ⟨by first | (unfold State.logNonsafe; (try dsimp only); simp; done) | (unfold State.logNonsafe; (try dsimp only); (repeat' (first | (simp; done) | (with_reducible refine (foldl_keep (fun z : State => z.clk) _ (fun a x => ?_) _ _).trans ?_ <;> (try dsimp only)) | (with_reducible refine (foldl_keep (fun z : State × _ => z.1.clk) _ (fun a x => ?_) _ _).trans ?_ <;> (try dsimp only)) | split))),
    by first | (unfold State.logNonsafe; (try dsimp only); simp; done) | (unfold State.logNonsafe; (try dsimp only); (repeat' (first | (simp; done) | (with_reducible refine (foldl_keep (fun z : State => z.pwr) _ (fun a x => ?_) _ _).trans ?_ <;> (try dsimp only)) | (with_reducible refine (foldl_keep (fun z : State × _ => z.1.pwr) _ (fun a x => ?_) _ _).trans ?_ <;> (try dsimp only)) | split))),
    by first | (unfold State.logNonsafe; (try dsimp only); simp; done) | (unfold State.logNonsafe; (try dsimp only); (repeat' (first | (simp; done) | (with_reducible refine (foldl_keep (fun z : State => z.sup) _ (fun a x => ?_) _ _).trans ?_ <;> (try dsimp only)) | (with_reducible refine (foldl_keep (fun z : State × _ => z.1.sup) _ (fun a x => ?_) _ _).trans ?_ <;> (try dsimp only)) | split))),
    by first | (unfold State.logNonsafe; (try dsimp only); simp; done) | (unfold State.logNonsafe; (try dsimp only); (repeat' (first | (simp; done) | (with_reducible refine (foldl_keep (fun z : State => z.lot) _ (fun a x => ?_) _ _).trans ?_ <;> (try dsimp only)) | (with_reducible refine (foldl_keep (fun z : State × _ => z.1.lot) _ (fun a x => ?_) _ _).trans ?_ <;> (try dsimp only)) | split))),
    by first | (unfold State.logNonsafe; (try dsimp only); simp; done) | (unfold State.logNonsafe; (try dsimp only); (repeat' (first | (simp; done) | (with_reducible refine (foldl_keep (fun z : State => z.nmt) _ (fun a x => ?_) _ _).trans ?_ <;> (try dsimp only)) | (with_reducible refine (foldl_keep (fun z : State × _ => z.1.nmt) _ (fun a x => ?_) _ _).trans ?_ <;> (try dsimp only)) | split))),
    by first | (unfold State.logNonsafe; (try dsimp only); simp; done) | (unfold State.logNonsafe; (try dsimp only); (repeat' (first | (simp; done) | (with_reducible refine (foldl_keep (fun z : State => z.sle) _ (fun a x => ?_) _ _).trans ?_ <;> (try dsimp only)) | (with_reducible refine (foldl_keep (fun z : State × _ => z.1.sle) _ (fun a x => ?_) _ _).trans ?_ <;> (try dsimp only)) | split))),
    by first | (unfold State.logNonsafe; (try dsimp only); simp; done) | (unfold State.logNonsafe; (try dsimp only); (repeat' (first | (simp; done) | (with_reducible refine (foldl_keep (fun z : State => z.sin) _ (fun a x => ?_) _ _).trans ?_ <;> (try dsimp only)) | (with_reducible refine (foldl_keep (fun z : State × _ => z.1.sin) _ (fun a x => ?_) _ _).trans ?_ <;> (try dsimp only)) | split))),
    by first | (unfold State.logNonsafe; (try dsimp only); simp; done) | (unfold State.logNonsafe; (try dsimp only); (repeat' (first | (simp; done) | (with_reducible refine (foldl_keep (fun z : State => z.sout) _ (fun a x => ?_) _ _).trans ?_ <;> (try dsimp only)) | (with_reducible refine (foldl_keep (fun z : State × _ => z.1.sout) _ (fun a x => ?_) _ _).trans ?_ <;> (try dsimp only)) | split))),
    by first | (unfold State.logNonsafe; (try dsimp only); simp; done) | (unfold State.logNonsafe; (try dsimp only); (repeat' (first | (simp; done) | (with_reducible refine (foldl_keep (fun z : State => z.tmu) _ (fun a x => ?_) _ _).trans ?_ <;> (try dsimp only)) | (with_reducible refine (foldl_keep (fun z : State × _ => z.1.tmu) _ (fun a x => ?_) _ _).trans ?_ <;> (try dsimp only)) | split))),
    by first | (unfold State.logNonsafe; (try dsimp only); simp; done) | (unfold State.logNonsafe; (try dsimp only); (repeat' (first | (simp; done) | (with_reducible refine (foldl_keep (fun z : State => z.aaq) _ (fun a x => ?_) _ _).trans ?_ <;> (try dsimp only)) | (with_reducible refine (foldl_keep (fun z : State × _ => z.1.aaq) _ (fun a x => ?_) _ _).trans ?_ <;> (try dsimp only)) | split))),
    by first | (unfold State.logNonsafe; (try dsimp only); simp; done) | (unfold State.logNonsafe; (try dsimp only); (repeat' (first | (simp; done) | (with_reducible refine (foldl_keep (fun z : State => z.hpo.reply) _ (fun a x => ?_) _ _).trans ?_ <;> (try dsimp only)) | (with_reducible refine (foldl_keep (fun z : State × _ => z.1.hpo.reply) _ (fun a x => ?_) _ _).trans ?_ <;> (try dsimp only)) | split))),
    by first | (unfold State.logNonsafe; (try dsimp only); simp; done) | (unfold State.logNonsafe; (try dsimp only); (repeat' (first | (simp; done) | (with_reducible refine (foldl_keep (fun z : State => z.hpo.partner) _ (fun a x => ?_) _ _).trans ?_ <;> (try dsimp only)) | (with_reducible refine (foldl_keep (fun z : State × _ => z.1.hpo.partner) _ (fun a x => ?_) _ _).trans ?_ <;> (try dsimp only)) | split))),
    by first | (unfold State.logNonsafe; (try dsimp only); simp; done) | (unfold State.logNonsafe; (try dsimp only); (repeat' (first | (simp; done) | (with_reducible refine (foldl_keep (fun z : State => z.trk) _ (fun a x => ?_) _ _).trans ?_ <;> (try dsimp only)) | (with_reducible refine (foldl_keep (fun z : State × _ => z.1.trk) _ (fun a x => ?_) _ _).trans ?_ <;> (try dsimp only)) | split))),
    by first | (unfold State.logNonsafe; (try dsimp only); simp; done) | (unfold State.logNonsafe; (try dsimp only); (repeat' (first | (simp; done) | (with_reducible refine (foldl_keep (fun z : State => z.otp) _ (fun a x => ?_) _ _).trans ?_ <;> (try dsimp only)) | (with_reducible refine (foldl_keep (fun z : State × _ => z.1.otp) _ (fun a x => ?_) _ _).trans ?_ <;> (try dsimp only)) | split))),
    by first | (unfold State.logNonsafe; (try dsimp only); simp; done) | (unfold State.logNonsafe; (try dsimp only); (repeat' (first | (simp; done) | (with_reducible refine (foldl_keep (fun z : State => z.bist) _ (fun a x => ?_) _ _).trans ?_ <;> (try dsimp only)) | (with_reducible refine (foldl_keep (fun z : State × _ => z.1.bist) _ (fun a x => ?_) _ _).trans ?_ <;> (try dsimp only)) | split))),
    by first | (unfold State.logNonsafe; (try dsimp only); simp; done) | (unfold State.logNonsafe; (try dsimp only); (repeat' (first | (simp; done) | (with_reducible refine (foldl_keep (fun z : State => z.cvus) _ (fun a x => ?_) _ _).trans ?_ <;> (try dsimp only)) | (with_reducible refine (foldl_keep (fun z : State × _ => z.1.cvus) _ (fun a x => ?_) _ _).trans ?_ <;> (try dsimp only)) | split))),
    by first | (unfold State.logNonsafe; (try dsimp only); simp; done) | (unfold State.logNonsafe; (try dsimp only); (repeat' (first | (simp; done) | (with_reducible refine (foldl_keep (fun z : State => z.cpl) _ (fun a x => ?_) _ _).trans ?_ <;> (try dsimp only)) | (with_reducible refine (foldl_keep (fun z : State × _ => z.1.cpl) _ (fun a x => ?_) _ _).trans ?_ <;> (try dsimp only)) | split))),
    by first | (unfold State.logNonsafe; (try dsimp only); simp; done) | (unfold State.logNonsafe; (try dsimp only); (repeat' (first | (simp; done) | (with_reducible refine (foldl_keep (fun z : State => z.rcr) _ (fun a x => ?_) _ _).trans ?_ <;> (try dsimp only)) | (with_reducible refine (foldl_keep (fun z : State × _ => z.1.rcr) _ (fun a x => ?_) _ _).trans ?_ <;> (try dsimp only)) | split))),
    by first | (unfold State.logNonsafe; (try dsimp only); simp; done) | (unfold State.logNonsafe; (try dsimp only); (repeat' (first | (simp; done) | (with_reducible refine (foldl_keep (fun z : State => z.fresh) _ (fun a x => ?_) _ _).trans ?_ <;> (try dsimp only)) | (with_reducible refine (foldl_keep (fun z : State × _ => z.1.fresh) _ (fun a x => ?_) _ _).trans ?_ <;> (try dsimp only)) | split))),
    by first | (unfold State.logNonsafe; (try dsimp only); simp; done) | (unfold State.logNonsafe; (try dsimp only); (repeat' (first | (simp; done) | (with_reducible refine (foldl_keep (fun z : State => z.pending) _ (fun a x => ?_) _ _).trans ?_ <;> (try dsimp only)) | (with_reducible refine (foldl_keep (fun z : State × _ => z.1.pending) _ (fun a x => ?_) _ _).trans ?_ <;> (try dsimp only)) | split)))⟩

@[simp ↓] theorem State.deliver_keeps (s : State) (p : Nat) :
    (State.deliver s p).clk = s.clk ∧ (State.deliver s p).pwr = s.pwr ∧ (State.deliver s p).sup = s.sup ∧
    (State.deliver s p).lot = s.lot ∧ (State.deliver s p).nmt.comG = s.nmt.comG ∧ (State.deliver s p).sle.epoch = s.sle.epoch ∧
    (State.deliver s p).sle.lfsr = s.sle.lfsr ∧ (State.deliver s p).sin = s.sin ∧ (State.deliver s p).tmu.swatch = s.tmu.swatch ∧
    (State.deliver s p).aaq = s.aaq ∧ (State.deliver s p).hpo.reply = s.hpo.reply ∧ (State.deliver s p).hpo.partner = s.hpo.partner ∧
    (State.deliver s p).trk = s.trk ∧ (State.deliver s p).otp = s.otp ∧ (State.deliver s p).bist = s.bist ∧
    (State.deliver s p).cvus = s.cvus ∧ (State.deliver s p).fresh = s.fresh ∧ (State.deliver s p).pending = s.pending := by
  and_intros <;> (unfold State.deliver; (try dsimp only); first | (with_reducible rfl) | (simp; done) | (repeat' (first | (simp; done) | split)))

@[simp ↓] theorem State.debugCutOff_keeps (s : State) :
    (State.debugCutOff s).clk = s.clk ∧ (State.debugCutOff s).pwr = s.pwr ∧ (State.debugCutOff s).sup = s.sup ∧
    (State.debugCutOff s).lot = s.lot ∧ (State.debugCutOff s).nmt = s.nmt ∧ (State.debugCutOff s).sle = s.sle ∧
    (State.debugCutOff s).sin = s.sin ∧ (State.debugCutOff s).sout.w8 = s.sout.w8 ∧ (State.debugCutOff s).tmu = s.tmu ∧
    (State.debugCutOff s).aaq = s.aaq ∧ (State.debugCutOff s).hpo = s.hpo ∧ (State.debugCutOff s).trk = s.trk ∧
    (State.debugCutOff s).otp = s.otp ∧ (State.debugCutOff s).bist = s.bist ∧ (State.debugCutOff s).cvus = s.cvus ∧
    (State.debugCutOff s).cpl = s.cpl ∧ (State.debugCutOff s).rcr = s.rcr ∧ (State.debugCutOff s).log = s.log ∧
    (State.debugCutOff s).fresh = s.fresh ∧ (State.debugCutOff s).pending = s.pending := by
  and_intros <;> (unfold State.debugCutOff; simp)

end Sys2Proof.Machine
end

