-- ==== Sys2Proof/Laws/Sched.lean ====
section
/-! SUPPORT. What the operations of Machine/Sched.lean leave alone: for each, every part of the state that it keeps. -/

namespace Sys2Proof.Machine

@[simp ↓] theorem State.dropAttempt_keeps (s : State) (p : Nat) :
    (State.dropAttempt s p).clk = s.clk ∧ (State.dropAttempt s p).pwr = s.pwr ∧ (State.dropAttempt s p).sup = s.sup ∧
    (State.dropAttempt s p).lot = s.lot ∧ (State.dropAttempt s p).nmt = s.nmt ∧ (State.dropAttempt s p).sle.epoch = s.sle.epoch ∧
    (State.dropAttempt s p).sle.lfsr = s.sle.lfsr ∧ (State.dropAttempt s p).sin = s.sin ∧ (State.dropAttempt s p).sout = s.sout ∧
    (State.dropAttempt s p).tmu = s.tmu ∧ (State.dropAttempt s p).aaq = s.aaq ∧ (State.dropAttempt s p).hpo = s.hpo ∧
    (State.dropAttempt s p).trk = s.trk ∧ (State.dropAttempt s p).otp = s.otp ∧ (State.dropAttempt s p).bist = s.bist ∧
    (State.dropAttempt s p).cvus = s.cvus ∧ (State.dropAttempt s p).cpl = s.cpl ∧ (State.dropAttempt s p).rcr = s.rcr ∧
    (State.dropAttempt s p).log = s.log ∧ (State.dropAttempt s p).fresh = s.fresh ∧ (State.dropAttempt s p).pending = s.pending := by
  and_intros <;> (unfold State.dropAttempt; simp)

@[simp ↓] theorem State.commitWords_keeps (s : State) (p : Nat) :
    (State.commitWords s p).clk = s.clk ∧ (State.commitWords s p).pwr = s.pwr ∧ (State.commitWords s p).sup = s.sup ∧
    (State.commitWords s p).lot = s.lot ∧ (State.commitWords s p).sle.epoch = s.sle.epoch ∧
    (State.commitWords s p).sle.lfsr = s.sle.lfsr ∧ (State.commitWords s p).sin = s.sin ∧ (State.commitWords s p).sout = s.sout ∧
    (State.commitWords s p).tmu = s.tmu ∧ (State.commitWords s p).aaq = s.aaq ∧ (State.commitWords s p).hpo = s.hpo ∧
    (State.commitWords s p).trk = s.trk ∧ (State.commitWords s p).otp = s.otp ∧ (State.commitWords s p).bist = s.bist ∧
    (State.commitWords s p).cvus = s.cvus ∧ (State.commitWords s p).cpl = s.cpl ∧ (State.commitWords s p).rcr = s.rcr ∧
    (State.commitWords s p).log = s.log ∧ (State.commitWords s p).fresh = s.fresh ∧ (State.commitWords s p).pending = s.pending := by
  and_intros <;> (unfold State.commitWords; simp)

@[simp ↓] theorem State.commitStats_keeps (s : State) (p : Nat) :
    (State.commitStats s p).clk = s.clk ∧ (State.commitStats s p).pwr.doms = s.pwr.doms ∧ (State.commitStats s p).sup = s.sup ∧
    (State.commitStats s p).lot = s.lot ∧ (State.commitStats s p).nmt = s.nmt ∧ (State.commitStats s p).sle.epoch = s.sle.epoch ∧
    (State.commitStats s p).sle.lfsr = s.sle.lfsr ∧ (State.commitStats s p).sin = s.sin ∧ (State.commitStats s p).sout = s.sout ∧
    (State.commitStats s p).tmu = s.tmu ∧ (State.commitStats s p).aaq = s.aaq ∧ (State.commitStats s p).hpo.reply = s.hpo.reply ∧
    (State.commitStats s p).hpo.partner = s.hpo.partner ∧ (State.commitStats s p).trk = s.trk ∧ (State.commitStats s p).otp = s.otp ∧
    (State.commitStats s p).bist = s.bist ∧ (State.commitStats s p).cvus = s.cvus ∧ (State.commitStats s p).cpl = s.cpl ∧
    (State.commitStats s p).rcr = s.rcr ∧ (State.commitStats s p).fresh = s.fresh ∧ (State.commitStats s p).pending = s.pending := by
  and_intros <;> (unfold State.commitStats; simp)

@[simp ↓] theorem State.parkDemand_keeps (s : State) (p : Nat) :
    (State.parkDemand s p).clk = s.clk ∧ (State.parkDemand s p).pwr = s.pwr ∧ (State.parkDemand s p).sup.mode = s.sup.mode ∧
    (State.parkDemand s p).sup.driveRemoved = s.sup.driveRemoved ∧ (State.parkDemand s p).sup.bootCount = s.sup.bootCount ∧
    (State.parkDemand s p).sup.causes = s.sup.causes ∧ (State.parkDemand s p).sup.firstCause = s.sup.firstCause ∧
    (State.parkDemand s p).lot = s.lot ∧ (State.parkDemand s p).nmt = s.nmt ∧ (State.parkDemand s p).sle = s.sle ∧
    (State.parkDemand s p).sin = s.sin ∧ (State.parkDemand s p).sout = s.sout ∧ (State.parkDemand s p).tmu = s.tmu ∧
    (State.parkDemand s p).aaq = s.aaq ∧ (State.parkDemand s p).hpo.partner = s.hpo.partner ∧ (State.parkDemand s p).trk = s.trk ∧
    (State.parkDemand s p).otp = s.otp ∧ (State.parkDemand s p).bist = s.bist ∧ (State.parkDemand s p).cvus = s.cvus ∧
    (State.parkDemand s p).cpl.role = s.cpl.role ∧ (State.parkDemand s p).rcr = s.rcr ∧ (State.parkDemand s p).fresh = s.fresh ∧
    (State.parkDemand s p).pending = s.pending := by
  and_intros <;> (unfold State.parkDemand; first | (with_reducible rfl) | (simp; done) | (repeat' (first | (simp; done) | split)))

@[simp ↓] theorem State.mismatch_keeps (s : State) (p : Nat) :
    (State.mismatch s p).clk = s.clk ∧ (State.mismatch s p).pwr.doms = s.pwr.doms ∧ (State.mismatch s p).sup = s.sup ∧
    (State.mismatch s p).lot = s.lot ∧ (State.mismatch s p).nmt = s.nmt ∧ (State.mismatch s p).sle.epoch = s.sle.epoch ∧
    (State.mismatch s p).sle.lfsr = s.sle.lfsr ∧ (State.mismatch s p).sin = s.sin ∧ (State.mismatch s p).sout = s.sout ∧
    (State.mismatch s p).tmu = s.tmu ∧ (State.mismatch s p).aaq = s.aaq ∧ (State.mismatch s p).hpo.reply = s.hpo.reply ∧
    (State.mismatch s p).hpo.partner = s.hpo.partner ∧ (State.mismatch s p).trk = s.trk ∧ (State.mismatch s p).otp = s.otp ∧
    (State.mismatch s p).bist = s.bist ∧ (State.mismatch s p).cvus = s.cvus ∧ (State.mismatch s p).cpl = s.cpl ∧
    (State.mismatch s p).fresh = s.fresh ∧ (State.mismatch s p).pending = s.pending := by
  and_intros <;> (unfold State.mismatch; simp)

@[simp ↓] theorem State.pushedAside_keeps (s : State) (p : Nat) :
    (State.pushedAside s p).clk = s.clk ∧ (State.pushedAside s p).pwr = s.pwr ∧ (State.pushedAside s p).sup = s.sup ∧
    (State.pushedAside s p).lot = s.lot ∧ (State.pushedAside s p).nmt = s.nmt ∧ (State.pushedAside s p).sle.epoch = s.sle.epoch ∧
    (State.pushedAside s p).sle.lfsr = s.sle.lfsr ∧ (State.pushedAside s p).sin = s.sin ∧ (State.pushedAside s p).sout = s.sout ∧
    (State.pushedAside s p).tmu = s.tmu ∧ (State.pushedAside s p).aaq = s.aaq ∧ (State.pushedAside s p).hpo = s.hpo ∧
    (State.pushedAside s p).trk = s.trk ∧ (State.pushedAside s p).otp = s.otp ∧ (State.pushedAside s p).bist = s.bist ∧
    (State.pushedAside s p).cvus = s.cvus ∧ (State.pushedAside s p).cpl = s.cpl ∧ (State.pushedAside s p).rcr = s.rcr ∧
    (State.pushedAside s p).log = s.log ∧ (State.pushedAside s p).fresh = s.fresh ∧ (State.pushedAside s p).pending = s.pending := by
  and_intros <;> (unfold State.pushedAside; first | (with_reducible rfl) | (simp; done) | (repeat' (first | (simp; done) | split)))

@[simp ↓] theorem State.debugHalt_keeps (s : State) :
    (State.debugHalt s).clk = s.clk ∧ (State.debugHalt s).pwr.doms = s.pwr.doms ∧ (State.debugHalt s).sup.mode = s.sup.mode ∧
    (State.debugHalt s).sup.bootCount = s.sup.bootCount ∧ (State.debugHalt s).sup.causes = s.sup.causes ∧
    (State.debugHalt s).sup.firstCause = s.sup.firstCause ∧ (State.debugHalt s).lot = s.lot ∧ (State.debugHalt s).nmt = s.nmt ∧
    (State.debugHalt s).sle.epoch = s.sle.epoch ∧ (State.debugHalt s).sle.lfsr = s.sle.lfsr ∧ (State.debugHalt s).sin = s.sin ∧
    (State.debugHalt s).sout.w8 = s.sout.w8 ∧ (State.debugHalt s).tmu = s.tmu ∧ (State.debugHalt s).aaq = s.aaq ∧
    (State.debugHalt s).hpo.reply = s.hpo.reply ∧ (State.debugHalt s).hpo.partner = s.hpo.partner ∧ (State.debugHalt s).trk = s.trk ∧
    (State.debugHalt s).otp = s.otp ∧ (State.debugHalt s).bist = s.bist ∧ (State.debugHalt s).cvus = s.cvus ∧
    (State.debugHalt s).cpl = s.cpl ∧ (State.debugHalt s).rcr = s.rcr ∧ (State.debugHalt s).fresh = s.fresh ∧
    (State.debugHalt s).pending = s.pending := by
  and_intros <;> (unfold State.debugHalt; simp)

@[simp ↓] theorem State.haltAtGate_keeps (s : State) (p : Nat) :
    (State.haltAtGate s p).clk = s.clk ∧ (State.haltAtGate s p).pwr = s.pwr ∧ (State.haltAtGate s p).sup = s.sup ∧
    (State.haltAtGate s p).lot = s.lot ∧ (State.haltAtGate s p).nmt = s.nmt ∧ (State.haltAtGate s p).sle.epoch = s.sle.epoch ∧
    (State.haltAtGate s p).sle.lfsr = s.sle.lfsr ∧ (State.haltAtGate s p).sin = s.sin ∧ (State.haltAtGate s p).sout = s.sout ∧
    (State.haltAtGate s p).tmu = s.tmu ∧ (State.haltAtGate s p).aaq = s.aaq ∧ (State.haltAtGate s p).hpo = s.hpo ∧
    (State.haltAtGate s p).trk = s.trk ∧ (State.haltAtGate s p).otp = s.otp ∧ (State.haltAtGate s p).bist = s.bist ∧
    (State.haltAtGate s p).cvus = s.cvus ∧ (State.haltAtGate s p).cpl = s.cpl ∧ (State.haltAtGate s p).rcr = s.rcr ∧
    (State.haltAtGate s p).log = s.log ∧ (State.haltAtGate s p).fresh = s.fresh ∧ (State.haltAtGate s p).pending = s.pending := by
  and_intros <;> (unfold State.haltAtGate; with_reducible rfl)

@[simp ↓] theorem State.haltRequest_keeps (s : State) :
    (State.haltRequest s).clk = s.clk ∧ (State.haltRequest s).pwr.doms = s.pwr.doms ∧ (State.haltRequest s).sup.mode = s.sup.mode ∧
    (State.haltRequest s).sup.bootCount = s.sup.bootCount ∧ (State.haltRequest s).sup.causes = s.sup.causes ∧
    (State.haltRequest s).sup.firstCause = s.sup.firstCause ∧ (State.haltRequest s).lot = s.lot ∧ (State.haltRequest s).nmt = s.nmt ∧
    (State.haltRequest s).sle.epoch = s.sle.epoch ∧ (State.haltRequest s).sle.lfsr = s.sle.lfsr ∧ (State.haltRequest s).sin = s.sin ∧
    (State.haltRequest s).sout.w8 = s.sout.w8 ∧ (State.haltRequest s).tmu = s.tmu ∧ (State.haltRequest s).aaq = s.aaq ∧
    (State.haltRequest s).hpo.reply = s.hpo.reply ∧ (State.haltRequest s).hpo.partner = s.hpo.partner ∧
    (State.haltRequest s).trk = s.trk ∧ (State.haltRequest s).otp = s.otp ∧ (State.haltRequest s).bist = s.bist ∧
    (State.haltRequest s).cvus = s.cvus ∧ (State.haltRequest s).cpl = s.cpl ∧ (State.haltRequest s).rcr = s.rcr ∧
    (State.haltRequest s).fresh = s.fresh ∧ (State.haltRequest s).pending = s.pending := by
  and_intros <;> (unfold State.haltRequest; first | (with_reducible rfl) | (simp; done) | (repeat' (first | (simp; done) | split)))

end Sys2Proof.Machine
end

