-- ==== Sys2Proof/Laws/Inputs.lean ====
section
/-! SUPPORT. What the operations of Machine/Inputs.lean leave alone: for each, every part of the state that it keeps. -/

namespace Sys2Proof.Machine

@[simp ↓] theorem State.filtered_keeps (s : State) (n t : Nat) (level : Bool) :
    (State.filtered s n t level).clk = s.clk ∧ (State.filtered s n t level).pwr.doms = s.pwr.doms ∧
    (State.filtered s n t level).sup.driveRemoved = s.sup.driveRemoved ∧ (State.filtered s n t level).sup.bootCount = s.sup.bootCount ∧
    (State.filtered s n t level).lot = s.lot ∧ (State.filtered s n t level).nmt = s.nmt ∧
    (State.filtered s n t level).sle.epoch = s.sle.epoch ∧ (State.filtered s n t level).sle.lfsr = s.sle.lfsr ∧
    (State.filtered s n t level).sout.w8 = s.sout.w8 ∧ (State.filtered s n t level).tmu.swatch = s.tmu.swatch ∧
    (State.filtered s n t level).hpo.reply = s.hpo.reply ∧ (State.filtered s n t level).hpo.partner = s.hpo.partner ∧
    (State.filtered s n t level).otp = s.otp ∧ (State.filtered s n t level).bist = s.bist ∧ (State.filtered s n t level).cvus = s.cvus ∧
    (State.filtered s n t level).cpl = s.cpl ∧ (State.filtered s n t level).fresh = s.fresh ∧
    (State.filtered s n t level).pending = s.pending := by
  and_intros <;> (unfold State.filtered; simp)

@[simp ↓] theorem State.samples_keeps (s : State) (n : Nat) (raw : Bool) (m : Nat) :
    (State.samples s n raw m).clk = s.clk ∧ (State.samples s n raw m).pwr.doms = s.pwr.doms ∧
    (State.samples s n raw m).sup.driveRemoved = s.sup.driveRemoved ∧ (State.samples s n raw m).sup.bootCount = s.sup.bootCount ∧
    (State.samples s n raw m).lot = s.lot ∧ (State.samples s n raw m).nmt = s.nmt ∧ (State.samples s n raw m).sle.epoch = s.sle.epoch ∧
    (State.samples s n raw m).sle.lfsr = s.sle.lfsr ∧ (State.samples s n raw m).sout.w8 = s.sout.w8 ∧
    (State.samples s n raw m).tmu.swatch = s.tmu.swatch ∧ (State.samples s n raw m).hpo.reply = s.hpo.reply ∧
    (State.samples s n raw m).hpo.partner = s.hpo.partner ∧ (State.samples s n raw m).otp = s.otp ∧
    (State.samples s n raw m).bist = s.bist ∧ (State.samples s n raw m).cvus = s.cvus ∧ (State.samples s n raw m).cpl = s.cpl ∧
    (State.samples s n raw m).fresh = s.fresh ∧ (State.samples s n raw m).pending = s.pending := by
  and_intros <;> (unfold State.samples; (try dsimp only); first | (with_reducible rfl) | (simp; done) | (repeat' (first | (simp; done) | split)))

@[simp ↓] theorem State.sampleRun_keeps (n : Nat) (s : State) (r : Nat × Nat) :
    (State.sampleRun n s r).clk = s.clk ∧ (State.sampleRun n s r).pwr.doms = s.pwr.doms ∧
    (State.sampleRun n s r).sup.driveRemoved = s.sup.driveRemoved ∧ (State.sampleRun n s r).sup.bootCount = s.sup.bootCount ∧
    (State.sampleRun n s r).lot = s.lot ∧ (State.sampleRun n s r).nmt = s.nmt ∧ (State.sampleRun n s r).sle.epoch = s.sle.epoch ∧
    (State.sampleRun n s r).sle.lfsr = s.sle.lfsr ∧ (State.sampleRun n s r).sout.w8 = s.sout.w8 ∧
    (State.sampleRun n s r).tmu.swatch = s.tmu.swatch ∧ (State.sampleRun n s r).hpo.reply = s.hpo.reply ∧
    (State.sampleRun n s r).hpo.partner = s.hpo.partner ∧ (State.sampleRun n s r).otp = s.otp ∧ (State.sampleRun n s r).bist = s.bist ∧
    (State.sampleRun n s r).cvus = s.cvus ∧ (State.sampleRun n s r).cpl = s.cpl ∧ (State.sampleRun n s r).fresh = s.fresh ∧
    (State.sampleRun n s r).pending = s.pending := by
  and_intros <;> (unfold State.sampleRun; simp)

@[simp ↓] theorem State.ownPulse_keeps (s : State) (n : Nat) (rawBefore : Bool) (low : Nat) :
    (State.ownPulse s n rawBefore low).clk = s.clk ∧ (State.ownPulse s n rawBefore low).pwr = s.pwr ∧
    (State.ownPulse s n rawBefore low).sup = s.sup ∧ (State.ownPulse s n rawBefore low).lot = s.lot ∧
    (State.ownPulse s n rawBefore low).nmt = s.nmt ∧ (State.ownPulse s n rawBefore low).sle = s.sle ∧
    (State.ownPulse s n rawBefore low).sout = s.sout ∧ (State.ownPulse s n rawBefore low).tmu = s.tmu ∧
    (State.ownPulse s n rawBefore low).aaq = s.aaq ∧ (State.ownPulse s n rawBefore low).hpo.reply = s.hpo.reply ∧
    (State.ownPulse s n rawBefore low).hpo.partner = s.hpo.partner ∧ (State.ownPulse s n rawBefore low).trk = s.trk ∧
    (State.ownPulse s n rawBefore low).otp = s.otp ∧ (State.ownPulse s n rawBefore low).bist = s.bist ∧
    (State.ownPulse s n rawBefore low).cvus = s.cvus ∧ (State.ownPulse s n rawBefore low).cpl = s.cpl ∧
    (State.ownPulse s n rawBefore low).rcr = s.rcr ∧ (State.ownPulse s n rawBefore low).pending = s.pending := by
  and_intros <;> (unfold State.ownPulse; simp)

@[simp ↓] theorem State.foreignPulse_keeps (s : State) (n k : Nat) (low : Nat) (inside : Bool) :
    (State.foreignPulse s n k low inside).clk = s.clk ∧ (State.foreignPulse s n k low inside).pwr = s.pwr ∧
    (State.foreignPulse s n k low inside).sup = s.sup ∧ (State.foreignPulse s n k low inside).lot = s.lot ∧
    (State.foreignPulse s n k low inside).nmt = s.nmt ∧ (State.foreignPulse s n k low inside).sle = s.sle ∧
    (State.foreignPulse s n k low inside).sout = s.sout ∧ (State.foreignPulse s n k low inside).tmu = s.tmu ∧
    (State.foreignPulse s n k low inside).aaq = s.aaq ∧ (State.foreignPulse s n k low inside).hpo.reply = s.hpo.reply ∧
    (State.foreignPulse s n k low inside).hpo.partner = s.hpo.partner ∧ (State.foreignPulse s n k low inside).trk = s.trk ∧
    (State.foreignPulse s n k low inside).otp = s.otp ∧ (State.foreignPulse s n k low inside).bist = s.bist ∧
    (State.foreignPulse s n k low inside).cvus = s.cvus ∧ (State.foreignPulse s n k low inside).cpl = s.cpl ∧
    (State.foreignPulse s n k low inside).rcr = s.rcr ∧ (State.foreignPulse s n k low inside).pending = s.pending := by
  and_intros <;> (unfold State.foreignPulse; simp)

@[simp ↓] theorem State.sourceFails_keeps (s : State) (k code : Nat) :
    (State.sourceFails s k code).clk = s.clk ∧ (State.sourceFails s k code).pwr = s.pwr ∧ (State.sourceFails s k code).sup = s.sup ∧
    (State.sourceFails s k code).lot = s.lot ∧ (State.sourceFails s k code).nmt = s.nmt ∧ (State.sourceFails s k code).sle = s.sle ∧
    (State.sourceFails s k code).sout = s.sout ∧ (State.sourceFails s k code).tmu = s.tmu ∧ (State.sourceFails s k code).aaq = s.aaq ∧
    (State.sourceFails s k code).hpo.reply = s.hpo.reply ∧ (State.sourceFails s k code).hpo.partner = s.hpo.partner ∧
    (State.sourceFails s k code).trk = s.trk ∧ (State.sourceFails s k code).otp = s.otp ∧ (State.sourceFails s k code).bist = s.bist ∧
    (State.sourceFails s k code).cvus = s.cvus ∧ (State.sourceFails s k code).cpl = s.cpl ∧ (State.sourceFails s k code).rcr = s.rcr ∧
    (State.sourceFails s k code).pending = s.pending := by
  and_intros <;> (unfold State.sourceFails; simp)

end Sys2Proof.Machine
end

