-- ==== Sys2Proof/Laws/Outputs.lean ====
section
/-! SUPPORT. What the operations of Machine/Outputs.lean leave alone: for each, every part of the state that it keeps. -/

namespace Sys2Proof.Machine

@[simp ↓] theorem State.closingEnd_keeps (s : State) (g : Nat) (notLow : BitVec 16) (railClosed : Bool) :
    (State.closingEnd s g notLow railClosed).clk = s.clk ∧ (State.closingEnd s g notLow railClosed).pwr = s.pwr ∧
    (State.closingEnd s g notLow railClosed).sup = s.sup ∧ (State.closingEnd s g notLow railClosed).lot = s.lot ∧
    (State.closingEnd s g notLow railClosed).nmt = s.nmt ∧ (State.closingEnd s g notLow railClosed).sle = s.sle ∧
    (State.closingEnd s g notLow railClosed).sin = s.sin ∧ (State.closingEnd s g notLow railClosed).sout.w8 = s.sout.w8 ∧
    (State.closingEnd s g notLow railClosed).tmu = s.tmu ∧ (State.closingEnd s g notLow railClosed).aaq = s.aaq ∧
    (State.closingEnd s g notLow railClosed).hpo.reply = s.hpo.reply ∧
    (State.closingEnd s g notLow railClosed).hpo.partner = s.hpo.partner ∧ (State.closingEnd s g notLow railClosed).trk = s.trk ∧
    (State.closingEnd s g notLow railClosed).otp = s.otp ∧ (State.closingEnd s g notLow railClosed).bist = s.bist ∧
    (State.closingEnd s g notLow railClosed).cvus = s.cvus ∧ (State.closingEnd s g notLow railClosed).cpl = s.cpl ∧
    (State.closingEnd s g notLow railClosed).rcr = s.rcr ∧ (State.closingEnd s g notLow railClosed).fresh = s.fresh ∧
    (State.closingEnd s g notLow railClosed).pending = s.pending := by
  and_intros <;> (unfold State.closingEnd; simp)

@[simp ↓] theorem State.bleedFault_keeps (s : State) (outs : List Nat) :
    (State.bleedFault s outs).clk = s.clk ∧ (State.bleedFault s outs).pwr = s.pwr ∧ (State.bleedFault s outs).sup = s.sup ∧
    (State.bleedFault s outs).lot = s.lot ∧ (State.bleedFault s outs).nmt = s.nmt ∧ (State.bleedFault s outs).sle = s.sle ∧
    (State.bleedFault s outs).sin = s.sin ∧ (State.bleedFault s outs).sout.w8 = s.sout.w8 ∧ (State.bleedFault s outs).tmu = s.tmu ∧
    (State.bleedFault s outs).aaq = s.aaq ∧ (State.bleedFault s outs).hpo.reply = s.hpo.reply ∧
    (State.bleedFault s outs).hpo.partner = s.hpo.partner ∧ (State.bleedFault s outs).trk = s.trk ∧
    (State.bleedFault s outs).otp = s.otp ∧ (State.bleedFault s outs).bist = s.bist ∧ (State.bleedFault s outs).cvus = s.cvus ∧
    (State.bleedFault s outs).cpl = s.cpl ∧ (State.bleedFault s outs).rcr = s.rcr ∧ (State.bleedFault s outs).fresh = s.fresh ∧
    (State.bleedFault s outs).pending = s.pending := by
  and_intros <;> (unfold State.bleedFault; simp)

@[simp ↓] theorem State.groupSettles_keeps (s : State) (g : Nat) :
    (State.groupSettles s g).clk = s.clk ∧ (State.groupSettles s g).pwr = s.pwr ∧ (State.groupSettles s g).sup = s.sup ∧
    (State.groupSettles s g).lot = s.lot ∧ (State.groupSettles s g).nmt = s.nmt ∧ (State.groupSettles s g).sle = s.sle ∧
    (State.groupSettles s g).sin = s.sin ∧ (State.groupSettles s g).sout.w8 = s.sout.w8 ∧ (State.groupSettles s g).tmu = s.tmu ∧
    (State.groupSettles s g).aaq = s.aaq ∧ (State.groupSettles s g).hpo = s.hpo ∧ (State.groupSettles s g).trk = s.trk ∧
    (State.groupSettles s g).otp = s.otp ∧ (State.groupSettles s g).bist = s.bist ∧ (State.groupSettles s g).cvus = s.cvus ∧
    (State.groupSettles s g).cpl = s.cpl ∧ (State.groupSettles s g).rcr = s.rcr ∧ (State.groupSettles s g).log = s.log ∧
    (State.groupSettles s g).fresh = s.fresh ∧ (State.groupSettles s g).pending = s.pending := by
  and_intros <;> (unfold State.groupSettles; simp)

@[simp ↓] theorem State.groupTestEnd_keeps (s : State) (g : Nat) (t : TestPulse) (railSeen : Bool) (notLow bled : BitVec 16) :
    (State.groupTestEnd s g t railSeen notLow bled).clk = s.clk ∧ (State.groupTestEnd s g t railSeen notLow bled).pwr = s.pwr ∧
    (State.groupTestEnd s g t railSeen notLow bled).sup = s.sup ∧ (State.groupTestEnd s g t railSeen notLow bled).lot = s.lot ∧
    (State.groupTestEnd s g t railSeen notLow bled).nmt = s.nmt ∧ (State.groupTestEnd s g t railSeen notLow bled).sle = s.sle ∧
    (State.groupTestEnd s g t railSeen notLow bled).sin = s.sin ∧ (State.groupTestEnd s g t railSeen notLow bled).sout.w8 = s.sout.w8 ∧
    (State.groupTestEnd s g t railSeen notLow bled).tmu = s.tmu ∧ (State.groupTestEnd s g t railSeen notLow bled).aaq = s.aaq ∧
    (State.groupTestEnd s g t railSeen notLow bled).hpo.reply = s.hpo.reply ∧
    (State.groupTestEnd s g t railSeen notLow bled).hpo.partner = s.hpo.partner ∧
    (State.groupTestEnd s g t railSeen notLow bled).trk = s.trk ∧ (State.groupTestEnd s g t railSeen notLow bled).otp = s.otp ∧
    (State.groupTestEnd s g t railSeen notLow bled).bist = s.bist ∧ (State.groupTestEnd s g t railSeen notLow bled).cvus = s.cvus ∧
    (State.groupTestEnd s g t railSeen notLow bled).cpl = s.cpl ∧ (State.groupTestEnd s g t railSeen notLow bled).rcr = s.rcr ∧
    (State.groupTestEnd s g t railSeen notLow bled).fresh = s.fresh ∧ (State.groupTestEnd s g t railSeen notLow bled).pending = s.pending := by
  and_intros <;> (unfold State.groupTestEnd; (try dsimp only); first | (with_reducible rfl) | (simp; done) | (repeat' (first | (simp; done) | split)))

@[simp ↓] theorem State.darkEnd_keeps (s : State) (src : DarkSource) (t : TestPulse) (seen bled : BitVec 16) :
    (State.darkEnd s src t seen bled).clk = s.clk ∧ (State.darkEnd s src t seen bled).pwr = s.pwr ∧
    (State.darkEnd s src t seen bled).sup = s.sup ∧ (State.darkEnd s src t seen bled).lot = s.lot ∧
    (State.darkEnd s src t seen bled).nmt = s.nmt ∧ (State.darkEnd s src t seen bled).sle = s.sle ∧
    (State.darkEnd s src t seen bled).sin = s.sin ∧ (State.darkEnd s src t seen bled).sout.w8 = s.sout.w8 ∧
    (State.darkEnd s src t seen bled).tmu = s.tmu ∧ (State.darkEnd s src t seen bled).aaq = s.aaq ∧
    (State.darkEnd s src t seen bled).trk = s.trk ∧ (State.darkEnd s src t seen bled).otp = s.otp ∧
    (State.darkEnd s src t seen bled).bist = s.bist ∧ (State.darkEnd s src t seen bled).cvus = s.cvus ∧
    (State.darkEnd s src t seen bled).cpl = s.cpl ∧ (State.darkEnd s src t seen bled).rcr = s.rcr ∧
    (State.darkEnd s src t seen bled).fresh = s.fresh ∧ (State.darkEnd s src t seen bled).pending = s.pending := by
  and_intros <;> (unfold State.darkEnd; simp)

end Sys2Proof.Machine
end

