-- ==== Sys2Proof/Laws/Trunk.lean ====
section
/-! SUPPORT. What the operations of Machine/Trunk.lean leave alone: for each, every part of the state that it keeps. -/

namespace Sys2Proof.Machine

@[simp ↓] theorem State.takeSlot_keeps (s : State) (p : List Byte) (o : Nat) (e : StEntry) (seq : Nat) (tb wrapped : Bool) :
    (State.takeSlot s p o e seq tb wrapped).clk = s.clk ∧ (State.takeSlot s p o e seq tb wrapped).pwr.doms = s.pwr.doms ∧
    (State.takeSlot s p o e seq tb wrapped).sup.driveRemoved = s.sup.driveRemoved ∧
    (State.takeSlot s p o e seq tb wrapped).sup.bootCount = s.sup.bootCount ∧ (State.takeSlot s p o e seq tb wrapped).lot = s.lot ∧
    (State.takeSlot s p o e seq tb wrapped).sle.epoch = s.sle.epoch ∧ (State.takeSlot s p o e seq tb wrapped).sle.lfsr = s.sle.lfsr ∧
    (State.takeSlot s p o e seq tb wrapped).sout.w8 = s.sout.w8 ∧ (State.takeSlot s p o e seq tb wrapped).tmu.swatch = s.tmu.swatch ∧
    (State.takeSlot s p o e seq tb wrapped).hpo.reply = s.hpo.reply ∧
    (State.takeSlot s p o e seq tb wrapped).hpo.partner = s.hpo.partner ∧ (State.takeSlot s p o e seq tb wrapped).otp = s.otp ∧
    (State.takeSlot s p o e seq tb wrapped).cvus = s.cvus ∧ (State.takeSlot s p o e seq tb wrapped).cpl = s.cpl ∧
    (State.takeSlot s p o e seq tb wrapped).fresh = s.fresh ∧ (State.takeSlot s p o e seq tb wrapped).pending = s.pending := by
  and_intros <;> (unfold State.takeSlot; simp)

/-- What no change of the trunk's own block and no slot touches, a copy that returns does not touch. -/
theorem State.takeCopy_keep {γ : Type} (π : State → γ) (h : ∀ (s : State) (k : Trk), π { s with trk := k } = π s)
    (hs : ∀ (s : State) (p : List Byte) (o : Nat) (e : StEntry) (seq : Nat) (tb w : Bool), π (s.takeSlot p o e seq tb w) = π s)
    (s : State) (port : TrunkPort) (bytes : List Byte) : π (s.takeCopy port bytes) = π s := by
  unfold State.takeCopy
  split
  · rfl
  · refine (apply_ite π _ _ _).trans ((ite_congr rfl (fun _ => ?_) (fun _ => rfl)).trans (ite_self (π s)))
    refine (foldl_keep (fun z : State × Nat => π z.1) _ (fun a x => ?_) _ _).trans (h ..)
    exact hs ..

@[simp ↓] theorem State.takeCopy_keeps (s : State) (port : TrunkPort) (bytes : List Byte) :
    (State.takeCopy s port bytes).clk = s.clk ∧ (State.takeCopy s port bytes).pwr.doms = s.pwr.doms ∧
    (State.takeCopy s port bytes).sup.driveRemoved = s.sup.driveRemoved ∧ (State.takeCopy s port bytes).sup.bootCount = s.sup.bootCount ∧
    (State.takeCopy s port bytes).lot = s.lot ∧ (State.takeCopy s port bytes).sle.epoch = s.sle.epoch ∧
    (State.takeCopy s port bytes).sle.lfsr = s.sle.lfsr ∧ (State.takeCopy s port bytes).sout.w8 = s.sout.w8 ∧
    (State.takeCopy s port bytes).tmu.swatch = s.tmu.swatch ∧ (State.takeCopy s port bytes).hpo.reply = s.hpo.reply ∧
    (State.takeCopy s port bytes).hpo.partner = s.hpo.partner ∧ (State.takeCopy s port bytes).otp = s.otp ∧
    (State.takeCopy s port bytes).cvus = s.cvus ∧ (State.takeCopy s port bytes).cpl = s.cpl ∧
    (State.takeCopy s port bytes).fresh = s.fresh ∧ (State.takeCopy s port bytes).pending = s.pending :=
  ⟨State.takeCopy_keep (·.clk) (fun _ _ => rfl) (by simp) ..,
    takeCopy_keep (·.pwr.doms) (fun _ _ => rfl) (by simp) ..,
    takeCopy_keep (·.sup.driveRemoved) (fun _ _ => rfl) (by simp) ..,
    takeCopy_keep (·.sup.bootCount) (fun _ _ => rfl) (by simp) ..,
    takeCopy_keep (·.lot) (fun _ _ => rfl) (by simp) ..,
    takeCopy_keep (·.sle.epoch) (fun _ _ => rfl) (by simp) ..,
    takeCopy_keep (·.sle.lfsr) (fun _ _ => rfl) (by simp) ..,
    takeCopy_keep (·.sout.w8) (fun _ _ => rfl) (by simp) ..,
    takeCopy_keep (·.tmu.swatch) (fun _ _ => rfl) (by simp) ..,
    takeCopy_keep (·.hpo.reply) (fun _ _ => rfl) (by simp) ..,
    takeCopy_keep (·.hpo.partner) (fun _ _ => rfl) (by simp) ..,
    takeCopy_keep (·.otp) (fun _ _ => rfl) (by simp) ..,
    takeCopy_keep (·.cvus) (fun _ _ => rfl) (by simp) ..,
    takeCopy_keep (·.cpl) (fun _ _ => rfl) (by simp) ..,
    takeCopy_keep (·.fresh) (fun _ _ => rfl) (by simp) ..,
    takeCopy_keep (·.pending) (fun _ _ => rfl) (by simp) ..⟩

@[simp ↓] theorem State.relayFrame_keeps (s : State) (port : TrunkPort) (bytes : List Byte) :
    (State.relayFrame s port bytes).clk = s.clk ∧ (State.relayFrame s port bytes).pwr = s.pwr ∧
    (State.relayFrame s port bytes).sup = s.sup ∧ (State.relayFrame s port bytes).lot = s.lot ∧
    (State.relayFrame s port bytes).nmt = s.nmt ∧ (State.relayFrame s port bytes).sle = s.sle ∧
    (State.relayFrame s port bytes).sin = s.sin ∧ (State.relayFrame s port bytes).sout = s.sout ∧
    (State.relayFrame s port bytes).tmu = s.tmu ∧ (State.relayFrame s port bytes).aaq = s.aaq ∧
    (State.relayFrame s port bytes).hpo = s.hpo ∧ (State.relayFrame s port bytes).otp = s.otp ∧
    (State.relayFrame s port bytes).bist = s.bist ∧ (State.relayFrame s port bytes).cvus = s.cvus ∧
    (State.relayFrame s port bytes).cpl = s.cpl ∧ (State.relayFrame s port bytes).rcr = s.rcr ∧
    (State.relayFrame s port bytes).log = s.log ∧ (State.relayFrame s port bytes).fresh = s.fresh ∧
    (State.relayFrame s port bytes).pending = s.pending := by
  and_intros <;> (unfold State.relayFrame; with_reducible rfl)

@[simp ↓] theorem State.copiesNow_keeps (s : State) :
    (State.copiesNow s).clk = s.clk ∧ (State.copiesNow s).pwr.doms = s.pwr.doms ∧
    (State.copiesNow s).sup.driveRemoved = s.sup.driveRemoved ∧ (State.copiesNow s).sup.bootCount = s.sup.bootCount ∧
    (State.copiesNow s).lot = s.lot ∧ (State.copiesNow s).sle.epoch = s.sle.epoch ∧ (State.copiesNow s).sle.lfsr = s.sle.lfsr ∧
    (State.copiesNow s).sout.w8 = s.sout.w8 ∧ (State.copiesNow s).tmu.swatch = s.tmu.swatch ∧
    (State.copiesNow s).hpo.reply = s.hpo.reply ∧ (State.copiesNow s).hpo.partner = s.hpo.partner ∧ (State.copiesNow s).otp = s.otp ∧
    (State.copiesNow s).cvus = s.cvus ∧ (State.copiesNow s).cpl = s.cpl ∧ (State.copiesNow s).fresh = s.fresh ∧
    (State.copiesNow s).pending = s.pending := by
  exact ⟨by first | (unfold State.copiesNow; (try dsimp only); simp; done) | (unfold State.copiesNow; (try dsimp only); (repeat' (first | (simp; done) | (with_reducible refine (foldl_keep (fun z : State => z.clk) _ (fun a x => ?_) _ _).trans ?_ <;> (try dsimp only)) | (with_reducible refine (foldl_keep (fun z : State × _ => z.1.clk) _ (fun a x => ?_) _ _).trans ?_ <;> (try dsimp only)) | split))),
    by first | (unfold State.copiesNow; (try dsimp only); simp; done) | (unfold State.copiesNow; (try dsimp only); (repeat' (first | (simp; done) | (with_reducible refine (foldl_keep (fun z : State => z.pwr.doms) _ (fun a x => ?_) _ _).trans ?_ <;> (try dsimp only)) | (with_reducible refine (foldl_keep (fun z : State × _ => z.1.pwr.doms) _ (fun a x => ?_) _ _).trans ?_ <;> (try dsimp only)) | split))),
    by first | (unfold State.copiesNow; (try dsimp only); simp; done) | (unfold State.copiesNow; (try dsimp only); (repeat' (first | (simp; done) | (with_reducible refine (foldl_keep (fun z : State => z.sup.driveRemoved) _ (fun a x => ?_) _ _).trans ?_ <;> (try dsimp only)) | (with_reducible refine (foldl_keep (fun z : State × _ => z.1.sup.driveRemoved) _ (fun a x => ?_) _ _).trans ?_ <;> (try dsimp only)) | split))),
    by first | (unfold State.copiesNow; (try dsimp only); simp; done) | (unfold State.copiesNow; (try dsimp only); (repeat' (first | (simp; done) | (with_reducible refine (foldl_keep (fun z : State => z.sup.bootCount) _ (fun a x => ?_) _ _).trans ?_ <;> (try dsimp only)) | (with_reducible refine (foldl_keep (fun z : State × _ => z.1.sup.bootCount) _ (fun a x => ?_) _ _).trans ?_ <;> (try dsimp only)) | split))),
    by first | (unfold State.copiesNow; (try dsimp only); simp; done) | (unfold State.copiesNow; (try dsimp only); (repeat' (first | (simp; done) | (with_reducible refine (foldl_keep (fun z : State => z.lot) _ (fun a x => ?_) _ _).trans ?_ <;> (try dsimp only)) | (with_reducible refine (foldl_keep (fun z : State × _ => z.1.lot) _ (fun a x => ?_) _ _).trans ?_ <;> (try dsimp only)) | split))),
    by first | (unfold State.copiesNow; (try dsimp only); simp; done) | (unfold State.copiesNow; (try dsimp only); (repeat' (first | (simp; done) | (with_reducible refine (foldl_keep (fun z : State => z.sle.epoch) _ (fun a x => ?_) _ _).trans ?_ <;> (try dsimp only)) | (with_reducible refine (foldl_keep (fun z : State × _ => z.1.sle.epoch) _ (fun a x => ?_) _ _).trans ?_ <;> (try dsimp only)) | split))),
    by first | (unfold State.copiesNow; (try dsimp only); simp; done) | (unfold State.copiesNow; (try dsimp only); (repeat' (first | (simp; done) | (with_reducible refine (foldl_keep (fun z : State => z.sle.lfsr) _ (fun a x => ?_) _ _).trans ?_ <;> (try dsimp only)) | (with_reducible refine (foldl_keep (fun z : State × _ => z.1.sle.lfsr) _ (fun a x => ?_) _ _).trans ?_ <;> (try dsimp only)) | split))),
    by first | (unfold State.copiesNow; (try dsimp only); simp; done) | (unfold State.copiesNow; (try dsimp only); (repeat' (first | (simp; done) | (with_reducible refine (foldl_keep (fun z : State => z.sout.w8) _ (fun a x => ?_) _ _).trans ?_ <;> (try dsimp only)) | (with_reducible refine (foldl_keep (fun z : State × _ => z.1.sout.w8) _ (fun a x => ?_) _ _).trans ?_ <;> (try dsimp only)) | split))),
    by first | (unfold State.copiesNow; (try dsimp only); simp; done) | (unfold State.copiesNow; (try dsimp only); (repeat' (first | (simp; done) | (with_reducible refine (foldl_keep (fun z : State => z.tmu.swatch) _ (fun a x => ?_) _ _).trans ?_ <;> (try dsimp only)) | (with_reducible refine (foldl_keep (fun z : State × _ => z.1.tmu.swatch) _ (fun a x => ?_) _ _).trans ?_ <;> (try dsimp only)) | split))),
    by first | (unfold State.copiesNow; (try dsimp only); simp; done) | (unfold State.copiesNow; (try dsimp only); (repeat' (first | (simp; done) | (with_reducible refine (foldl_keep (fun z : State => z.hpo.reply) _ (fun a x => ?_) _ _).trans ?_ <;> (try dsimp only)) | (with_reducible refine (foldl_keep (fun z : State × _ => z.1.hpo.reply) _ (fun a x => ?_) _ _).trans ?_ <;> (try dsimp only)) | split))),
    by first | (unfold State.copiesNow; (try dsimp only); simp; done) | (unfold State.copiesNow; (try dsimp only); (repeat' (first | (simp; done) | (with_reducible refine (foldl_keep (fun z : State => z.hpo.partner) _ (fun a x => ?_) _ _).trans ?_ <;> (try dsimp only)) | (with_reducible refine (foldl_keep (fun z : State × _ => z.1.hpo.partner) _ (fun a x => ?_) _ _).trans ?_ <;> (try dsimp only)) | split))),
    by first | (unfold State.copiesNow; (try dsimp only); simp; done) | (unfold State.copiesNow; (try dsimp only); (repeat' (first | (simp; done) | (with_reducible refine (foldl_keep (fun z : State => z.otp) _ (fun a x => ?_) _ _).trans ?_ <;> (try dsimp only)) | (with_reducible refine (foldl_keep (fun z : State × _ => z.1.otp) _ (fun a x => ?_) _ _).trans ?_ <;> (try dsimp only)) | split))),
    by first | (unfold State.copiesNow; (try dsimp only); simp; done) | (unfold State.copiesNow; (try dsimp only); (repeat' (first | (simp; done) | (with_reducible refine (foldl_keep (fun z : State => z.cvus) _ (fun a x => ?_) _ _).trans ?_ <;> (try dsimp only)) | (with_reducible refine (foldl_keep (fun z : State × _ => z.1.cvus) _ (fun a x => ?_) _ _).trans ?_ <;> (try dsimp only)) | split))),
    by first | (unfold State.copiesNow; (try dsimp only); simp; done) | (unfold State.copiesNow; (try dsimp only); (repeat' (first | (simp; done) | (with_reducible refine (foldl_keep (fun z : State => z.cpl) _ (fun a x => ?_) _ _).trans ?_ <;> (try dsimp only)) | (with_reducible refine (foldl_keep (fun z : State × _ => z.1.cpl) _ (fun a x => ?_) _ _).trans ?_ <;> (try dsimp only)) | split))),
    by first | (unfold State.copiesNow; (try dsimp only); simp; done) | (unfold State.copiesNow; (try dsimp only); (repeat' (first | (simp; done) | (with_reducible refine (foldl_keep (fun z : State => z.fresh) _ (fun a x => ?_) _ _).trans ?_ <;> (try dsimp only)) | (with_reducible refine (foldl_keep (fun z : State × _ => z.1.fresh) _ (fun a x => ?_) _ _).trans ?_ <;> (try dsimp only)) | split))),
    by first | (unfold State.copiesNow; (try dsimp only); simp; done) | (unfold State.copiesNow; (try dsimp only); (repeat' (first | (simp; done) | (with_reducible refine (foldl_keep (fun z : State => z.pending) _ (fun a x => ?_) _ _).trans ?_ <;> (try dsimp only)) | (with_reducible refine (foldl_keep (fun z : State × _ => z.1.pending) _ (fun a x => ?_) _ _).trans ?_ <;> (try dsimp only)) | split)))⟩

end Sys2Proof.Machine
end

