-- ==== Sys2Proof/Laws/Cascade.lean ====
section
/-! SUPPORT. What the operations of Machine/Cascade.lean leave alone: for each, every part of the state that it keeps. -/

namespace Sys2Proof.Machine

@[simp ↓] theorem State.caForward_keeps (s : State) (b : List Byte) :
    (State.caForward s b).clk = s.clk ∧ (State.caForward s b).pwr = s.pwr ∧ (State.caForward s b).sup = s.sup ∧
    (State.caForward s b).lot = s.lot ∧ (State.caForward s b).nmt = s.nmt ∧ (State.caForward s b).sle = s.sle ∧
    (State.caForward s b).sin = s.sin ∧ (State.caForward s b).sout = s.sout ∧ (State.caForward s b).tmu = s.tmu ∧
    (State.caForward s b).aaq = s.aaq ∧ (State.caForward s b).hpo = s.hpo ∧ (State.caForward s b).trk = s.trk ∧
    (State.caForward s b).otp = s.otp ∧ (State.caForward s b).bist = s.bist ∧ (State.caForward s b).cvus = s.cvus ∧
    (State.caForward s b).cpl.role = s.cpl.role ∧ (State.caForward s b).rcr = s.rcr ∧ (State.caForward s b).log = s.log ∧
    (State.caForward s b).fresh = s.fresh ∧ (State.caForward s b).pending = s.pending := by
  and_intros <;> (unfold State.caForward; simp)

@[simp ↓] theorem State.caHeard_keeps (s : State) (f : CFrame) :
    (State.caHeard s f).clk = s.clk ∧ (State.caHeard s f).pwr = s.pwr ∧ (State.caHeard s f).sup = s.sup ∧
    (State.caHeard s f).lot = s.lot ∧ (State.caHeard s f).sle = s.sle ∧ (State.caHeard s f).sin = s.sin ∧
    (State.caHeard s f).sout = s.sout ∧ (State.caHeard s f).tmu = s.tmu ∧ (State.caHeard s f).aaq = s.aaq ∧
    (State.caHeard s f).hpo.reply = s.hpo.reply ∧ (State.caHeard s f).hpo.partner = s.hpo.partner ∧ (State.caHeard s f).trk = s.trk ∧
    (State.caHeard s f).otp = s.otp ∧ (State.caHeard s f).cvus = s.cvus ∧ (State.caHeard s f).cpl.role = s.cpl.role ∧
    (State.caHeard s f).rcr = s.rcr ∧ (State.caHeard s f).fresh = s.fresh ∧ (State.caHeard s f).pending = s.pending := by
  and_intros <;> (unfold State.caHeard; (try dsimp only); first | (with_reducible rfl) | (simp; done) | (repeat' (first | (simp; done) | split)))

@[simp ↓] theorem State.landEntry_keeps (s : State) (m : Nat) (e : List Byte) :
    (State.landEntry s m e).clk = s.clk ∧ (State.landEntry s m e).pwr = s.pwr ∧ (State.landEntry s m e).sup = s.sup ∧
    (State.landEntry s m e).lot = s.lot ∧ (State.landEntry s m e).sle = s.sle ∧ (State.landEntry s m e).sin = s.sin ∧
    (State.landEntry s m e).sout = s.sout ∧ (State.landEntry s m e).tmu = s.tmu ∧ (State.landEntry s m e).aaq = s.aaq ∧
    (State.landEntry s m e).hpo.reply = s.hpo.reply ∧ (State.landEntry s m e).hpo.partner = s.hpo.partner ∧
    (State.landEntry s m e).trk = s.trk ∧ (State.landEntry s m e).otp = s.otp ∧ (State.landEntry s m e).cvus = s.cvus ∧
    (State.landEntry s m e).cpl = s.cpl ∧ (State.landEntry s m e).rcr = s.rcr ∧ (State.landEntry s m e).fresh = s.fresh ∧
    (State.landEntry s m e).pending = s.pending := by
  and_intros <;> (unfold State.landEntry; first | (with_reducible rfl) | (simp; done) | (repeat' (first | (simp; done) | split)))

@[simp ↓] theorem State.takeWords_keeps (s : State) (f : CFrame) :
    (State.takeWords s f).clk = s.clk ∧ (State.takeWords s f).pwr = s.pwr ∧ (State.takeWords s f).sup = s.sup ∧
    (State.takeWords s f).lot = s.lot ∧ (State.takeWords s f).sle = s.sle ∧ (State.takeWords s f).sin = s.sin ∧
    (State.takeWords s f).sout = s.sout ∧ (State.takeWords s f).tmu = s.tmu ∧ (State.takeWords s f).aaq = s.aaq ∧
    (State.takeWords s f).hpo.reply = s.hpo.reply ∧ (State.takeWords s f).hpo.partner = s.hpo.partner ∧
    (State.takeWords s f).trk = s.trk ∧ (State.takeWords s f).otp = s.otp ∧ (State.takeWords s f).cvus = s.cvus ∧
    (State.takeWords s f).cpl.role = s.cpl.role ∧ (State.takeWords s f).rcr = s.rcr ∧ (State.takeWords s f).fresh = s.fresh ∧
    (State.takeWords s f).pending = s.pending := by
  and_intros <;> (unfold State.takeWords; simp)

@[simp ↓] theorem State.takeImage_keeps (s0 : State) (p seq : Nat) (body : List Byte) :
    (State.takeImage s0 p seq body).clk = s0.clk ∧ (State.takeImage s0 p seq body).pwr = s0.pwr ∧
    (State.takeImage s0 p seq body).sup = s0.sup ∧ (State.takeImage s0 p seq body).lot = s0.lot ∧
    (State.takeImage s0 p seq body).nmt.comG = s0.nmt.comG ∧ (State.takeImage s0 p seq body).sle.epoch = s0.sle.epoch ∧
    (State.takeImage s0 p seq body).sin = s0.sin ∧ (State.takeImage s0 p seq body).tmu = s0.tmu ∧
    (State.takeImage s0 p seq body).aaq = s0.aaq ∧ (State.takeImage s0 p seq body).hpo.reply = s0.hpo.reply ∧
    (State.takeImage s0 p seq body).hpo.partner = s0.hpo.partner ∧ (State.takeImage s0 p seq body).trk = s0.trk ∧
    (State.takeImage s0 p seq body).otp = s0.otp ∧ (State.takeImage s0 p seq body).bist = s0.bist ∧
    (State.takeImage s0 p seq body).cvus = s0.cvus ∧ (State.takeImage s0 p seq body).fresh = s0.fresh ∧
    (State.takeImage s0 p seq body).pending = s0.pending := by
  and_intros <;> (unfold State.takeImage; (try dsimp only); first | (with_reducible rfl) | (simp; done) | (repeat' (first | (simp; done) | split)))

@[simp ↓] theorem State.takePairWords_keeps (s : State) (body : List Byte) :
    (State.takePairWords s body).clk = s.clk ∧ (State.takePairWords s body).pwr = s.pwr ∧ (State.takePairWords s body).sup = s.sup ∧
    (State.takePairWords s body).lot = s.lot ∧ (State.takePairWords s body).sle = s.sle ∧ (State.takePairWords s body).sin = s.sin ∧
    (State.takePairWords s body).sout = s.sout ∧ (State.takePairWords s body).tmu = s.tmu ∧ (State.takePairWords s body).aaq = s.aaq ∧
    (State.takePairWords s body).hpo.reply = s.hpo.reply ∧ (State.takePairWords s body).hpo.partner = s.hpo.partner ∧
    (State.takePairWords s body).trk = s.trk ∧ (State.takePairWords s body).otp = s.otp ∧ (State.takePairWords s body).cvus = s.cvus ∧
    (State.takePairWords s body).cpl = s.cpl ∧ (State.takePairWords s body).rcr = s.rcr ∧ (State.takePairWords s body).fresh = s.fresh ∧
    (State.takePairWords s body).pending = s.pending := by
  and_intros <;> (unfold State.takePairWords; simp)

@[simp ↓] theorem State.partnerHalt_keeps (s : State) (p wop : Nat) :
    (State.partnerHalt s p wop).clk = s.clk ∧ (State.partnerHalt s p wop).pwr.doms = s.pwr.doms ∧
    (State.partnerHalt s p wop).sup.mode = s.sup.mode ∧ (State.partnerHalt s p wop).sup.bootCount = s.sup.bootCount ∧
    (State.partnerHalt s p wop).sup.causes = s.sup.causes ∧ (State.partnerHalt s p wop).sup.firstCause = s.sup.firstCause ∧
    (State.partnerHalt s p wop).lot = s.lot ∧ (State.partnerHalt s p wop).nmt = s.nmt ∧
    (State.partnerHalt s p wop).sle.epoch = s.sle.epoch ∧ (State.partnerHalt s p wop).sle.lfsr = s.sle.lfsr ∧
    (State.partnerHalt s p wop).sin = s.sin ∧ (State.partnerHalt s p wop).sout.w8 = s.sout.w8 ∧ (State.partnerHalt s p wop).tmu = s.tmu ∧
    (State.partnerHalt s p wop).aaq = s.aaq ∧ (State.partnerHalt s p wop).hpo.reply = s.hpo.reply ∧
    (State.partnerHalt s p wop).hpo.partner = s.hpo.partner ∧ (State.partnerHalt s p wop).trk = s.trk ∧
    (State.partnerHalt s p wop).otp = s.otp ∧ (State.partnerHalt s p wop).bist = s.bist ∧ (State.partnerHalt s p wop).cvus = s.cvus ∧
    (State.partnerHalt s p wop).cpl = s.cpl ∧ (State.partnerHalt s p wop).rcr = s.rcr ∧ (State.partnerHalt s p wop).fresh = s.fresh ∧
    (State.partnerHalt s p wop).pending = s.pending := by
  and_intros <;> (unfold State.partnerHalt; simp)

@[simp ↓] theorem State.partnerCommand_keeps (s : State) (code boundary : Nat) :
    (State.partnerCommand s code boundary).clk = s.clk ∧ (State.partnerCommand s code boundary).pwr = s.pwr ∧
    (State.partnerCommand s code boundary).sup.mode = s.sup.mode ∧
    (State.partnerCommand s code boundary).sup.driveRemoved = s.sup.driveRemoved ∧
    (State.partnerCommand s code boundary).sup.bootCount = s.sup.bootCount ∧
    (State.partnerCommand s code boundary).sup.causes = s.sup.causes ∧
    (State.partnerCommand s code boundary).sup.firstCause = s.sup.firstCause ∧ (State.partnerCommand s code boundary).lot = s.lot ∧
    (State.partnerCommand s code boundary).nmt = s.nmt ∧ (State.partnerCommand s code boundary).sle = s.sle ∧
    (State.partnerCommand s code boundary).sin = s.sin ∧ (State.partnerCommand s code boundary).sout = s.sout ∧
    (State.partnerCommand s code boundary).tmu = s.tmu ∧ (State.partnerCommand s code boundary).aaq = s.aaq ∧
    (State.partnerCommand s code boundary).hpo = s.hpo ∧ (State.partnerCommand s code boundary).trk = s.trk ∧
    (State.partnerCommand s code boundary).otp = s.otp ∧ (State.partnerCommand s code boundary).bist = s.bist ∧
    (State.partnerCommand s code boundary).cvus = s.cvus ∧ (State.partnerCommand s code boundary).cpl = s.cpl ∧
    (State.partnerCommand s code boundary).rcr = s.rcr ∧ (State.partnerCommand s code boundary).log = s.log ∧
    (State.partnerCommand s code boundary).fresh = s.fresh ∧ (State.partnerCommand s code boundary).pending = s.pending := by
  and_intros <;> (unfold State.partnerCommand; simp)

@[simp ↓] theorem State.parkReply_keeps (s : State) (code : Nat) :
    (State.parkReply s code).clk = s.clk ∧ (State.parkReply s code).pwr = s.pwr ∧ (State.parkReply s code).sup = s.sup ∧
    (State.parkReply s code).lot = s.lot ∧ (State.parkReply s code).nmt = s.nmt ∧ (State.parkReply s code).sle = s.sle ∧
    (State.parkReply s code).sin = s.sin ∧ (State.parkReply s code).sout = s.sout ∧ (State.parkReply s code).tmu = s.tmu ∧
    (State.parkReply s code).aaq = s.aaq ∧ (State.parkReply s code).hpo = s.hpo ∧ (State.parkReply s code).trk = s.trk ∧
    (State.parkReply s code).otp = s.otp ∧ (State.parkReply s code).bist = s.bist ∧ (State.parkReply s code).cvus = s.cvus ∧
    (State.parkReply s code).cpl.role = s.cpl.role ∧ (State.parkReply s code).rcr = s.rcr ∧ (State.parkReply s code).log = s.log ∧
    (State.parkReply s code).fresh = s.fresh ∧ (State.parkReply s code).pending = s.pending := by
  and_intros <;> (unfold State.parkReply; simp)

@[simp ↓] theorem State.nameResync_keeps (s : State) :
    (State.nameResync s).clk = s.clk ∧ (State.nameResync s).pwr = s.pwr ∧ (State.nameResync s).sup = s.sup ∧
    (State.nameResync s).lot = s.lot ∧ (State.nameResync s).nmt = s.nmt ∧ (State.nameResync s).sle = s.sle ∧
    (State.nameResync s).sin = s.sin ∧ (State.nameResync s).sout = s.sout ∧ (State.nameResync s).tmu = s.tmu ∧
    (State.nameResync s).aaq = s.aaq ∧ (State.nameResync s).hpo = s.hpo ∧ (State.nameResync s).trk = s.trk ∧
    (State.nameResync s).otp = s.otp ∧ (State.nameResync s).bist = s.bist ∧ (State.nameResync s).cvus = s.cvus ∧
    (State.nameResync s).cpl.role = s.cpl.role ∧ (State.nameResync s).rcr = s.rcr ∧ (State.nameResync s).log = s.log ∧
    (State.nameResync s).fresh = s.fresh ∧ (State.nameResync s).pending = s.pending := by
  and_intros <;> (unfold State.nameResync; simp)

@[simp ↓] theorem State.ownBandLog_keeps (s : State) :
    (State.ownBandLog s).clk = s.clk ∧ (State.ownBandLog s).pwr = s.pwr ∧ (State.ownBandLog s).sup = s.sup ∧
    (State.ownBandLog s).lot = s.lot ∧ (State.ownBandLog s).nmt = s.nmt ∧ (State.ownBandLog s).sle = s.sle ∧
    (State.ownBandLog s).sin = s.sin ∧ (State.ownBandLog s).sout = s.sout ∧ (State.ownBandLog s).tmu = s.tmu ∧
    (State.ownBandLog s).aaq = s.aaq ∧ (State.ownBandLog s).hpo.reply = s.hpo.reply ∧ (State.ownBandLog s).hpo.partner = s.hpo.partner ∧
    (State.ownBandLog s).trk = s.trk ∧ (State.ownBandLog s).otp = s.otp ∧ (State.ownBandLog s).bist = s.bist ∧
    (State.ownBandLog s).cvus = s.cvus ∧ (State.ownBandLog s).cpl = s.cpl ∧ (State.ownBandLog s).rcr = s.rcr ∧
    (State.ownBandLog s).fresh = s.fresh ∧ (State.ownBandLog s).pending = s.pending := by
  and_intros <;> (unfold State.ownBandLog; simp)

@[simp ↓] theorem State.takeEpoch_keeps (s : State) (epoch : Option Nat) :
    (State.takeEpoch s epoch).cpl = s.cpl := by
  (unfold State.takeEpoch; first | (with_reducible rfl) | (simp; done) | (repeat' (first | (simp; done) | split)))

@[simp ↓] theorem State.epochAfterWake_keeps (s : State) :
    (State.epochAfterWake s).clk = s.clk ∧ (State.epochAfterWake s).pwr = s.pwr ∧ (State.epochAfterWake s).sup = s.sup ∧
    (State.epochAfterWake s).lot = s.lot ∧ (State.epochAfterWake s).nmt = s.nmt ∧ (State.epochAfterWake s).sle.lfsr = s.sle.lfsr ∧
    (State.epochAfterWake s).sin = s.sin ∧ (State.epochAfterWake s).sout = s.sout ∧ (State.epochAfterWake s).tmu = s.tmu ∧
    (State.epochAfterWake s).aaq = s.aaq ∧ (State.epochAfterWake s).hpo = s.hpo ∧ (State.epochAfterWake s).otp = s.otp ∧
    (State.epochAfterWake s).bist = s.bist ∧ (State.epochAfterWake s).cvus = s.cvus ∧ (State.epochAfterWake s).cpl = s.cpl ∧
    (State.epochAfterWake s).log = s.log ∧ (State.epochAfterWake s).fresh = s.fresh ∧ (State.epochAfterWake s).pending = s.pending := by
  and_intros <;> (unfold State.epochAfterWake; simp)

@[simp ↓] theorem State.forwardSymbol_keeps (s : State) (link : SyncLink) (carried ns : Nat) :
    (State.forwardSymbol s link carried ns).clk.now = s.clk.now ∧ (State.forwardSymbol s link carried ns).clk.real = s.clk.real ∧
    (State.forwardSymbol s link carried ns).clk.running = s.clk.running ∧ (State.forwardSymbol s link carried ns).pwr = s.pwr ∧
    (State.forwardSymbol s link carried ns).nmt = s.nmt ∧ (State.forwardSymbol s link carried ns).sle = s.sle ∧
    (State.forwardSymbol s link carried ns).sout = s.sout ∧ (State.forwardSymbol s link carried ns).tmu = s.tmu ∧
    (State.forwardSymbol s link carried ns).hpo = s.hpo ∧ (State.forwardSymbol s link carried ns).trk = s.trk ∧
    (State.forwardSymbol s link carried ns).bist = s.bist ∧ (State.forwardSymbol s link carried ns).cpl = s.cpl ∧
    (State.forwardSymbol s link carried ns).rcr = s.rcr ∧ (State.forwardSymbol s link carried ns).log = s.log ∧
    (State.forwardSymbol s link carried ns).fresh = s.fresh := by
  and_intros <;> (unfold State.forwardSymbol; first | (with_reducible rfl) | (simp; done) | (repeat' (first | (simp; done) | split)))

end Sys2Proof.Machine
end

