-- ==== Sys2Proof/Laws/Debug.lean ====
section
/-! SUPPORT. What the operations of Machine/Debug.lean leave alone: for each, every part of the state that it keeps. -/

namespace Sys2Proof.Machine

@[simp ↓] theorem State.haltPartner_keeps (s : State) :
    (State.haltPartner s).clk = s.clk ∧ (State.haltPartner s).pwr = s.pwr ∧ (State.haltPartner s).sup = s.sup ∧
    (State.haltPartner s).lot = s.lot ∧ (State.haltPartner s).nmt = s.nmt ∧ (State.haltPartner s).sle = s.sle ∧
    (State.haltPartner s).sin = s.sin ∧ (State.haltPartner s).sout = s.sout ∧ (State.haltPartner s).tmu = s.tmu ∧
    (State.haltPartner s).aaq = s.aaq ∧ (State.haltPartner s).hpo.reply = s.hpo.reply ∧
    (State.haltPartner s).hpo.partner = s.hpo.partner ∧ (State.haltPartner s).trk = s.trk ∧ (State.haltPartner s).otp = s.otp ∧
    (State.haltPartner s).bist = s.bist ∧ (State.haltPartner s).cvus = s.cvus ∧ (State.haltPartner s).cpl.role = s.cpl.role ∧
    (State.haltPartner s).rcr = s.rcr ∧ (State.haltPartner s).fresh = s.fresh ∧ (State.haltPartner s).pending = s.pending := by
  and_intros <;> (unfold State.haltPartner; simp)

end Sys2Proof.Machine
end

