-- ==== Sys2Proof/Laws/Swatch.lean ====
section
/-! SUPPORT. What the operations of Machine/Swatch.lean leave alone: for each, every part of the state that it keeps. -/

namespace Sys2Proof.Machine

@[simp ↓] theorem State.swatchSet_keeps (s : State) (id origin t state : Nat) (late : Bool) :
    (State.swatchSet s id origin t state late).clk = s.clk ∧ (State.swatchSet s id origin t state late).pwr = s.pwr ∧
    (State.swatchSet s id origin t state late).sup = s.sup ∧ (State.swatchSet s id origin t state late).lot = s.lot ∧
    (State.swatchSet s id origin t state late).nmt = s.nmt ∧ (State.swatchSet s id origin t state late).sle = s.sle ∧
    (State.swatchSet s id origin t state late).sin = s.sin ∧ (State.swatchSet s id origin t state late).sout = s.sout ∧
    (State.swatchSet s id origin t state late).aaq = s.aaq ∧ (State.swatchSet s id origin t state late).hpo = s.hpo ∧
    (State.swatchSet s id origin t state late).trk = s.trk ∧ (State.swatchSet s id origin t state late).otp = s.otp ∧
    (State.swatchSet s id origin t state late).bist = s.bist ∧ (State.swatchSet s id origin t state late).cvus = s.cvus ∧
    (State.swatchSet s id origin t state late).cpl = s.cpl ∧ (State.swatchSet s id origin t state late).rcr = s.rcr ∧
    (State.swatchSet s id origin t state late).log = s.log ∧ (State.swatchSet s id origin t state late).fresh = s.fresh ∧
    (State.swatchSet s id origin t state late).pending = s.pending := by
  and_intros <;> (unfold State.swatchSet; with_reducible rfl)

@[simp ↓] theorem State.swatchTell_keeps (s : State) (id t : Nat) :
    (State.swatchTell s id t).clk = s.clk ∧ (State.swatchTell s id t).pwr = s.pwr ∧ (State.swatchTell s id t).sup = s.sup ∧
    (State.swatchTell s id t).lot = s.lot ∧ (State.swatchTell s id t).nmt = s.nmt ∧ (State.swatchTell s id t).sle = s.sle ∧
    (State.swatchTell s id t).sin = s.sin ∧ (State.swatchTell s id t).sout = s.sout ∧ (State.swatchTell s id t).tmu = s.tmu ∧
    (State.swatchTell s id t).aaq = s.aaq ∧ (State.swatchTell s id t).hpo = s.hpo ∧ (State.swatchTell s id t).trk = s.trk ∧
    (State.swatchTell s id t).otp = s.otp ∧ (State.swatchTell s id t).bist = s.bist ∧ (State.swatchTell s id t).cvus = s.cvus ∧
    (State.swatchTell s id t).cpl.role = s.cpl.role ∧ (State.swatchTell s id t).rcr = s.rcr ∧ (State.swatchTell s id t).log = s.log ∧
    (State.swatchTell s id t).fresh = s.fresh ∧ (State.swatchTell s id t).pending = s.pending := by
  and_intros <;> (unfold State.swatchTell; simp)

@[simp ↓] theorem State.swatchAsk_keeps (s : State) (t : Nat) :
    (State.swatchAsk s t).clk = s.clk ∧ (State.swatchAsk s t).sup = s.sup ∧ (State.swatchAsk s t).lot = s.lot ∧
    (State.swatchAsk s t).nmt = s.nmt ∧ (State.swatchAsk s t).sle = s.sle ∧ (State.swatchAsk s t).sin = s.sin ∧
    (State.swatchAsk s t).sout = s.sout ∧ (State.swatchAsk s t).aaq = s.aaq ∧ (State.swatchAsk s t).hpo.partner = s.hpo.partner ∧
    (State.swatchAsk s t).trk = s.trk ∧ (State.swatchAsk s t).otp = s.otp ∧ (State.swatchAsk s t).bist = s.bist ∧
    (State.swatchAsk s t).cvus = s.cvus ∧ (State.swatchAsk s t).cpl.role = s.cpl.role ∧ (State.swatchAsk s t).log = s.log ∧
    (State.swatchAsk s t).pending = s.pending := by
  and_intros <;> (unfold State.swatchAsk; simp)

@[simp ↓] theorem State.holdRecords_keeps (s : State) (records : List (Nat × List Byte)) :
    (State.holdRecords s records).clk = s.clk ∧ (State.holdRecords s records).pwr = s.pwr ∧ (State.holdRecords s records).sup = s.sup ∧
    (State.holdRecords s records).lot = s.lot ∧ (State.holdRecords s records).nmt = s.nmt ∧ (State.holdRecords s records).sle = s.sle ∧
    (State.holdRecords s records).sin = s.sin ∧ (State.holdRecords s records).sout = s.sout ∧ (State.holdRecords s records).aaq = s.aaq ∧
    (State.holdRecords s records).hpo = s.hpo ∧ (State.holdRecords s records).trk = s.trk ∧ (State.holdRecords s records).otp = s.otp ∧
    (State.holdRecords s records).bist = s.bist ∧ (State.holdRecords s records).cvus = s.cvus ∧
    (State.holdRecords s records).cpl = s.cpl ∧ (State.holdRecords s records).rcr = s.rcr ∧ (State.holdRecords s records).log = s.log ∧
    (State.holdRecords s records).fresh = s.fresh ∧ (State.holdRecords s records).pending = s.pending := by
  and_intros <;> (unfold State.holdRecords; simp)

@[simp ↓] theorem State.partnerSwatch_keeps (s : State) (relay : Bool) (id tLow : Nat) :
    (State.partnerSwatch s relay id tLow).clk = s.clk ∧ (State.partnerSwatch s relay id tLow).sup = s.sup ∧
    (State.partnerSwatch s relay id tLow).lot = s.lot ∧ (State.partnerSwatch s relay id tLow).nmt = s.nmt ∧
    (State.partnerSwatch s relay id tLow).sle = s.sle ∧ (State.partnerSwatch s relay id tLow).sin = s.sin ∧
    (State.partnerSwatch s relay id tLow).sout = s.sout ∧ (State.partnerSwatch s relay id tLow).aaq = s.aaq ∧
    (State.partnerSwatch s relay id tLow).hpo = s.hpo ∧ (State.partnerSwatch s relay id tLow).trk = s.trk ∧
    (State.partnerSwatch s relay id tLow).otp = s.otp ∧ (State.partnerSwatch s relay id tLow).bist = s.bist ∧
    (State.partnerSwatch s relay id tLow).cvus = s.cvus ∧ (State.partnerSwatch s relay id tLow).cpl.role = s.cpl.role ∧
    (State.partnerSwatch s relay id tLow).log = s.log ∧ (State.partnerSwatch s relay id tLow).pending = s.pending := by
  and_intros <;> (unfold State.partnerSwatch; (try dsimp only); first | (with_reducible rfl) | (simp; done) | (repeat' (first | (simp; done) | split)))

end Sys2Proof.Machine
end

