-- ==== Sys2Proof/Laws/Recorder.lean ====
section
/-! SUPPORT. What the operations of Machine/Recorder.lean leave alone: for each, every part of the state that it keeps. -/

namespace Sys2Proof.Machine

@[simp ↓] theorem State.exportAsk_keeps (s : State) (e : Nat) :
    (State.exportAsk s e).clk = s.clk ∧ (State.exportAsk s e).pwr = s.pwr ∧ (State.exportAsk s e).sup = s.sup ∧
    (State.exportAsk s e).lot = s.lot ∧ (State.exportAsk s e).nmt = s.nmt ∧ (State.exportAsk s e).sle = s.sle ∧
    (State.exportAsk s e).sin = s.sin ∧ (State.exportAsk s e).sout = s.sout ∧ (State.exportAsk s e).tmu = s.tmu ∧
    (State.exportAsk s e).aaq = s.aaq ∧ (State.exportAsk s e).hpo.partner = s.hpo.partner ∧ (State.exportAsk s e).trk = s.trk ∧
    (State.exportAsk s e).otp = s.otp ∧ (State.exportAsk s e).bist = s.bist ∧ (State.exportAsk s e).cvus = s.cvus ∧
    (State.exportAsk s e).cpl = s.cpl ∧ (State.exportAsk s e).rcr.written = s.rcr.written ∧ (State.exportAsk s e).log = s.log ∧
    (State.exportAsk s e).fresh = s.fresh ∧ (State.exportAsk s e).pending = s.pending := by
  and_intros <;> (unfold State.exportAsk; simp)

@[simp ↓] theorem State.entryAsk_keeps (s : State) (seq : Nat) :
    (State.entryAsk s seq).clk = s.clk ∧ (State.entryAsk s seq).pwr = s.pwr ∧ (State.entryAsk s seq).sup = s.sup ∧
    (State.entryAsk s seq).lot = s.lot ∧ (State.entryAsk s seq).nmt = s.nmt ∧ (State.entryAsk s seq).sle = s.sle ∧
    (State.entryAsk s seq).sin = s.sin ∧ (State.entryAsk s seq).sout = s.sout ∧ (State.entryAsk s seq).tmu = s.tmu ∧
    (State.entryAsk s seq).aaq = s.aaq ∧ (State.entryAsk s seq).hpo.partner = s.hpo.partner ∧ (State.entryAsk s seq).trk = s.trk ∧
    (State.entryAsk s seq).otp = s.otp ∧ (State.entryAsk s seq).bist = s.bist ∧ (State.entryAsk s seq).cvus = s.cvus ∧
    (State.entryAsk s seq).cpl = s.cpl ∧ (State.entryAsk s seq).rcr = s.rcr ∧ (State.entryAsk s seq).fresh = s.fresh ∧
    (State.entryAsk s seq).pending = s.pending := by
  and_intros <;> (unfold State.entryAsk; simp)

end Sys2Proof.Machine
end

