-- ==== Sys2Proof/Laws/BootOps.lean ====
section
/-! SUPPORT. What the operations of Machine/BootOps.lean leave alone: for each, every part of the state that it keeps. -/

namespace Sys2Proof.Machine

@[simp ↓] theorem State.dropTags_keeps (s : State) :
    (State.dropTags s).clk = s.clk ∧ (State.dropTags s).pwr = s.pwr ∧ (State.dropTags s).sup.mode = s.sup.mode ∧
    (State.dropTags s).sup.driveRemoved = s.sup.driveRemoved ∧ (State.dropTags s).sup.bootCount = s.sup.bootCount ∧
    (State.dropTags s).sup.causes = s.sup.causes ∧ (State.dropTags s).sup.firstCause = s.sup.firstCause ∧
    (State.dropTags s).lot = s.lot ∧ (State.dropTags s).nmt = s.nmt ∧ (State.dropTags s).sle = s.sle ∧ (State.dropTags s).sin = s.sin ∧
    (State.dropTags s).sout = s.sout ∧ (State.dropTags s).tmu = s.tmu ∧ (State.dropTags s).aaq = s.aaq ∧ (State.dropTags s).hpo = s.hpo ∧
    (State.dropTags s).trk = s.trk ∧ (State.dropTags s).otp.words = s.otp.words ∧ (State.dropTags s).otp.wlock = s.otp.wlock ∧
    (State.dropTags s).otp.rlock = s.otp.rlock ∧ (State.dropTags s).otp.job = s.otp.job ∧ (State.dropTags s).cvus = s.cvus ∧
    (State.dropTags s).cpl.role = s.cpl.role ∧ (State.dropTags s).rcr = s.rcr ∧ (State.dropTags s).log = s.log ∧
    (State.dropTags s).fresh = s.fresh ∧ (State.dropTags s).pending = s.pending := by
  and_intros <;> (unfold State.dropTags; with_reducible rfl)

@[simp ↓] theorem State.partnerRelease_keeps (s : State) :
    (State.partnerRelease s).clk = s.clk ∧ (State.partnerRelease s).pwr = s.pwr ∧ (State.partnerRelease s).sup.mode = s.sup.mode ∧
    (State.partnerRelease s).sup.driveRemoved = s.sup.driveRemoved ∧ (State.partnerRelease s).sup.bootCount = s.sup.bootCount ∧
    (State.partnerRelease s).sup.causes = s.sup.causes ∧ (State.partnerRelease s).sup.firstCause = s.sup.firstCause ∧
    (State.partnerRelease s).lot = s.lot ∧ (State.partnerRelease s).nmt = s.nmt ∧ (State.partnerRelease s).sle = s.sle ∧
    (State.partnerRelease s).sin = s.sin ∧ (State.partnerRelease s).sout = s.sout ∧ (State.partnerRelease s).tmu = s.tmu ∧
    (State.partnerRelease s).aaq = s.aaq ∧ (State.partnerRelease s).hpo.reply = s.hpo.reply ∧ (State.partnerRelease s).trk = s.trk ∧
    (State.partnerRelease s).otp.words = s.otp.words ∧ (State.partnerRelease s).otp.wlock = s.otp.wlock ∧
    (State.partnerRelease s).otp.rlock = s.otp.rlock ∧ (State.partnerRelease s).otp.job = s.otp.job ∧
    (State.partnerRelease s).cvus = s.cvus ∧ (State.partnerRelease s).cpl.role = s.cpl.role ∧ (State.partnerRelease s).rcr = s.rcr ∧
    (State.partnerRelease s).log = s.log ∧ (State.partnerRelease s).fresh = s.fresh ∧ (State.partnerRelease s).pending = s.pending := by
  and_intros <;> (unfold State.partnerRelease; simp)

@[simp ↓] theorem State.domDown_keeps (s : State) (d : Nat) (st : DomState) :
    (State.domDown s d st).clk.now = s.clk.now ∧ (State.domDown s d st).clk.real = s.clk.real ∧
    (State.domDown s d st).sup.mode = s.sup.mode ∧ (State.domDown s d st).sup.driveRemoved = s.sup.driveRemoved ∧
    (State.domDown s d st).sup.bootCount = s.sup.bootCount ∧ (State.domDown s d st).sup.causes = s.sup.causes ∧
    (State.domDown s d st).sup.firstCause = s.sup.firstCause ∧ (State.domDown s d st).lot = s.lot ∧
    (State.domDown s d st).sle.epoch = s.sle.epoch ∧ (State.domDown s d st).sle.lfsr = s.sle.lfsr ∧
    (State.domDown s d st).sout.w8 = s.sout.w8 ∧ (State.domDown s d st).tmu = s.tmu ∧ (State.domDown s d st).aaq = s.aaq ∧
    (State.domDown s d st).hpo.reply = s.hpo.reply ∧ (State.domDown s d st).otp.words = s.otp.words ∧
    (State.domDown s d st).otp.wlock = s.otp.wlock ∧ (State.domDown s d st).otp.rlock = s.otp.rlock ∧
    (State.domDown s d st).otp.job = s.otp.job ∧ (State.domDown s d st).cvus = s.cvus ∧ (State.domDown s d st).cpl.role = s.cpl.role ∧
    (State.domDown s d st).rcr.written = s.rcr.written ∧ (State.domDown s d st).fresh = s.fresh ∧
    (State.domDown s d st).pending = s.pending := by
  and_intros <;> (unfold State.domDown; first | (with_reducible rfl) | (simp; done) | (repeat' (first | (simp; done) | split)))

@[simp ↓] theorem State.domsDown_keeps (s : State) (ds : List Nat) (st : DomState) :
    (State.domsDown s ds st).clk.now = s.clk.now ∧ (State.domsDown s ds st).clk.real = s.clk.real ∧
    (State.domsDown s ds st).sup.mode = s.sup.mode ∧ (State.domsDown s ds st).sup.driveRemoved = s.sup.driveRemoved ∧
    (State.domsDown s ds st).sup.bootCount = s.sup.bootCount ∧ (State.domsDown s ds st).sup.causes = s.sup.causes ∧
    (State.domsDown s ds st).sup.firstCause = s.sup.firstCause ∧ (State.domsDown s ds st).lot = s.lot ∧
    (State.domsDown s ds st).sle.epoch = s.sle.epoch ∧ (State.domsDown s ds st).sle.lfsr = s.sle.lfsr ∧
    (State.domsDown s ds st).sout.w8 = s.sout.w8 ∧ (State.domsDown s ds st).tmu = s.tmu ∧ (State.domsDown s ds st).aaq = s.aaq ∧
    (State.domsDown s ds st).hpo.reply = s.hpo.reply ∧ (State.domsDown s ds st).otp.words = s.otp.words ∧
    (State.domsDown s ds st).otp.wlock = s.otp.wlock ∧ (State.domsDown s ds st).otp.rlock = s.otp.rlock ∧
    (State.domsDown s ds st).otp.job = s.otp.job ∧ (State.domsDown s ds st).cvus = s.cvus ∧
    (State.domsDown s ds st).cpl.role = s.cpl.role ∧ (State.domsDown s ds st).rcr.written = s.rcr.written ∧
    (State.domsDown s ds st).fresh = s.fresh ∧ (State.domsDown s ds st).pending = s.pending := by
  and_intros <;> (unfold State.domsDown; simp)

@[simp ↓] theorem State.flushStaging_keeps (s : State) :
    (State.flushStaging s).clk = s.clk ∧ (State.flushStaging s).pwr = s.pwr ∧ (State.flushStaging s).sup = s.sup ∧
    (State.flushStaging s).lot = s.lot ∧ (State.flushStaging s).nmt = s.nmt ∧ (State.flushStaging s).sle = s.sle ∧
    (State.flushStaging s).sin = s.sin ∧ (State.flushStaging s).sout = s.sout ∧ (State.flushStaging s).tmu = s.tmu ∧
    (State.flushStaging s).aaq = s.aaq ∧ (State.flushStaging s).hpo = s.hpo ∧ (State.flushStaging s).trk = s.trk ∧
    (State.flushStaging s).otp = s.otp ∧ (State.flushStaging s).bist = s.bist ∧ (State.flushStaging s).cvus = s.cvus ∧
    (State.flushStaging s).cpl = s.cpl ∧ (State.flushStaging s).log = s.log ∧ (State.flushStaging s).fresh = s.fresh ∧
    (State.flushStaging s).pending = s.pending := by
  and_intros <;> (unfold State.flushStaging; simp)

@[simp ↓] theorem State.usSwitch_keeps (s : State) (on : Bool) :
    (State.usSwitch s on).clk = s.clk ∧ (State.usSwitch s on).pwr.doms = s.pwr.doms ∧ (State.usSwitch s on).sup = s.sup ∧
    (State.usSwitch s on).lot = s.lot ∧ (State.usSwitch s on).nmt = s.nmt ∧ (State.usSwitch s on).sle = s.sle ∧
    (State.usSwitch s on).sin = s.sin ∧ (State.usSwitch s on).sout = s.sout ∧ (State.usSwitch s on).tmu = s.tmu ∧
    (State.usSwitch s on).aaq = s.aaq ∧ (State.usSwitch s on).hpo = s.hpo ∧ (State.usSwitch s on).trk = s.trk ∧
    (State.usSwitch s on).otp = s.otp ∧ (State.usSwitch s on).bist = s.bist ∧ (State.usSwitch s on).cvus = s.cvus ∧
    (State.usSwitch s on).cpl = s.cpl ∧ (State.usSwitch s on).rcr = s.rcr ∧ (State.usSwitch s on).log = s.log ∧
    (State.usSwitch s on).fresh = s.fresh ∧ (State.usSwitch s on).pending = s.pending := by
  and_intros <;> (unfold State.usSwitch; simp)

@[simp ↓] theorem State.enterValidating_keeps (s : State) (stored : Bool) :
    (State.enterValidating s stored).clk = s.clk ∧ (State.enterValidating s stored).pwr.doms = s.pwr.doms ∧
    (State.enterValidating s stored).sup.driveRemoved = s.sup.driveRemoved ∧
    (State.enterValidating s stored).sup.bootCount = s.sup.bootCount ∧ (State.enterValidating s stored).sup.causes = s.sup.causes ∧
    (State.enterValidating s stored).sup.firstCause = s.sup.firstCause ∧ (State.enterValidating s stored).lot.active = s.lot.active ∧
    (State.enterValidating s stored).lot.stored = s.lot.stored ∧ (State.enterValidating s stored).nmt = s.nmt ∧
    (State.enterValidating s stored).sle = s.sle ∧ (State.enterValidating s stored).sin = s.sin ∧
    (State.enterValidating s stored).sout = s.sout ∧ (State.enterValidating s stored).tmu = s.tmu ∧
    (State.enterValidating s stored).aaq = s.aaq ∧ (State.enterValidating s stored).hpo = s.hpo ∧
    (State.enterValidating s stored).otp = s.otp ∧ (State.enterValidating s stored).bist = s.bist ∧
    (State.enterValidating s stored).cvus = s.cvus ∧ (State.enterValidating s stored).cpl = s.cpl ∧
    (State.enterValidating s stored).log = s.log ∧ (State.enterValidating s stored).fresh = s.fresh ∧
    (State.enterValidating s stored).pending = s.pending := by
  and_intros <;> (unfold State.enterValidating; simp)

@[simp ↓] theorem State.bootDone_keeps (s : State) :
    (State.bootDone s).clk = s.clk ∧ (State.bootDone s).pwr.doms = s.pwr.doms ∧
    (State.bootDone s).sup.driveRemoved = s.sup.driveRemoved ∧ (State.bootDone s).sup.bootCount = s.sup.bootCount ∧
    (State.bootDone s).sup.causes = s.sup.causes ∧ (State.bootDone s).sup.firstCause = s.sup.firstCause ∧
    (State.bootDone s).lot.active = s.lot.active ∧ (State.bootDone s).lot.stored = s.lot.stored ∧ (State.bootDone s).nmt = s.nmt ∧
    (State.bootDone s).sle = s.sle ∧ (State.bootDone s).sin = s.sin ∧ (State.bootDone s).sout = s.sout ∧ (State.bootDone s).tmu = s.tmu ∧
    (State.bootDone s).aaq = s.aaq ∧ (State.bootDone s).hpo = s.hpo ∧ (State.bootDone s).otp = s.otp ∧ (State.bootDone s).bist = s.bist ∧
    (State.bootDone s).cvus = s.cvus ∧ (State.bootDone s).cpl = s.cpl ∧ (State.bootDone s).log = s.log ∧
    (State.bootDone s).fresh = s.fresh ∧ (State.bootDone s).pending = s.pending := by
  and_intros <;> (unfold State.bootDone; simp)

@[simp ↓] theorem State.park_keeps (s : State) :
    (State.park s).clk.now = s.clk.now ∧ (State.park s).clk.real = s.clk.real ∧ (State.park s).sup.bootCount = s.sup.bootCount ∧
    (State.park s).sup.causes = s.sup.causes ∧ (State.park s).sup.firstCause = s.sup.firstCause ∧ (State.park s).lot = s.lot ∧
    (State.park s).sle.lfsr = s.sle.lfsr ∧ (State.park s).sout.w8 = s.sout.w8 ∧ (State.park s).aaq = s.aaq ∧
    (State.park s).hpo.reply = s.hpo.reply ∧ (State.park s).otp.words = s.otp.words ∧ (State.park s).otp.wlock = s.otp.wlock ∧
    (State.park s).otp.rlock = s.otp.rlock ∧ (State.park s).otp.job = s.otp.job ∧ (State.park s).cvus = s.cvus ∧
    (State.park s).cpl.role = s.cpl.role ∧ (State.park s).pending = s.pending := by
  and_intros <;> (unfold State.park; simp)

@[simp ↓] theorem State.restart_keeps (s : State) (m : Nat) :
    (State.restart s m).clk.real = s.clk.real ∧ (State.restart s m).pwr = s.pwr ∧ (State.restart s m).sup = s.sup ∧
    (State.restart s m).lot = s.lot ∧ (State.restart s m).nmt = s.nmt ∧ (State.restart s m).sle = s.sle ∧
    (State.restart s m).sin = s.sin ∧ (State.restart s m).sout = s.sout ∧ (State.restart s m).tmu = s.tmu ∧
    (State.restart s m).aaq = s.aaq ∧ (State.restart s m).hpo = s.hpo ∧ (State.restart s m).trk = s.trk ∧
    (State.restart s m).otp = s.otp ∧ (State.restart s m).bist = s.bist ∧ (State.restart s m).cvus = s.cvus ∧
    (State.restart s m).cpl = s.cpl ∧ (State.restart s m).rcr = s.rcr ∧ (State.restart s m).log = s.log ∧
    (State.restart s m).fresh = s.fresh ∧ (State.restart s m).pending = s.pending := by
  and_intros <;> (unfold State.restart; with_reducible rfl)

@[simp ↓] theorem State.makeUp_keeps (s : State) (slowTicks : Nat) :
    (State.makeUp s slowTicks).clk.real = s.clk.real ∧ (State.makeUp s slowTicks).pwr = s.pwr ∧ (State.makeUp s slowTicks).sup = s.sup ∧
    (State.makeUp s slowTicks).lot = s.lot ∧ (State.makeUp s slowTicks).nmt = s.nmt ∧ (State.makeUp s slowTicks).sle = s.sle ∧
    (State.makeUp s slowTicks).sin = s.sin ∧ (State.makeUp s slowTicks).sout = s.sout ∧
    (State.makeUp s slowTicks).tmu.swatch = s.tmu.swatch ∧ (State.makeUp s slowTicks).aaq = s.aaq ∧
    (State.makeUp s slowTicks).hpo = s.hpo ∧ (State.makeUp s slowTicks).trk = s.trk ∧ (State.makeUp s slowTicks).otp = s.otp ∧
    (State.makeUp s slowTicks).bist = s.bist ∧ (State.makeUp s slowTicks).cvus = s.cvus ∧ (State.makeUp s slowTicks).cpl = s.cpl ∧
    (State.makeUp s slowTicks).log = s.log ∧ (State.makeUp s slowTicks).fresh = s.fresh ∧ (State.makeUp s slowTicks).pending = s.pending := by
  and_intros <;> (unfold State.makeUp; simp)

@[simp ↓] theorem State.parkedUp_keeps (s : State) (but : Option Nat) :
    (State.parkedUp s but).clk.now = s.clk.now ∧ (State.parkedUp s but).clk.real = s.clk.real ∧
    (State.parkedUp s but).sup.mode = s.sup.mode ∧ (State.parkedUp s but).sup.driveRemoved = s.sup.driveRemoved ∧
    (State.parkedUp s but).sup.bootCount = s.sup.bootCount ∧ (State.parkedUp s but).sup.causes = s.sup.causes ∧
    (State.parkedUp s but).sup.firstCause = s.sup.firstCause ∧ (State.parkedUp s but).lot = s.lot ∧
    (State.parkedUp s but).sle.epoch = s.sle.epoch ∧ (State.parkedUp s but).sle.lfsr = s.sle.lfsr ∧
    (State.parkedUp s but).sout.w8 = s.sout.w8 ∧ (State.parkedUp s but).tmu = s.tmu ∧ (State.parkedUp s but).aaq = s.aaq ∧
    (State.parkedUp s but).hpo.reply = s.hpo.reply ∧ (State.parkedUp s but).otp.words = s.otp.words ∧
    (State.parkedUp s but).otp.wlock = s.otp.wlock ∧ (State.parkedUp s but).otp.rlock = s.otp.rlock ∧
    (State.parkedUp s but).otp.job = s.otp.job ∧ (State.parkedUp s but).cvus = s.cvus ∧ (State.parkedUp s but).cpl.role = s.cpl.role ∧
    (State.parkedUp s but).rcr.written = s.rcr.written ∧ (State.parkedUp s but).fresh = s.fresh ∧
    (State.parkedUp s but).pending = s.pending := by
  and_intros <;> (unfold State.parkedUp; first | (with_reducible rfl) | (simp; done) | (repeat' (first | (simp; done) | split)))

@[simp ↓] theorem State.reloadChecks_keeps (s : State) :
    (State.reloadChecks s).clk = s.clk ∧ (State.reloadChecks s).pwr = s.pwr ∧ (State.reloadChecks s).sup = s.sup ∧
    (State.reloadChecks s).lot = s.lot ∧ (State.reloadChecks s).nmt = s.nmt ∧ (State.reloadChecks s).sle = s.sle ∧
    (State.reloadChecks s).sin = s.sin ∧ (State.reloadChecks s).sout = s.sout ∧ (State.reloadChecks s).tmu = s.tmu ∧
    (State.reloadChecks s).aaq = s.aaq ∧ (State.reloadChecks s).hpo = s.hpo ∧ (State.reloadChecks s).trk = s.trk ∧
    (State.reloadChecks s).otp = s.otp ∧ (State.reloadChecks s).bist = s.bist ∧ (State.reloadChecks s).cpl = s.cpl ∧
    (State.reloadChecks s).rcr = s.rcr ∧ (State.reloadChecks s).log = s.log ∧ (State.reloadChecks s).fresh = s.fresh ∧
    (State.reloadChecks s).pending = s.pending := by
  and_intros <;> (unfold State.reloadChecks; first | (with_reducible rfl) | (simp; done) | (repeat' (first | (simp; done) | split)))

@[simp ↓] theorem State.parkedRail_keeps (s : State) (d : Nat) :
    (State.parkedRail s d).clk = s.clk ∧ (State.parkedRail s d).sup = s.sup ∧ (State.parkedRail s d).lot = s.lot ∧
    (State.parkedRail s d).nmt = s.nmt ∧ (State.parkedRail s d).sle = s.sle ∧ (State.parkedRail s d).sin = s.sin ∧
    (State.parkedRail s d).sout = s.sout ∧ (State.parkedRail s d).tmu = s.tmu ∧ (State.parkedRail s d).aaq = s.aaq ∧
    (State.parkedRail s d).hpo.reply = s.hpo.reply ∧ (State.parkedRail s d).hpo.partner = s.hpo.partner ∧
    (State.parkedRail s d).trk = s.trk ∧ (State.parkedRail s d).otp = s.otp ∧ (State.parkedRail s d).bist = s.bist ∧
    (State.parkedRail s d).cvus = s.cvus ∧ (State.parkedRail s d).cpl = s.cpl ∧ (State.parkedRail s d).rcr = s.rcr ∧
    (State.parkedRail s d).fresh = s.fresh ∧ (State.parkedRail s d).pending = s.pending := by
  and_intros <;> (unfold State.parkedRail; simp)

@[simp ↓] theorem State.unparked_keeps (s : State) (but : Option Nat) (slowTicks : Nat) :
    (State.unparked s but slowTicks).clk.real = s.clk.real ∧ (State.unparked s but slowTicks).sup.mode = s.sup.mode ∧
    (State.unparked s but slowTicks).sup.driveRemoved = s.sup.driveRemoved ∧
    (State.unparked s but slowTicks).sup.bootCount = s.sup.bootCount ∧ (State.unparked s but slowTicks).sup.causes = s.sup.causes ∧
    (State.unparked s but slowTicks).sup.firstCause = s.sup.firstCause ∧ (State.unparked s but slowTicks).lot = s.lot ∧
    (State.unparked s but slowTicks).sle.epoch = s.sle.epoch ∧ (State.unparked s but slowTicks).sle.lfsr = s.sle.lfsr ∧
    (State.unparked s but slowTicks).sout.w8 = s.sout.w8 ∧ (State.unparked s but slowTicks).tmu.swatch = s.tmu.swatch ∧
    (State.unparked s but slowTicks).aaq = s.aaq ∧ (State.unparked s but slowTicks).hpo.reply = s.hpo.reply ∧
    (State.unparked s but slowTicks).otp.words = s.otp.words ∧ (State.unparked s but slowTicks).otp.wlock = s.otp.wlock ∧
    (State.unparked s but slowTicks).otp.rlock = s.otp.rlock ∧ (State.unparked s but slowTicks).otp.job = s.otp.job ∧
    (State.unparked s but slowTicks).cpl.role = s.cpl.role ∧ (State.unparked s but slowTicks).fresh = s.fresh ∧
    (State.unparked s but slowTicks).pending = s.pending := by
  and_intros <;> (unfold State.unparked; simp)

end Sys2Proof.Machine
end

