-- ==== Sys2Proof/Laws/Power.lean ====
section
/-! SUPPORT. What the operations of Machine/Power.lean leave alone: for each, every part of the state that it keeps. -/

namespace Sys2Proof.Machine

@[simp ↓] theorem State.takeWanted_keeps (s : State) :
    (State.takeWanted s).clk = s.clk ∧ (State.takeWanted s).pwr = s.pwr ∧ (State.takeWanted s).sup = s.sup ∧
    (State.takeWanted s).lot = s.lot ∧ (State.takeWanted s).sle = s.sle ∧ (State.takeWanted s).sin = s.sin ∧
    (State.takeWanted s).sout = s.sout ∧ (State.takeWanted s).tmu = s.tmu ∧ (State.takeWanted s).aaq = s.aaq ∧
    (State.takeWanted s).hpo.reply = s.hpo.reply ∧ (State.takeWanted s).hpo.partner = s.hpo.partner ∧ (State.takeWanted s).trk = s.trk ∧
    (State.takeWanted s).otp = s.otp ∧ (State.takeWanted s).cvus = s.cvus ∧ (State.takeWanted s).cpl = s.cpl ∧
    (State.takeWanted s).rcr = s.rcr ∧ (State.takeWanted s).fresh = s.fresh ∧ (State.takeWanted s).pending = s.pending := by
  and_intros <;> (unfold State.takeWanted; simp)

@[simp ↓] theorem State.startUpLoops_keeps (s : State) (inputs : BitVec 48) (speeds : BitVec 8) :
    (State.startUpLoops s inputs speeds).clk = s.clk ∧ (State.startUpLoops s inputs speeds).pwr = s.pwr ∧
    (State.startUpLoops s inputs speeds).sup = s.sup ∧ (State.startUpLoops s inputs speeds).lot = s.lot ∧
    (State.startUpLoops s inputs speeds).nmt = s.nmt ∧ (State.startUpLoops s inputs speeds).sle = s.sle ∧
    (State.startUpLoops s inputs speeds).sout = s.sout ∧ (State.startUpLoops s inputs speeds).tmu.swatch = s.tmu.swatch ∧
    (State.startUpLoops s inputs speeds).aaq = s.aaq ∧ (State.startUpLoops s inputs speeds).hpo = s.hpo ∧
    (State.startUpLoops s inputs speeds).trk = s.trk ∧ (State.startUpLoops s inputs speeds).otp = s.otp ∧
    (State.startUpLoops s inputs speeds).bist = s.bist ∧ (State.startUpLoops s inputs speeds).cvus = s.cvus ∧
    (State.startUpLoops s inputs speeds).cpl = s.cpl ∧ (State.startUpLoops s inputs speeds).rcr = s.rcr ∧
    (State.startUpLoops s inputs speeds).log = s.log ∧ (State.startUpLoops s inputs speeds).fresh = s.fresh ∧
    (State.startUpLoops s inputs speeds).pending = s.pending := by
  and_intros <;> (unfold State.startUpLoops; simp)

@[simp ↓] theorem State.turnOff_keeps (s : State) (order : Nat) :
    (State.turnOff s order).otp.words = s.otp.words ∧ (State.turnOff s order).otp.wlock = s.otp.wlock ∧
    (State.turnOff s order).otp.rlock = s.otp.rlock ∧ (State.turnOff s order).otp.job = s.otp.job ∧
    (State.turnOff s order).rcr.written = s.rcr.written := by
  and_intros <;> (unfold State.turnOff; simp)

@[simp ↓] theorem State.domRestart_keeps (s : State) (d : Nat) :
    (State.domRestart s d).clk = s.clk ∧ (State.domRestart s d).sup = s.sup ∧ (State.domRestart s d).lot = s.lot ∧
    (State.domRestart s d).nmt = s.nmt ∧ (State.domRestart s d).sle = s.sle ∧ (State.domRestart s d).sin = s.sin ∧
    (State.domRestart s d).sout = s.sout ∧ (State.domRestart s d).tmu = s.tmu ∧ (State.domRestart s d).aaq = s.aaq ∧
    (State.domRestart s d).hpo = s.hpo ∧ (State.domRestart s d).trk = s.trk ∧ (State.domRestart s d).otp = s.otp ∧
    (State.domRestart s d).bist = s.bist ∧ (State.domRestart s d).cvus = s.cvus ∧ (State.domRestart s d).cpl.role = s.cpl.role ∧
    (State.domRestart s d).rcr = s.rcr ∧ (State.domRestart s d).log = s.log ∧ (State.domRestart s d).fresh = s.fresh ∧
    (State.domRestart s d).pending = s.pending := by
  and_intros <;> (unfold State.domRestart; simp)

end Sys2Proof.Machine
end

