-- ==== Sys2Proof/Laws/States.lean ====
section
/-! SUPPORT. What the operations of Machine/States.lean leave alone: for each, every part of the state that it keeps. -/

namespace Sys2Proof.Machine

@[simp ↓] theorem State.carry_keeps (s : State) (c : PendCmd) :
    (State.carry s c).1.clk = s.clk ∧ (State.carry s c).1.pwr = s.pwr ∧ (State.carry s c).1.sup = s.sup ∧
    (State.carry s c).1.lot = s.lot ∧ (State.carry s c).1.nmt = s.nmt ∧ (State.carry s c).1.sle = s.sle ∧
    (State.carry s c).1.sin = s.sin ∧ (State.carry s c).1.sout = s.sout ∧ (State.carry s c).1.tmu = s.tmu ∧
    (State.carry s c).1.aaq = s.aaq ∧ (State.carry s c).1.hpo = s.hpo ∧ (State.carry s c).1.trk = s.trk ∧
    (State.carry s c).1.otp = s.otp ∧ (State.carry s c).1.bist = s.bist ∧ (State.carry s c).1.cvus = s.cvus ∧
    (State.carry s c).1.cpl.role = s.cpl.role ∧ (State.carry s c).1.rcr = s.rcr ∧ (State.carry s c).1.log = s.log ∧
    (State.carry s c).1.fresh = s.fresh ∧ (State.carry s c).1.pending = s.pending := by
  and_intros <;> (unfold State.carry; first | (with_reducible rfl) | (simp; done) | (repeat' (first | (simp; done) | split)))

@[simp ↓] theorem State.askValidate_keeps (s : State) (tag : Option Byte) :
    (State.askValidate s tag).clk = s.clk ∧ (State.askValidate s tag).pwr.doms = s.pwr.doms ∧
    (State.askValidate s tag).sup.driveRemoved = s.sup.driveRemoved ∧ (State.askValidate s tag).sup.bootCount = s.sup.bootCount ∧
    (State.askValidate s tag).sup.causes = s.sup.causes ∧ (State.askValidate s tag).sup.firstCause = s.sup.firstCause ∧
    (State.askValidate s tag).lot.active = s.lot.active ∧ (State.askValidate s tag).lot.stored = s.lot.stored ∧
    (State.askValidate s tag).nmt = s.nmt ∧ (State.askValidate s tag).sle = s.sle ∧ (State.askValidate s tag).sin = s.sin ∧
    (State.askValidate s tag).sout = s.sout ∧ (State.askValidate s tag).tmu = s.tmu ∧ (State.askValidate s tag).aaq = s.aaq ∧
    (State.askValidate s tag).hpo.partner = s.hpo.partner ∧ (State.askValidate s tag).otp = s.otp ∧
    (State.askValidate s tag).bist = s.bist ∧ (State.askValidate s tag).cvus = s.cvus ∧ (State.askValidate s tag).cpl = s.cpl ∧
    (State.askValidate s tag).log = s.log ∧ (State.askValidate s tag).fresh = s.fresh ∧ (State.askValidate s tag).pending = s.pending := by
  and_intros <;> (unfold State.askValidate; simp)

@[simp ↓] theorem State.askRestore_keeps (s : State) (tag : Option Byte) :
    (State.askRestore s tag).clk = s.clk ∧ (State.askRestore s tag).pwr.doms = s.pwr.doms ∧
    (State.askRestore s tag).sup.driveRemoved = s.sup.driveRemoved ∧ (State.askRestore s tag).sup.bootCount = s.sup.bootCount ∧
    (State.askRestore s tag).sup.causes = s.sup.causes ∧ (State.askRestore s tag).sup.firstCause = s.sup.firstCause ∧
    (State.askRestore s tag).lot.active = s.lot.active ∧ (State.askRestore s tag).lot.stored = s.lot.stored ∧
    (State.askRestore s tag).nmt = s.nmt ∧ (State.askRestore s tag).sle = s.sle ∧ (State.askRestore s tag).sin = s.sin ∧
    (State.askRestore s tag).sout = s.sout ∧ (State.askRestore s tag).tmu = s.tmu ∧ (State.askRestore s tag).aaq = s.aaq ∧
    (State.askRestore s tag).hpo.partner = s.hpo.partner ∧ (State.askRestore s tag).otp = s.otp ∧
    (State.askRestore s tag).bist = s.bist ∧ (State.askRestore s tag).cvus = s.cvus ∧ (State.askRestore s tag).cpl = s.cpl ∧
    (State.askRestore s tag).log = s.log ∧ (State.askRestore s tag).fresh = s.fresh ∧ (State.askRestore s tag).pending = s.pending := by
  and_intros <;> (unfold State.askRestore; simp)

@[simp ↓] theorem State.askDiscard_keeps (s : State) (tag : Option Byte) :
    (State.askDiscard s tag).clk = s.clk ∧ (State.askDiscard s tag).pwr.doms = s.pwr.doms ∧
    (State.askDiscard s tag).sup.driveRemoved = s.sup.driveRemoved ∧ (State.askDiscard s tag).sup.bootCount = s.sup.bootCount ∧
    (State.askDiscard s tag).sup.causes = s.sup.causes ∧ (State.askDiscard s tag).sup.firstCause = s.sup.firstCause ∧
    (State.askDiscard s tag).lot.active = s.lot.active ∧ (State.askDiscard s tag).lot.stored = s.lot.stored ∧
    (State.askDiscard s tag).nmt = s.nmt ∧ (State.askDiscard s tag).sle = s.sle ∧ (State.askDiscard s tag).sin = s.sin ∧
    (State.askDiscard s tag).sout = s.sout ∧ (State.askDiscard s tag).tmu = s.tmu ∧ (State.askDiscard s tag).aaq = s.aaq ∧
    (State.askDiscard s tag).hpo.partner = s.hpo.partner ∧ (State.askDiscard s tag).otp = s.otp ∧
    (State.askDiscard s tag).bist = s.bist ∧ (State.askDiscard s tag).cvus = s.cvus ∧ (State.askDiscard s tag).cpl = s.cpl ∧
    (State.askDiscard s tag).log = s.log ∧ (State.askDiscard s tag).fresh = s.fresh ∧ (State.askDiscard s tag).pending = s.pending := by
  and_intros <;> (unfold State.askDiscard; simp)

@[simp ↓] theorem State.askLeave_keeps (s : State) (tag : Option Byte) :
    (State.askLeave s tag).clk = s.clk ∧ (State.askLeave s tag).pwr.doms = s.pwr.doms ∧
    (State.askLeave s tag).sup.driveRemoved = s.sup.driveRemoved ∧ (State.askLeave s tag).sup.bootCount = s.sup.bootCount ∧
    (State.askLeave s tag).lot = s.lot ∧ (State.askLeave s tag).nmt = s.nmt ∧ (State.askLeave s tag).sle = s.sle ∧
    (State.askLeave s tag).sin = s.sin ∧ (State.askLeave s tag).sout = s.sout ∧ (State.askLeave s tag).tmu = s.tmu ∧
    (State.askLeave s tag).aaq = s.aaq ∧ (State.askLeave s tag).hpo.partner = s.hpo.partner ∧ (State.askLeave s tag).otp = s.otp ∧
    (State.askLeave s tag).bist = s.bist ∧ (State.askLeave s tag).cvus = s.cvus ∧ (State.askLeave s tag).cpl = s.cpl ∧
    (State.askLeave s tag).fresh = s.fresh ∧ (State.askLeave s tag).pending = s.pending := by
  and_intros <;> (unfold State.askLeave; simp)

end Sys2Proof.Machine
end

