-- ==== Sys2Proof/Laws/Accept.lean ====
section
/-! SUPPORT. What the operations of Machine/Accept.lean leave alone: for each, every part of the state that it keeps. -/

namespace Sys2Proof.Machine

@[simp ↓] theorem State.showRefusal_keeps (s : State) (code item : Nat) :
    (State.showRefusal s code item).clk = s.clk ∧ (State.showRefusal s code item).pwr = s.pwr ∧
    (State.showRefusal s code item).sup = s.sup ∧ (State.showRefusal s code item).lot.active = s.lot.active ∧
    (State.showRefusal s code item).lot.stored = s.lot.stored ∧ (State.showRefusal s code item).nmt = s.nmt ∧
    (State.showRefusal s code item).sle = s.sle ∧ (State.showRefusal s code item).sin = s.sin ∧
    (State.showRefusal s code item).sout = s.sout ∧ (State.showRefusal s code item).tmu = s.tmu ∧
    (State.showRefusal s code item).aaq = s.aaq ∧ (State.showRefusal s code item).hpo.reply = s.hpo.reply ∧
    (State.showRefusal s code item).hpo.partner = s.hpo.partner ∧ (State.showRefusal s code item).trk = s.trk ∧
    (State.showRefusal s code item).otp = s.otp ∧ (State.showRefusal s code item).bist = s.bist ∧
    (State.showRefusal s code item).cvus = s.cvus ∧ (State.showRefusal s code item).cpl = s.cpl ∧
    (State.showRefusal s code item).rcr = s.rcr ∧ (State.showRefusal s code item).fresh = s.fresh ∧
    (State.showRefusal s code item).pending = s.pending := by
  and_intros <;> (unfold State.showRefusal; simp)

@[simp ↓] theorem State.endAcceptance_keeps (s : State) (code item : Nat) :
    (State.endAcceptance s code item).clk.now = s.clk.now ∧ (State.endAcceptance s code item).clk.real = s.clk.real ∧
    (State.endAcceptance s code item).pwr.doms = s.pwr.doms ∧ (State.endAcceptance s code item).sup.bootCount = s.sup.bootCount ∧
    (State.endAcceptance s code item).sup.causes = s.sup.causes ∧ (State.endAcceptance s code item).sup.firstCause = s.sup.firstCause ∧
    (State.endAcceptance s code item).lot.stored = s.lot.stored ∧ (State.endAcceptance s code item).sle.lfsr = s.sle.lfsr ∧
    (State.endAcceptance s code item).hpo.reply = s.hpo.reply ∧ (State.endAcceptance s code item).hpo.partner = s.hpo.partner ∧
    (State.endAcceptance s code item).otp.words = s.otp.words ∧ (State.endAcceptance s code item).otp.wlock = s.otp.wlock ∧
    (State.endAcceptance s code item).otp.rlock = s.otp.rlock ∧ (State.endAcceptance s code item).otp.job = s.otp.job ∧
    (State.endAcceptance s code item).fresh = s.fresh ∧ (State.endAcceptance s code item).pending = s.pending := by
  and_intros <;> (unfold State.endAcceptance; simp)

@[simp ↓] theorem State.activate_keeps (s : State) (l : Lot) (m : Mode) :
    (State.activate s l m).clk.now = s.clk.now ∧ (State.activate s l m).clk.real = s.clk.real ∧
    (State.activate s l m).clk.running = s.clk.running ∧ (State.activate s l m).pwr.doms = s.pwr.doms ∧
    (State.activate s l m).sup.bootCount = s.sup.bootCount ∧ (State.activate s l m).sup.causes = s.sup.causes ∧
    (State.activate s l m).sup.firstCause = s.sup.firstCause ∧ (State.activate s l m).lot.stored = s.lot.stored ∧
    (State.activate s l m).sle.lfsr = s.sle.lfsr ∧ (State.activate s l m).hpo.reply = s.hpo.reply ∧
    (State.activate s l m).hpo.partner = s.hpo.partner ∧ (State.activate s l m).otp.words = s.otp.words ∧
    (State.activate s l m).otp.wlock = s.otp.wlock ∧ (State.activate s l m).otp.rlock = s.otp.rlock ∧
    (State.activate s l m).otp.job = s.otp.job ∧ (State.activate s l m).fresh = s.fresh ∧ (State.activate s l m).pending = s.pending := by
  and_intros <;> (unfold State.activate; simp)

@[simp ↓] theorem State.loaderChecks_keeps (s : State) (img : List Byte) (e : AcceptEnv) :
    (State.loaderChecks s img e).clk = s.clk ∧ (State.loaderChecks s img e).pwr = s.pwr ∧ (State.loaderChecks s img e).sup = s.sup ∧
    (State.loaderChecks s img e).lot = s.lot ∧ (State.loaderChecks s img e).nmt = s.nmt ∧ (State.loaderChecks s img e).sle = s.sle ∧
    (State.loaderChecks s img e).sin = s.sin ∧ (State.loaderChecks s img e).sout = s.sout ∧ (State.loaderChecks s img e).tmu = s.tmu ∧
    (State.loaderChecks s img e).aaq = s.aaq ∧ (State.loaderChecks s img e).hpo = s.hpo ∧ (State.loaderChecks s img e).trk = s.trk ∧
    (State.loaderChecks s img e).otp = s.otp ∧ (State.loaderChecks s img e).bist = s.bist ∧ (State.loaderChecks s img e).cpl = s.cpl ∧
    (State.loaderChecks s img e).rcr = s.rcr ∧ (State.loaderChecks s img e).log = s.log ∧ (State.loaderChecks s img e).fresh = s.fresh ∧
    (State.loaderChecks s img e).pending = s.pending := by
  and_intros <;> (unfold State.loaderChecks; first | (with_reducible rfl) | (simp; done) | (repeat' (first | (simp; done) | split)))

@[simp ↓] theorem State.confirm_keeps (s : State) (v : Nat) (tag : Option Byte) :
    (State.confirm s v tag).clk.now = s.clk.now ∧ (State.confirm s v tag).clk.real = s.clk.real ∧
    (State.confirm s v tag).pwr.doms = s.pwr.doms ∧ (State.confirm s v tag).sup.bootCount = s.sup.bootCount ∧
    (State.confirm s v tag).sup.causes = s.sup.causes ∧ (State.confirm s v tag).sup.firstCause = s.sup.firstCause ∧
    (State.confirm s v tag).sle.lfsr = s.sle.lfsr ∧ (State.confirm s v tag).hpo.partner = s.hpo.partner ∧
    (State.confirm s v tag).otp.words = s.otp.words ∧ (State.confirm s v tag).otp.wlock = s.otp.wlock ∧
    (State.confirm s v tag).otp.rlock = s.otp.rlock ∧ (State.confirm s v tag).otp.job = s.otp.job ∧
    (State.confirm s v tag).fresh = s.fresh ∧ (State.confirm s v tag).pending = s.pending := by
  and_intros <;> (unfold State.confirm; first | (with_reducible rfl) | (simp; done) | (repeat' (first | (simp; done) | split)))

end Sys2Proof.Machine
end

