-- ==== Sys2Proof/Laws/OdAccess.lean ====
section
/-! SUPPORT. What the operations of Machine/OdAccess.lean leave alone: for each, every part of the state that it keeps. -/

namespace Sys2Proof.Machine

@[simp ↓] theorem State.exported_keeps (s : State) :
    (State.exported s).clk = s.clk ∧ (State.exported s).pwr = s.pwr ∧ (State.exported s).sup = s.sup ∧ (State.exported s).lot = s.lot ∧
    (State.exported s).nmt = s.nmt ∧ (State.exported s).sle = s.sle ∧ (State.exported s).sin = s.sin ∧ (State.exported s).sout = s.sout ∧
    (State.exported s).tmu = s.tmu ∧ (State.exported s).aaq = s.aaq ∧ (State.exported s).hpo.reply = s.hpo.reply ∧
    (State.exported s).hpo.partner = s.hpo.partner ∧ (State.exported s).trk = s.trk ∧ (State.exported s).otp.words = s.otp.words ∧
    (State.exported s).otp.wlock = s.otp.wlock ∧ (State.exported s).otp.rlock = s.otp.rlock ∧ (State.exported s).otp.job = s.otp.job ∧
    (State.exported s).bist = s.bist ∧ (State.exported s).cvus = s.cvus ∧ (State.exported s).cpl = s.cpl ∧
    (State.exported s).rcr.written = s.rcr.written ∧ (State.exported s).log = s.log ∧ (State.exported s).fresh = s.fresh ∧
    (State.exported s).pending = s.pending := by
  and_intros <;> (unfold State.exported; simp)

@[simp ↓] theorem State.blockRead_keeps (s : State) (index sub off len : Nat) :
    (State.blockRead s index sub off len).clk = s.clk ∧ (State.blockRead s index sub off len).pwr = s.pwr ∧
    (State.blockRead s index sub off len).sup = s.sup ∧ (State.blockRead s index sub off len).lot = s.lot ∧
    (State.blockRead s index sub off len).nmt = s.nmt ∧ (State.blockRead s index sub off len).sle = s.sle ∧
    (State.blockRead s index sub off len).sin = s.sin ∧ (State.blockRead s index sub off len).sout = s.sout ∧
    (State.blockRead s index sub off len).tmu = s.tmu ∧ (State.blockRead s index sub off len).aaq = s.aaq ∧
    (State.blockRead s index sub off len).hpo.partner = s.hpo.partner ∧ (State.blockRead s index sub off len).trk = s.trk ∧
    (State.blockRead s index sub off len).otp = s.otp ∧ (State.blockRead s index sub off len).bist = s.bist ∧
    (State.blockRead s index sub off len).cvus = s.cvus ∧ (State.blockRead s index sub off len).cpl = s.cpl ∧
    (State.blockRead s index sub off len).rcr = s.rcr ∧ (State.blockRead s index sub off len).log = s.log ∧
    (State.blockRead s index sub off len).fresh = s.fresh ∧ (State.blockRead s index sub off len).pending = s.pending := by
  and_intros <;> (unfold State.blockRead; first | (with_reducible rfl) | (simp; done) | (repeat' (first | (simp; done) | split)))

@[simp ↓] theorem State.exportSent_keeps (s : State) (d : List Byte) :
    (State.exportSent s d).clk = s.clk ∧ (State.exportSent s d).pwr = s.pwr ∧ (State.exportSent s d).sup = s.sup ∧
    (State.exportSent s d).lot = s.lot ∧ (State.exportSent s d).nmt = s.nmt ∧ (State.exportSent s d).sle = s.sle ∧
    (State.exportSent s d).sin = s.sin ∧ (State.exportSent s d).sout = s.sout ∧ (State.exportSent s d).tmu = s.tmu ∧
    (State.exportSent s d).aaq = s.aaq ∧ (State.exportSent s d).hpo.reply = s.hpo.reply ∧
    (State.exportSent s d).hpo.partner = s.hpo.partner ∧ (State.exportSent s d).trk = s.trk ∧
    (State.exportSent s d).otp.words = s.otp.words ∧ (State.exportSent s d).otp.wlock = s.otp.wlock ∧
    (State.exportSent s d).otp.rlock = s.otp.rlock ∧ (State.exportSent s d).otp.job = s.otp.job ∧ (State.exportSent s d).bist = s.bist ∧
    (State.exportSent s d).cvus = s.cvus ∧ (State.exportSent s d).cpl = s.cpl ∧ (State.exportSent s d).rcr.written = s.rcr.written ∧
    (State.exportSent s d).log = s.log ∧ (State.exportSent s d).fresh = s.fresh ∧ (State.exportSent s d).pending = s.pending := by
  and_intros <;> (unfold State.exportSent; simp)

@[simp ↓] theorem State.blockWrite_keeps (s : State) (off : Nat) (data : List Byte) :
    (State.blockWrite s off data).clk = s.clk ∧ (State.blockWrite s off data).pwr = s.pwr ∧ (State.blockWrite s off data).sup = s.sup ∧
    (State.blockWrite s off data).lot.active = s.lot.active ∧ (State.blockWrite s off data).lot.stored = s.lot.stored ∧
    (State.blockWrite s off data).nmt = s.nmt ∧ (State.blockWrite s off data).sle = s.sle ∧ (State.blockWrite s off data).sin = s.sin ∧
    (State.blockWrite s off data).sout = s.sout ∧ (State.blockWrite s off data).tmu = s.tmu ∧ (State.blockWrite s off data).aaq = s.aaq ∧
    (State.blockWrite s off data).hpo.partner = s.hpo.partner ∧ (State.blockWrite s off data).trk = s.trk ∧
    (State.blockWrite s off data).otp = s.otp ∧ (State.blockWrite s off data).bist = s.bist ∧
    (State.blockWrite s off data).cvus = s.cvus ∧ (State.blockWrite s off data).cpl = s.cpl ∧ (State.blockWrite s off data).rcr = s.rcr ∧
    (State.blockWrite s off data).log = s.log ∧ (State.blockWrite s off data).fresh = s.fresh ∧
    (State.blockWrite s off data).pending = s.pending := by
  and_intros <;> (unfold State.blockWrite; simp)

@[simp ↓] theorem State.refuseAccess_keeps (s : State) (at_ c : Nat) :
    (State.refuseAccess s at_ c).clk = s.clk ∧ (State.refuseAccess s at_ c).pwr = s.pwr ∧ (State.refuseAccess s at_ c).sup = s.sup ∧
    (State.refuseAccess s at_ c).lot = s.lot ∧ (State.refuseAccess s at_ c).nmt = s.nmt ∧ (State.refuseAccess s at_ c).sle = s.sle ∧
    (State.refuseAccess s at_ c).sin = s.sin ∧ (State.refuseAccess s at_ c).sout = s.sout ∧ (State.refuseAccess s at_ c).tmu = s.tmu ∧
    (State.refuseAccess s at_ c).aaq = s.aaq ∧ (State.refuseAccess s at_ c).hpo.partner = s.hpo.partner ∧
    (State.refuseAccess s at_ c).trk = s.trk ∧ (State.refuseAccess s at_ c).otp = s.otp ∧ (State.refuseAccess s at_ c).cvus = s.cvus ∧
    (State.refuseAccess s at_ c).cpl = s.cpl ∧ (State.refuseAccess s at_ c).rcr = s.rcr ∧ (State.refuseAccess s at_ c).log = s.log ∧
    (State.refuseAccess s at_ c).fresh = s.fresh ∧ (State.refuseAccess s at_ c).pending = s.pending := by
  and_intros <;> (unfold State.refuseAccess; simp)

@[simp ↓] theorem State.odRead_keeps (s : State) (index sub : Nat) (r : OdRow) :
    (State.odRead s index sub r).clk = s.clk ∧ (State.odRead s index sub r).sup = s.sup ∧ (State.odRead s index sub r).lot = s.lot ∧
    (State.odRead s index sub r).nmt = s.nmt ∧ (State.odRead s index sub r).sle = s.sle ∧ (State.odRead s index sub r).sin = s.sin ∧
    (State.odRead s index sub r).sout = s.sout ∧ (State.odRead s index sub r).tmu.swatch = s.tmu.swatch ∧
    (State.odRead s index sub r).aaq = s.aaq ∧ (State.odRead s index sub r).hpo.partner = s.hpo.partner ∧
    (State.odRead s index sub r).trk = s.trk ∧ (State.odRead s index sub r).otp = s.otp ∧ (State.odRead s index sub r).bist = s.bist ∧
    (State.odRead s index sub r).cvus = s.cvus ∧ (State.odRead s index sub r).cpl = s.cpl ∧ (State.odRead s index sub r).log = s.log ∧
    (State.odRead s index sub r).pending = s.pending := by
  and_intros <;> (unfold State.odRead; first | (with_reducible rfl) | (simp; done) | (repeat' (first | (simp; done) | split)))

@[simp ↓] theorem State.wordBeat_keeps (s : State) (w o : Nat) :
    (State.wordBeat s w o).clk = s.clk ∧ (State.wordBeat s w o).pwr = s.pwr ∧ (State.wordBeat s w o).sup = s.sup ∧
    (State.wordBeat s w o).lot = s.lot ∧ (State.wordBeat s w o).nmt.comG = s.nmt.comG ∧ (State.wordBeat s w o).sle = s.sle ∧
    (State.wordBeat s w o).sin = s.sin ∧ (State.wordBeat s w o).sout = s.sout ∧ (State.wordBeat s w o).tmu = s.tmu ∧
    (State.wordBeat s w o).aaq = s.aaq ∧ (State.wordBeat s w o).hpo.partner = s.hpo.partner ∧ (State.wordBeat s w o).trk = s.trk ∧
    (State.wordBeat s w o).otp = s.otp ∧ (State.wordBeat s w o).bist = s.bist ∧ (State.wordBeat s w o).cvus = s.cvus ∧
    (State.wordBeat s w o).cpl = s.cpl ∧ (State.wordBeat s w o).rcr = s.rcr ∧ (State.wordBeat s w o).log = s.log ∧
    (State.wordBeat s w o).fresh = s.fresh ∧ (State.wordBeat s w o).pending = s.pending := by
  and_intros <;> (unfold State.wordBeat; first | (with_reducible rfl) | (simp; done) | (repeat' (first | (simp; done) | split)))

@[simp ↓] theorem State.tagBeat_keeps (s : State) (w : Nat) :
    (State.tagBeat s w).clk = s.clk ∧ (State.tagBeat s w).pwr = s.pwr ∧ (State.tagBeat s w).sup = s.sup ∧
    (State.tagBeat s w).lot = s.lot ∧ (State.tagBeat s w).nmt = s.nmt ∧ (State.tagBeat s w).sle = s.sle ∧
    (State.tagBeat s w).sin = s.sin ∧ (State.tagBeat s w).sout = s.sout ∧ (State.tagBeat s w).tmu = s.tmu ∧
    (State.tagBeat s w).aaq = s.aaq ∧ (State.tagBeat s w).hpo.partner = s.hpo.partner ∧ (State.tagBeat s w).trk = s.trk ∧
    (State.tagBeat s w).otp = s.otp ∧ (State.tagBeat s w).bist = s.bist ∧ (State.tagBeat s w).cvus = s.cvus ∧
    (State.tagBeat s w).cpl = s.cpl ∧ (State.tagBeat s w).rcr = s.rcr ∧ (State.tagBeat s w).log = s.log ∧
    (State.tagBeat s w).fresh = s.fresh ∧ (State.tagBeat s w).pending = s.pending := by
  and_intros <;> (unfold State.tagBeat; first | (with_reducible rfl) | (simp; done) | (repeat' (first | (simp; done) | split)))

@[simp ↓] theorem State.captureBeat_keeps (s : State) (c o : Nat) :
    (State.captureBeat s c o).clk = s.clk ∧ (State.captureBeat s c o).pwr = s.pwr ∧ (State.captureBeat s c o).sup = s.sup ∧
    (State.captureBeat s c o).lot = s.lot ∧ (State.captureBeat s c o).nmt.comG = s.nmt.comG ∧ (State.captureBeat s c o).sle = s.sle ∧
    (State.captureBeat s c o).sin = s.sin ∧ (State.captureBeat s c o).sout = s.sout ∧
    (State.captureBeat s c o).tmu.swatch = s.tmu.swatch ∧ (State.captureBeat s c o).aaq = s.aaq ∧
    (State.captureBeat s c o).hpo.partner = s.hpo.partner ∧ (State.captureBeat s c o).trk = s.trk ∧
    (State.captureBeat s c o).otp = s.otp ∧ (State.captureBeat s c o).bist = s.bist ∧ (State.captureBeat s c o).cvus = s.cvus ∧
    (State.captureBeat s c o).cpl = s.cpl ∧ (State.captureBeat s c o).log = s.log ∧ (State.captureBeat s c o).fresh = s.fresh ∧
    (State.captureBeat s c o).pending = s.pending := by
  and_intros <;> (unfold State.captureBeat; first | (with_reducible rfl) | (simp; done) | (repeat' (first | (simp; done) | split)))

@[simp ↓] theorem State.beatRead_keeps (s : State) (index sub o : Nat) (r : OdRow) :
    (State.beatRead s index sub o r).clk = s.clk ∧ (State.beatRead s index sub o r).sup = s.sup ∧
    (State.beatRead s index sub o r).lot = s.lot ∧ (State.beatRead s index sub o r).nmt.comG = s.nmt.comG ∧
    (State.beatRead s index sub o r).sle = s.sle ∧ (State.beatRead s index sub o r).sin = s.sin ∧
    (State.beatRead s index sub o r).sout = s.sout ∧ (State.beatRead s index sub o r).tmu.swatch = s.tmu.swatch ∧
    (State.beatRead s index sub o r).aaq = s.aaq ∧ (State.beatRead s index sub o r).hpo.partner = s.hpo.partner ∧
    (State.beatRead s index sub o r).trk = s.trk ∧ (State.beatRead s index sub o r).otp = s.otp ∧
    (State.beatRead s index sub o r).bist = s.bist ∧ (State.beatRead s index sub o r).cvus = s.cvus ∧
    (State.beatRead s index sub o r).cpl = s.cpl ∧ (State.beatRead s index sub o r).log = s.log ∧
    (State.beatRead s index sub o r).pending = s.pending := by
  and_intros <;> (unfold State.beatRead; first | (with_reducible rfl) | (simp; done) | (repeat' (first | (simp; done) | split)))

@[simp ↓] theorem State.hostWrite_keeps (s : State) (sub v : Nat) (byRecord : Bool) :
    (State.hostWrite s sub v byRecord).clk = s.clk ∧ (State.hostWrite s sub v byRecord).pwr = s.pwr ∧
    (State.hostWrite s sub v byRecord).sup = s.sup ∧ (State.hostWrite s sub v byRecord).lot = s.lot ∧
    (State.hostWrite s sub v byRecord).nmt = s.nmt ∧ (State.hostWrite s sub v byRecord).sle = s.sle ∧
    (State.hostWrite s sub v byRecord).sin = s.sin ∧ (State.hostWrite s sub v byRecord).sout = s.sout ∧
    (State.hostWrite s sub v byRecord).tmu = s.tmu ∧ (State.hostWrite s sub v byRecord).aaq = s.aaq ∧
    (State.hostWrite s sub v byRecord).hpo.partner = s.hpo.partner ∧ (State.hostWrite s sub v byRecord).trk = s.trk ∧
    (State.hostWrite s sub v byRecord).otp = s.otp ∧ (State.hostWrite s sub v byRecord).bist = s.bist ∧
    (State.hostWrite s sub v byRecord).cvus = s.cvus ∧ (State.hostWrite s sub v byRecord).cpl = s.cpl ∧
    (State.hostWrite s sub v byRecord).rcr = s.rcr ∧ (State.hostWrite s sub v byRecord).log = s.log ∧
    (State.hostWrite s sub v byRecord).fresh = s.fresh ∧ (State.hostWrite s sub v byRecord).pending = s.pending := by
  and_intros <;> (unfold State.hostWrite; simp)

@[simp ↓] theorem State.compareWrite_keeps (s : State) (c sub v : Nat) :
    (State.compareWrite s c sub v).clk = s.clk ∧ (State.compareWrite s c sub v).pwr = s.pwr ∧
    (State.compareWrite s c sub v).sup = s.sup ∧ (State.compareWrite s c sub v).lot = s.lot ∧
    (State.compareWrite s c sub v).nmt = s.nmt ∧ (State.compareWrite s c sub v).sle = s.sle ∧
    (State.compareWrite s c sub v).sin = s.sin ∧ (State.compareWrite s c sub v).sout = s.sout ∧
    (State.compareWrite s c sub v).tmu.swatch = s.tmu.swatch ∧ (State.compareWrite s c sub v).aaq = s.aaq ∧
    (State.compareWrite s c sub v).hpo.partner = s.hpo.partner ∧ (State.compareWrite s c sub v).trk = s.trk ∧
    (State.compareWrite s c sub v).otp = s.otp ∧ (State.compareWrite s c sub v).bist = s.bist ∧
    (State.compareWrite s c sub v).cvus = s.cvus ∧ (State.compareWrite s c sub v).cpl = s.cpl ∧
    (State.compareWrite s c sub v).log = s.log ∧ (State.compareWrite s c sub v).fresh = s.fresh ∧
    (State.compareWrite s c sub v).pending = s.pending := by
  and_intros <;> (unfold State.compareWrite; first | (with_reducible rfl) | (simp; done) | (repeat' (first | (simp; done) | split)))

@[simp ↓] theorem State.otpWrite_keeps (s : State) (sub v : Nat) (byRecord : Bool) :
    (State.otpWrite s sub v byRecord).clk = s.clk ∧ (State.otpWrite s sub v byRecord).pwr = s.pwr ∧
    (State.otpWrite s sub v byRecord).sup = s.sup ∧ (State.otpWrite s sub v byRecord).lot = s.lot ∧
    (State.otpWrite s sub v byRecord).nmt = s.nmt ∧ (State.otpWrite s sub v byRecord).sle = s.sle ∧
    (State.otpWrite s sub v byRecord).sin = s.sin ∧ (State.otpWrite s sub v byRecord).sout = s.sout ∧
    (State.otpWrite s sub v byRecord).tmu = s.tmu ∧ (State.otpWrite s sub v byRecord).aaq = s.aaq ∧
    (State.otpWrite s sub v byRecord).hpo.partner = s.hpo.partner ∧ (State.otpWrite s sub v byRecord).trk = s.trk ∧
    (State.otpWrite s sub v byRecord).otp.words = s.otp.words ∧ (State.otpWrite s sub v byRecord).otp.wlock = s.otp.wlock ∧
    (State.otpWrite s sub v byRecord).otp.rlock = s.otp.rlock ∧ (State.otpWrite s sub v byRecord).bist = s.bist ∧
    (State.otpWrite s sub v byRecord).cvus = s.cvus ∧ (State.otpWrite s sub v byRecord).cpl = s.cpl ∧
    (State.otpWrite s sub v byRecord).rcr = s.rcr ∧ (State.otpWrite s sub v byRecord).log = s.log ∧
    (State.otpWrite s sub v byRecord).fresh = s.fresh ∧ (State.otpWrite s sub v byRecord).pending = s.pending := by
  and_intros <;> (unfold State.otpWrite; first | (with_reducible rfl) | (simp; done) | (repeat' (first | (simp; done) | split)))

end Sys2Proof.Machine
end

