-- ==== Sys2Proof/Laws/Host.lean ====
section
/-! SUPPORT. What the operations of Machine/Host.lean leave alone: for each, every part of the state that it keeps. -/

namespace Sys2Proof.Machine

@[simp ↓] theorem State.sent_keeps (s : State) (q : Rec0) (b : List Byte) :
    (State.sent s q b).clk = s.clk ∧ (State.sent s q b).pwr = s.pwr ∧ (State.sent s q b).sup = s.sup ∧ (State.sent s q b).lot = s.lot ∧
    (State.sent s q b).nmt = s.nmt ∧ (State.sent s q b).sle = s.sle ∧ (State.sent s q b).sin = s.sin ∧ (State.sent s q b).sout = s.sout ∧
    (State.sent s q b).tmu = s.tmu ∧ (State.sent s q b).aaq = s.aaq ∧ (State.sent s q b).hpo.reply = s.hpo.reply ∧
    (State.sent s q b).hpo.partner = s.hpo.partner ∧ (State.sent s q b).trk = s.trk ∧ (State.sent s q b).otp.words = s.otp.words ∧
    (State.sent s q b).otp.wlock = s.otp.wlock ∧ (State.sent s q b).otp.rlock = s.otp.rlock ∧ (State.sent s q b).otp.job = s.otp.job ∧
    (State.sent s q b).bist = s.bist ∧ (State.sent s q b).cvus = s.cvus ∧ (State.sent s q b).cpl = s.cpl ∧
    (State.sent s q b).rcr.written = s.rcr.written ∧ (State.sent s q b).log = s.log ∧ (State.sent s q b).fresh = s.fresh ∧
    (State.sent s q b).pending = s.pending := by
  and_intros <;> (unfold State.sent; simp)

@[simp ↓] theorem State.etherSettle_keeps (s : State) :
    (State.etherSettle s).clk = s.clk ∧ (State.etherSettle s).pwr = s.pwr ∧ (State.etherSettle s).sup = s.sup ∧
    (State.etherSettle s).lot = s.lot ∧ (State.etherSettle s).nmt = s.nmt ∧ (State.etherSettle s).sle = s.sle ∧
    (State.etherSettle s).sin = s.sin ∧ (State.etherSettle s).sout = s.sout ∧ (State.etherSettle s).tmu = s.tmu ∧
    (State.etherSettle s).aaq = s.aaq ∧ (State.etherSettle s).hpo.reply = s.hpo.reply ∧
    (State.etherSettle s).hpo.partner = s.hpo.partner ∧ (State.etherSettle s).trk = s.trk ∧ (State.etherSettle s).otp = s.otp ∧
    (State.etherSettle s).bist = s.bist ∧ (State.etherSettle s).cvus = s.cvus ∧ (State.etherSettle s).cpl = s.cpl ∧
    (State.etherSettle s).rcr = s.rcr ∧ (State.etherSettle s).log = s.log ∧ (State.etherSettle s).fresh = s.fresh ∧
    (State.etherSettle s).pending = s.pending := by
  and_intros <;> (unfold State.etherSettle; simp)

@[simp ↓] theorem State.queueRec_keeps (s : State) (q : Rec0) :
    (State.queueRec s q).clk = s.clk ∧ (State.queueRec s q).pwr = s.pwr ∧ (State.queueRec s q).sup = s.sup ∧
    (State.queueRec s q).lot = s.lot ∧ (State.queueRec s q).nmt = s.nmt ∧ (State.queueRec s q).sle = s.sle ∧
    (State.queueRec s q).sin = s.sin ∧ (State.queueRec s q).sout = s.sout ∧ (State.queueRec s q).tmu = s.tmu ∧
    (State.queueRec s q).aaq = s.aaq ∧ (State.queueRec s q).hpo.reply = s.hpo.reply ∧ (State.queueRec s q).hpo.partner = s.hpo.partner ∧
    (State.queueRec s q).trk = s.trk ∧ (State.queueRec s q).otp = s.otp ∧ (State.queueRec s q).bist = s.bist ∧
    (State.queueRec s q).cvus = s.cvus ∧ (State.queueRec s q).cpl = s.cpl ∧ (State.queueRec s q).rcr = s.rcr ∧
    (State.queueRec s q).log = s.log ∧ (State.queueRec s q).fresh = s.fresh ∧ (State.queueRec s q).pending = s.pending := by
  and_intros <;> (unfold State.queueRec; with_reducible rfl)

@[simp ↓] theorem State.respond_keeps (s : State) (port : HostPort) (dst : Nat) (nc : Nat) (pay : List Byte) :
    (State.respond s port dst nc pay).clk = s.clk ∧ (State.respond s port dst nc pay).pwr = s.pwr ∧
    (State.respond s port dst nc pay).sup = s.sup ∧ (State.respond s port dst nc pay).lot = s.lot ∧
    (State.respond s port dst nc pay).nmt = s.nmt ∧ (State.respond s port dst nc pay).sle = s.sle ∧
    (State.respond s port dst nc pay).sin = s.sin ∧ (State.respond s port dst nc pay).sout = s.sout ∧
    (State.respond s port dst nc pay).tmu = s.tmu ∧ (State.respond s port dst nc pay).aaq = s.aaq ∧
    (State.respond s port dst nc pay).hpo.reply = s.hpo.reply ∧ (State.respond s port dst nc pay).hpo.partner = s.hpo.partner ∧
    (State.respond s port dst nc pay).trk = s.trk ∧ (State.respond s port dst nc pay).otp = s.otp ∧
    (State.respond s port dst nc pay).bist = s.bist ∧ (State.respond s port dst nc pay).cvus = s.cvus ∧
    (State.respond s port dst nc pay).cpl = s.cpl ∧ (State.respond s port dst nc pay).rcr = s.rcr ∧
    (State.respond s port dst nc pay).log = s.log ∧ (State.respond s port dst nc pay).pending = s.pending := by
  and_intros <;> (unfold State.respond; simp)

@[simp ↓] theorem State.landHost_keeps (s : State) (words : List Lanes) (period : Nat) :
    (State.landHost s words period).clk = s.clk ∧ (State.landHost s words period).pwr = s.pwr ∧
    (State.landHost s words period).sup = s.sup ∧ (State.landHost s words period).lot = s.lot ∧
    (State.landHost s words period).sle = s.sle ∧ (State.landHost s words period).sin = s.sin ∧
    (State.landHost s words period).sout = s.sout ∧ (State.landHost s words period).tmu = s.tmu ∧
    (State.landHost s words period).aaq = s.aaq ∧ (State.landHost s words period).hpo.reply = s.hpo.reply ∧
    (State.landHost s words period).hpo.partner = s.hpo.partner ∧ (State.landHost s words period).trk = s.trk ∧
    (State.landHost s words period).otp = s.otp ∧ (State.landHost s words period).cvus = s.cvus ∧
    (State.landHost s words period).cpl = s.cpl ∧ (State.landHost s words period).rcr = s.rcr ∧
    (State.landHost s words period).fresh = s.fresh ∧ (State.landHost s words period).pending = s.pending := by
  exact ⟨by first | (unfold State.landHost; (try dsimp only); simp; done) | (unfold State.landHost; (try dsimp only); (repeat' (first | (simp; done) | (with_reducible refine (foldl_keep (fun z : State => z.clk) _ (fun a x => ?_) _ _).trans ?_ <;> (try dsimp only)) | (with_reducible refine (foldl_keep (fun z : State × _ => z.1.clk) _ (fun a x => ?_) _ _).trans ?_ <;> (try dsimp only)) | split))),
    by first | (unfold State.landHost; (try dsimp only); simp; done) | (unfold State.landHost; (try dsimp only); (repeat' (first | (simp; done) | (with_reducible refine (foldl_keep (fun z : State => z.pwr) _ (fun a x => ?_) _ _).trans ?_ <;> (try dsimp only)) | (with_reducible refine (foldl_keep (fun z : State × _ => z.1.pwr) _ (fun a x => ?_) _ _).trans ?_ <;> (try dsimp only)) | split))),
    by first | (unfold State.landHost; (try dsimp only); simp; done) | (unfold State.landHost; (try dsimp only); (repeat' (first | (simp; done) | (with_reducible refine (foldl_keep (fun z : State => z.sup) _ (fun a x => ?_) _ _).trans ?_ <;> (try dsimp only)) | (with_reducible refine (foldl_keep (fun z : State × _ => z.1.sup) _ (fun a x => ?_) _ _).trans ?_ <;> (try dsimp only)) | split))),
    by first | (unfold State.landHost; (try dsimp only); simp; done) | (unfold State.landHost; (try dsimp only); (repeat' (first | (simp; done) | (with_reducible refine (foldl_keep (fun z : State => z.lot) _ (fun a x => ?_) _ _).trans ?_ <;> (try dsimp only)) | (with_reducible refine (foldl_keep (fun z : State × _ => z.1.lot) _ (fun a x => ?_) _ _).trans ?_ <;> (try dsimp only)) | split))),
    by first | (unfold State.landHost; (try dsimp only); simp; done) | (unfold State.landHost; (try dsimp only); (repeat' (first | (simp; done) | (with_reducible refine (foldl_keep (fun z : State => z.sle) _ (fun a x => ?_) _ _).trans ?_ <;> (try dsimp only)) | (with_reducible refine (foldl_keep (fun z : State × _ => z.1.sle) _ (fun a x => ?_) _ _).trans ?_ <;> (try dsimp only)) | split))),
    by first | (unfold State.landHost; (try dsimp only); simp; done) | (unfold State.landHost; (try dsimp only); (repeat' (first | (simp; done) | (with_reducible refine (foldl_keep (fun z : State => z.sin) _ (fun a x => ?_) _ _).trans ?_ <;> (try dsimp only)) | (with_reducible refine (foldl_keep (fun z : State × _ => z.1.sin) _ (fun a x => ?_) _ _).trans ?_ <;> (try dsimp only)) | split))),
    by first | (unfold State.landHost; (try dsimp only); simp; done) | (unfold State.landHost; (try dsimp only); (repeat' (first | (simp; done) | (with_reducible refine (foldl_keep (fun z : State => z.sout) _ (fun a x => ?_) _ _).trans ?_ <;> (try dsimp only)) | (with_reducible refine (foldl_keep (fun z : State × _ => z.1.sout) _ (fun a x => ?_) _ _).trans ?_ <;> (try dsimp only)) | split))),
    by first | (unfold State.landHost; (try dsimp only); simp; done) | (unfold State.landHost; (try dsimp only); (repeat' (first | (simp; done) | (with_reducible refine (foldl_keep (fun z : State => z.tmu) _ (fun a x => ?_) _ _).trans ?_ <;> (try dsimp only)) | (with_reducible refine (foldl_keep (fun z : State × _ => z.1.tmu) _ (fun a x => ?_) _ _).trans ?_ <;> (try dsimp only)) | split))),
    by first | (unfold State.landHost; (try dsimp only); simp; done) | (unfold State.landHost; (try dsimp only); (repeat' (first | (simp; done) | (with_reducible refine (foldl_keep (fun z : State => z.aaq) _ (fun a x => ?_) _ _).trans ?_ <;> (try dsimp only)) | (with_reducible refine (foldl_keep (fun z : State × _ => z.1.aaq) _ (fun a x => ?_) _ _).trans ?_ <;> (try dsimp only)) | split))),
    by first | (unfold State.landHost; (try dsimp only); simp; done) | (unfold State.landHost; (try dsimp only); (repeat' (first | (simp; done) | (with_reducible refine (foldl_keep (fun z : State => z.hpo.reply) _ (fun a x => ?_) _ _).trans ?_ <;> (try dsimp only)) | (with_reducible refine (foldl_keep (fun z : State × _ => z.1.hpo.reply) _ (fun a x => ?_) _ _).trans ?_ <;> (try dsimp only)) | split))),
    by first | (unfold State.landHost; (try dsimp only); simp; done) | (unfold State.landHost; (try dsimp only); (repeat' (first | (simp; done) | (with_reducible refine (foldl_keep (fun z : State => z.hpo.partner) _ (fun a x => ?_) _ _).trans ?_ <;> (try dsimp only)) | (with_reducible refine (foldl_keep (fun z : State × _ => z.1.hpo.partner) _ (fun a x => ?_) _ _).trans ?_ <;> (try dsimp only)) | split))),
    by first | (unfold State.landHost; (try dsimp only); simp; done) | (unfold State.landHost; (try dsimp only); (repeat' (first | (simp; done) | (with_reducible refine (foldl_keep (fun z : State => z.trk) _ (fun a x => ?_) _ _).trans ?_ <;> (try dsimp only)) | (with_reducible refine (foldl_keep (fun z : State × _ => z.1.trk) _ (fun a x => ?_) _ _).trans ?_ <;> (try dsimp only)) | split))),
    by first | (unfold State.landHost; (try dsimp only); simp; done) | (unfold State.landHost; (try dsimp only); (repeat' (first | (simp; done) | (with_reducible refine (foldl_keep (fun z : State => z.otp) _ (fun a x => ?_) _ _).trans ?_ <;> (try dsimp only)) | (with_reducible refine (foldl_keep (fun z : State × _ => z.1.otp) _ (fun a x => ?_) _ _).trans ?_ <;> (try dsimp only)) | split))),
    by first | (unfold State.landHost; (try dsimp only); simp; done) | (unfold State.landHost; (try dsimp only); (repeat' (first | (simp; done) | (with_reducible refine (foldl_keep (fun z : State => z.cvus) _ (fun a x => ?_) _ _).trans ?_ <;> (try dsimp only)) | (with_reducible refine (foldl_keep (fun z : State × _ => z.1.cvus) _ (fun a x => ?_) _ _).trans ?_ <;> (try dsimp only)) | split))),
    by first | (unfold State.landHost; (try dsimp only); simp; done) | (unfold State.landHost; (try dsimp only); (repeat' (first | (simp; done) | (with_reducible refine (foldl_keep (fun z : State => z.cpl) _ (fun a x => ?_) _ _).trans ?_ <;> (try dsimp only)) | (with_reducible refine (foldl_keep (fun z : State × _ => z.1.cpl) _ (fun a x => ?_) _ _).trans ?_ <;> (try dsimp only)) | split))),
    by first | (unfold State.landHost; (try dsimp only); simp; done) | (unfold State.landHost; (try dsimp only); (repeat' (first | (simp; done) | (with_reducible refine (foldl_keep (fun z : State => z.rcr) _ (fun a x => ?_) _ _).trans ?_ <;> (try dsimp only)) | (with_reducible refine (foldl_keep (fun z : State × _ => z.1.rcr) _ (fun a x => ?_) _ _).trans ?_ <;> (try dsimp only)) | split))),
    by first | (unfold State.landHost; (try dsimp only); simp; done) | (unfold State.landHost; (try dsimp only); (repeat' (first | (simp; done) | (with_reducible refine (foldl_keep (fun z : State => z.fresh) _ (fun a x => ?_) _ _).trans ?_ <;> (try dsimp only)) | (with_reducible refine (foldl_keep (fun z : State × _ => z.1.fresh) _ (fun a x => ?_) _ _).trans ?_ <;> (try dsimp only)) | split))),
    by first | (unfold State.landHost; (try dsimp only); simp; done) | (unfold State.landHost; (try dsimp only); (repeat' (first | (simp; done) | (with_reducible refine (foldl_keep (fun z : State => z.pending) _ (fun a x => ?_) _ _).trans ?_ <;> (try dsimp only)) | (with_reducible refine (foldl_keep (fun z : State × _ => z.1.pending) _ (fun a x => ?_) _ _).trans ?_ <;> (try dsimp only)) | split)))⟩

@[simp ↓] theorem State.busyFrame_keeps (s : State) (port : HostPort) (f : CycleFrame) :
    (State.busyFrame s port f).clk = s.clk ∧ (State.busyFrame s port f).pwr = s.pwr ∧ (State.busyFrame s port f).sup = s.sup ∧
    (State.busyFrame s port f).lot = s.lot ∧ (State.busyFrame s port f).nmt = s.nmt ∧ (State.busyFrame s port f).sle = s.sle ∧
    (State.busyFrame s port f).sin = s.sin ∧ (State.busyFrame s port f).sout = s.sout ∧ (State.busyFrame s port f).tmu = s.tmu ∧
    (State.busyFrame s port f).aaq = s.aaq ∧ (State.busyFrame s port f).hpo.reply = s.hpo.reply ∧
    (State.busyFrame s port f).hpo.partner = s.hpo.partner ∧ (State.busyFrame s port f).trk = s.trk ∧
    (State.busyFrame s port f).otp = s.otp ∧ (State.busyFrame s port f).bist = s.bist ∧ (State.busyFrame s port f).cvus = s.cvus ∧
    (State.busyFrame s port f).cpl = s.cpl ∧ (State.busyFrame s port f).rcr = s.rcr ∧ (State.busyFrame s port f).log = s.log ∧
    (State.busyFrame s port f).pending = s.pending := by
  and_intros <;> (unfold State.busyFrame; simp)

@[simp ↓] theorem State.discardFrame_keeps (s : State) (link : Bool) :
    (State.discardFrame s link).clk = s.clk ∧ (State.discardFrame s link).pwr = s.pwr ∧ (State.discardFrame s link).sup = s.sup ∧
    (State.discardFrame s link).lot = s.lot ∧ (State.discardFrame s link).nmt = s.nmt ∧ (State.discardFrame s link).sle = s.sle ∧
    (State.discardFrame s link).sin = s.sin ∧ (State.discardFrame s link).sout = s.sout ∧ (State.discardFrame s link).tmu = s.tmu ∧
    (State.discardFrame s link).aaq = s.aaq ∧ (State.discardFrame s link).hpo.reply = s.hpo.reply ∧
    (State.discardFrame s link).hpo.partner = s.hpo.partner ∧ (State.discardFrame s link).trk = s.trk ∧
    (State.discardFrame s link).otp = s.otp ∧ (State.discardFrame s link).bist = s.bist ∧ (State.discardFrame s link).cvus = s.cvus ∧
    (State.discardFrame s link).cpl = s.cpl ∧ (State.discardFrame s link).rcr = s.rcr ∧ (State.discardFrame s link).log = s.log ∧
    (State.discardFrame s link).fresh = s.fresh ∧ (State.discardFrame s link).pending = s.pending := by
  and_intros <;> (unfold State.discardFrame; with_reducible rfl)

end Sys2Proof.Machine
end

