-- ==== Sys2Proof/Laws/Aaq.lean ====
section
/-! SUPPORT. What the operations of Machine/Aaq.lean leave alone: for each, every part of the state that it keeps. -/

namespace Sys2Proof.Machine

@[simp ↓] theorem State.aaqPin_keeps (s : State) (n : Nat) (v : Int) :
    (State.aaqPin s n v).clk = s.clk ∧ (State.aaqPin s n v).pwr = s.pwr ∧ (State.aaqPin s n v).sup = s.sup ∧
    (State.aaqPin s n v).lot = s.lot ∧ (State.aaqPin s n v).nmt.comG = s.nmt.comG ∧ (State.aaqPin s n v).sle.epoch = s.sle.epoch ∧
    (State.aaqPin s n v).sle.lfsr = s.sle.lfsr ∧ (State.aaqPin s n v).sin = s.sin ∧ (State.aaqPin s n v).sout.w8 = s.sout.w8 ∧
    (State.aaqPin s n v).tmu = s.tmu ∧ (State.aaqPin s n v).aaq = s.aaq ∧ (State.aaqPin s n v).hpo.reply = s.hpo.reply ∧
    (State.aaqPin s n v).hpo.partner = s.hpo.partner ∧ (State.aaqPin s n v).trk = s.trk ∧ (State.aaqPin s n v).otp = s.otp ∧
    (State.aaqPin s n v).bist = s.bist ∧ (State.aaqPin s n v).cvus = s.cvus ∧ (State.aaqPin s n v).fresh = s.fresh ∧
    (State.aaqPin s n v).pending = s.pending := by
  and_intros <;> (unfold State.aaqPin; simp)

@[simp ↓] theorem State.urgentPin_keeps (s : State) (n u : Nat) (v : Int) :
    (State.urgentPin s n u v).clk = s.clk ∧ (State.urgentPin s n u v).pwr = s.pwr ∧ (State.urgentPin s n u v).sup = s.sup ∧
    (State.urgentPin s n u v).lot = s.lot ∧ (State.urgentPin s n u v).nmt = s.nmt ∧ (State.urgentPin s n u v).sle = s.sle ∧
    (State.urgentPin s n u v).sin = s.sin ∧ (State.urgentPin s n u v).sout.w8 = s.sout.w8 ∧ (State.urgentPin s n u v).tmu = s.tmu ∧
    (State.urgentPin s n u v).hpo.reply = s.hpo.reply ∧ (State.urgentPin s n u v).hpo.partner = s.hpo.partner ∧
    (State.urgentPin s n u v).trk = s.trk ∧ (State.urgentPin s n u v).otp = s.otp ∧ (State.urgentPin s n u v).bist = s.bist ∧
    (State.urgentPin s n u v).cvus = s.cvus ∧ (State.urgentPin s n u v).cpl = s.cpl ∧ (State.urgentPin s n u v).rcr = s.rcr ∧
    (State.urgentPin s n u v).fresh = s.fresh ∧ (State.urgentPin s n u v).pending = s.pending := by
  and_intros <;> (unfold State.urgentPin; simp)

@[simp ↓] theorem State.aaqUs_keeps (s : State) (v : Int) :
    (State.aaqUs s v).clk = s.clk ∧ (State.aaqUs s v).sup = s.sup ∧ (State.aaqUs s v).lot = s.lot ∧ (State.aaqUs s v).nmt = s.nmt ∧
    (State.aaqUs s v).sle = s.sle ∧ (State.aaqUs s v).sin = s.sin ∧ (State.aaqUs s v).sout = s.sout ∧ (State.aaqUs s v).tmu = s.tmu ∧
    (State.aaqUs s v).aaq = s.aaq ∧ (State.aaqUs s v).hpo = s.hpo ∧ (State.aaqUs s v).trk = s.trk ∧ (State.aaqUs s v).otp = s.otp ∧
    (State.aaqUs s v).bist = s.bist ∧ (State.aaqUs s v).cvus = s.cvus ∧ (State.aaqUs s v).cpl = s.cpl ∧ (State.aaqUs s v).rcr = s.rcr ∧
    (State.aaqUs s v).log = s.log ∧ (State.aaqUs s v).pending = s.pending := by
  and_intros <;> (unfold State.aaqUs; simp)

@[simp ↓] theorem State.aaqSource_keeps (s : State) (k : Nat) (v : Int) :
    (State.aaqSource s k v).clk = s.clk ∧ (State.aaqSource s k v).pwr = s.pwr ∧ (State.aaqSource s k v).sup = s.sup ∧
    (State.aaqSource s k v).lot = s.lot ∧ (State.aaqSource s k v).nmt = s.nmt ∧ (State.aaqSource s k v).sle = s.sle ∧
    (State.aaqSource s k v).sout = s.sout ∧ (State.aaqSource s k v).tmu = s.tmu ∧ (State.aaqSource s k v).hpo.reply = s.hpo.reply ∧
    (State.aaqSource s k v).hpo.partner = s.hpo.partner ∧ (State.aaqSource s k v).trk = s.trk ∧ (State.aaqSource s k v).otp = s.otp ∧
    (State.aaqSource s k v).bist = s.bist ∧ (State.aaqSource s k v).cvus = s.cvus ∧ (State.aaqSource s k v).cpl = s.cpl ∧
    (State.aaqSource s k v).rcr = s.rcr ∧ (State.aaqSource s k v).pending = s.pending := by
  and_intros <;> (unfold State.aaqSource; simp)

@[simp ↓] theorem State.aaqVrefA_keeps (s : State) (v : Int) :
    (State.aaqVrefA s v).clk = s.clk ∧ (State.aaqVrefA s v).pwr = s.pwr ∧ (State.aaqVrefA s v).sup = s.sup ∧
    (State.aaqVrefA s v).lot = s.lot ∧ (State.aaqVrefA s v).nmt = s.nmt ∧ (State.aaqVrefA s v).sle = s.sle ∧
    (State.aaqVrefA s v).sin = s.sin ∧ (State.aaqVrefA s v).sout = s.sout ∧ (State.aaqVrefA s v).tmu = s.tmu ∧
    (State.aaqVrefA s v).hpo = s.hpo ∧ (State.aaqVrefA s v).trk = s.trk ∧ (State.aaqVrefA s v).otp = s.otp ∧
    (State.aaqVrefA s v).bist = s.bist ∧ (State.aaqVrefA s v).cvus = s.cvus ∧ (State.aaqVrefA s v).cpl = s.cpl ∧
    (State.aaqVrefA s v).rcr = s.rcr ∧ (State.aaqVrefA s v).log = s.log ∧ (State.aaqVrefA s v).fresh = s.fresh ∧
    (State.aaqVrefA s v).pending = s.pending := by
  and_intros <;> (unfold State.aaqVrefA; with_reducible rfl)

@[simp ↓] theorem State.refFault_keeps (s : State) (a b : Bool) :
    (State.refFault s a b).clk = s.clk ∧ (State.refFault s a b).pwr = s.pwr ∧ (State.refFault s a b).sup = s.sup ∧
    (State.refFault s a b).lot = s.lot ∧ (State.refFault s a b).nmt = s.nmt ∧ (State.refFault s a b).sle = s.sle ∧
    (State.refFault s a b).sin = s.sin ∧ (State.refFault s a b).sout = s.sout ∧ (State.refFault s a b).tmu = s.tmu ∧
    (State.refFault s a b).hpo.reply = s.hpo.reply ∧ (State.refFault s a b).hpo.partner = s.hpo.partner ∧
    (State.refFault s a b).trk = s.trk ∧ (State.refFault s a b).otp = s.otp ∧ (State.refFault s a b).bist = s.bist ∧
    (State.refFault s a b).cvus = s.cvus ∧ (State.refFault s a b).cpl = s.cpl ∧ (State.refFault s a b).rcr = s.rcr ∧
    (State.refFault s a b).fresh = s.fresh ∧ (State.refFault s a b).pending = s.pending := by
  and_intros <;> (unfold State.refFault; simp)

@[simp ↓] theorem State.tempWarning_keeps (s : State) (second : Bool) :
    (State.tempWarning s second).clk = s.clk ∧ (State.tempWarning s second).pwr.doms = s.pwr.doms ∧
    (State.tempWarning s second).sup = s.sup ∧ (State.tempWarning s second).lot = s.lot ∧ (State.tempWarning s second).nmt = s.nmt ∧
    (State.tempWarning s second).sle = s.sle ∧ (State.tempWarning s second).sin = s.sin ∧ (State.tempWarning s second).sout = s.sout ∧
    (State.tempWarning s second).tmu = s.tmu ∧ (State.tempWarning s second).aaq = s.aaq ∧
    (State.tempWarning s second).hpo.reply = s.hpo.reply ∧ (State.tempWarning s second).hpo.partner = s.hpo.partner ∧
    (State.tempWarning s second).trk = s.trk ∧ (State.tempWarning s second).otp = s.otp ∧ (State.tempWarning s second).bist = s.bist ∧
    (State.tempWarning s second).cvus = s.cvus ∧ (State.tempWarning s second).cpl = s.cpl ∧ (State.tempWarning s second).rcr = s.rcr ∧
    (State.tempWarning s second).fresh = s.fresh ∧ (State.tempWarning s second).pending = s.pending := by
  and_intros <;> (unfold State.tempWarning; simp)

@[simp ↓] theorem State.aaqOffset_keeps (s : State) (v : Int) :
    (State.aaqOffset s v).clk = s.clk ∧ (State.aaqOffset s v).pwr = s.pwr ∧ (State.aaqOffset s v).sup = s.sup ∧
    (State.aaqOffset s v).lot = s.lot ∧ (State.aaqOffset s v).nmt = s.nmt ∧ (State.aaqOffset s v).sle = s.sle ∧
    (State.aaqOffset s v).sin = s.sin ∧ (State.aaqOffset s v).sout = s.sout ∧ (State.aaqOffset s v).tmu = s.tmu ∧
    (State.aaqOffset s v).hpo.reply = s.hpo.reply ∧ (State.aaqOffset s v).hpo.partner = s.hpo.partner ∧
    (State.aaqOffset s v).trk = s.trk ∧ (State.aaqOffset s v).otp = s.otp ∧ (State.aaqOffset s v).bist = s.bist ∧
    (State.aaqOffset s v).cvus = s.cvus ∧ (State.aaqOffset s v).cpl = s.cpl ∧ (State.aaqOffset s v).rcr = s.rcr ∧
    (State.aaqOffset s v).fresh = s.fresh ∧ (State.aaqOffset s v).pending = s.pending := by
  and_intros <;> (unfold State.aaqOffset; simp)

end Sys2Proof.Machine
end

