-- ==== Sys2Proof/Laws/PerInstr.lean ====
section
/-! SUPPORT. A statement about every command as syntax, one lemma for each row of the table: the byte strings that come in a frame of
a host or of the trunk fit into a frame of 1,518 bytes (Table: Cycle Frame, R314, R350). -/

namespace Sys2Proof.Laws

/-- The byte strings of a command that a host frame or a trunk frame carries. -/
def Row.strings (i : Instr) : List (List Byte) := match i with
  | .cycleFrame _ b => [b]
  | .trunkFrame _ b => [b]
  | .write _ _ b => [b]
  | .beatWrite _ _ b => [b]
  | .blockWrite _ _ _ b => [b]
  | _ => []

/-- A well-formed command carries no more than a frame holds. -/
def Row.Statement (i : Instr) : Prop := i.wf = true → ∀ b, b ∈ Row.strings i → b.length ≤ 1518

/-- The one string of a command is bounded by its check. -/
theorem Row.of_one {i : Instr} {b : List Byte} {n : Nat} (hs : Row.strings i = [b]) (hw : i.wf = decide (b.length ≤ n)) (hn : n ≤ 1518) :
    Row.Statement i := by
  intro h c hc
  rw [hs, List.mem_singleton] at hc
  rw [hw] at h
  exact hc ▸ Nat.le_trans (of_decide_eq_true h) hn

/-- A command without such a string. -/
theorem Row.of_none {i : Instr} (hs : Row.strings i = []) : Row.Statement i := fun _ _ hb => absurd (hs ▸ hb) List.not_mem_nil

theorem Row.powerOn : ∀ input aonMv boot, Row.Statement (.powerOn input aonMv boot) := fun _ _ _ => Row.of_none rfl
theorem Row.startUpBistComplete : ∀ seed rcCount slowCount found otp, Row.Statement (.startUpBistComplete seed rcCount slowCount found otp) := fun _ _ _ _ _ => Row.of_none rfl
theorem Row.strapReread : ∀ straps, Row.Statement (.strapReread straps) := fun _ => Row.of_none rfl
theorem Row.nrst : ∀ lowNs boot, Row.Statement (.nrst lowNs boot) := fun _ _ => Row.of_none rfl
theorem Row.interruption : ∀ input power, Row.Statement (.interruption input power) := fun _ _ => Row.of_none rfl
theorem Row.pfw : ∀ bulkV, Row.Statement (.pfw bulkV) := fun _ => Row.of_none rfl
theorem Row.pfs : ∀ bulkV, Row.Statement (.pfs bulkV) := fun _ => Row.of_none rfl
theorem Row.stagingFlushComplete : Row.Statement .stagingFlushComplete := Row.of_none rfl
theorem Row.domainsOff : Row.Statement .domainsOff := Row.of_none rfl
theorem Row.pfsRestart : ∀ input boot, Row.Statement (.pfsRestart input boot) := fun _ _ => Row.of_none rfl
theorem Row.aonLoss : ∀ bulkV, Row.Statement (.aonLoss bulkV) := fun _ => Row.of_none rfl
theorem Row.mainsReturn : ∀ input, Row.Statement (.mainsReturn input) := fun _ => Row.of_none rfl
theorem Row.pfwClear : ∀ bulkV, Row.Statement (.pfwClear bulkV) := fun _ => Row.of_none rfl
theorem Row.aonRailFault : ∀ mv, Row.Statement (.aonRailFault mv) := fun _ => Row.of_none rfl
theorem Row.railFault : ∀ d core, Row.Statement (.railFault d core) := fun _ _ => Row.of_none rfl
theorem Row.domainRestart : ∀ d, Row.Statement (.domainRestart d) := fun _ => Row.of_none rfl
theorem Row.trimWindow : Row.Statement .trimWindow := Row.of_none rfl
theorem Row.usOverloadOff : Row.Statement .usOverloadOff := Row.of_none rfl
theorem Row.usRetry : Row.Statement .usRetry := Row.of_none rfl
theorem Row.lfWarning : ∀ g mv, Row.Statement (.lfWarning g mv) := fun _ _ => Row.of_none rfl
theorem Row.lfCutOff : ∀ g mv, Row.Statement (.lfCutOff g mv) := fun _ _ => Row.of_none rfl
theorem Row.lfGoodQualified : ∀ g mv, Row.Statement (.lfGoodQualified g mv) := fun _ _ => Row.of_none rfl
theorem Row.configure : Row.Statement .configure := Row.of_none rfl
theorem Row.validate : Row.Statement .validate := Row.of_none rfl
theorem Row.acceptanceComplete : ∀ faults, Row.Statement (.acceptanceComplete faults) := fun _ => Row.of_none rfl
theorem Row.confirmation : ∀ value, Row.Statement (.confirmation value) := fun _ => Row.of_none rfl
theorem Row.confirmationTimeout : Row.Statement .confirmationTimeout := Row.of_none rfl
theorem Row.run : Row.Statement .run := Row.of_none rfl
theorem Row.commission : Row.Statement .commission := Row.of_none rfl
theorem Row.park : ∀ count1 count2, Row.Statement (.park count1 count2) := fun _ _ => Row.of_none rfl
theorem Row.parkedEntry : Row.Statement .parkedEntry := Row.of_none rfl
theorem Row.replay : Row.Statement .replay := Row.of_none rfl
theorem Row.endReplay : Row.Statement .endReplay := Row.of_none rfl
theorem Row.halt : Row.Statement .halt := Row.of_none rfl
theorem Row.leaveHalt : Row.Statement .leaveHalt := Row.of_none rfl
theorem Row.haltReleaseArmExpiry : Row.Statement .haltReleaseArmExpiry := Row.of_none rfl
theorem Row.restore : Row.Statement .restore := Row.of_none rfl
theorem Row.discard : Row.Statement .discard := Row.of_none rfl
theorem Row.reset : ∀ boot, Row.Statement (.reset boot) := fun _ => Row.of_none rfl
theorem Row.wakeDelayExpiry : ∀ slowTicks retained, Row.Statement (.wakeDelayExpiry slowTicks retained) := fun _ _ => Row.of_none rfl
theorem Row.wakeInputChange : ∀ n mv1 mv2 slowTicks retained, Row.Statement (.wakeInputChange n mv1 mv2 slowTicks retained) := fun _ _ _ _ _ => Row.of_none rfl
theorem Row.parkedHalt : ∀ cause rail slowTicks, Row.Statement (.parkedHalt cause rail slowTicks) := fun _ _ _ => Row.of_none rfl
theorem Row.partitionRelease : ∀ p, Row.Statement (.partitionRelease p) := fun _ => Row.of_none rfl
theorem Row.passResume : ∀ p, Row.Statement (.passResume p) := fun _ => Row.of_none rfl
theorem Row.lut : ∀ f, Row.Statement (.lut f) := fun _ => Row.of_none rfl
theorem Row.latch : ∀ f, Row.Statement (.latch f) := fun _ => Row.of_none rfl
theorem Row.edge : ∀ f, Row.Statement (.edge f) := fun _ => Row.of_none rfl
theorem Row.timer : ∀ f, Row.Statement (.timer f) := fun _ => Row.of_none rfl
theorem Row.equiv : ∀ f, Row.Statement (.equiv f) := fun _ => Row.of_none rfl
theorem Row.tagset : ∀ f, Row.Statement (.tagset f) := fun _ => Row.of_none rfl
theorem Row.barrier : ∀ f, Row.Statement (.barrier f) := fun _ => Row.of_none rfl
theorem Row.nop : ∀ f, Row.Statement (.nop f) := fun _ => Row.of_none rfl
theorem Row.commitGate : Row.Statement .commitGate := Row.of_none rfl
theorem Row.watchdogExpiry : Row.Statement .watchdogExpiry := Row.of_none rfl
theorem Row.bistSlice : ∀ kind finding rate, Row.Statement (.bistSlice kind finding rate) := fun _ _ _ => Row.of_none rfl
theorem Row.localisationComplete : ∀ found, Row.Statement (.localisationComplete found) := fun _ => Row.of_none rfl
theorem Row.timeBaseCheck : ∀ rcCount slowCount, Row.Statement (.timeBaseCheck rcCount slowCount) := fun _ _ => Row.of_none rfl
theorem Row.otpReread : ∀ reads, Row.Statement (.otpReread reads) := fun _ => Row.of_none rfl
theorem Row.haltRequest : Row.Statement .haltRequest := Row.of_none rfl
theorem Row.debugHaltEffect : Row.Statement .debugHaltEffect := Row.of_none rfl
theorem Row.step : ∀ fg fo, Row.Statement (.step fg fo) := fun _ _ => Row.of_none rfl
theorem Row.resume : Row.Statement .resume := Row.of_none rfl
theorem Row.testPulse : ∀ k, Row.Statement (.testPulse k) := fun _ => Row.of_none rfl
theorem Row.filteredEdge : ∀ n run, Row.Statement (.filteredEdge n run) := fun _ _ => Row.of_none rfl
theorem Row.pulseDecision : ∀ n k rawBefore lowSamples inside, Row.Statement (.pulseDecision n k rawBefore lowSamples inside) := fun _ _ _ _ _ => Row.of_none rfl
theorem Row.sourceFault : ∀ k ma mv, Row.Statement (.sourceFault k ma mv) := fun _ _ _ => Row.of_none rfl
theorem Row.sourceRetry : ∀ k, Row.Statement (.sourceRetry k) := fun _ => Row.of_none rfl
theorem Row.proofTimeout : ∀ n, Row.Statement (.proofTimeout n) := fun _ => Row.of_none rfl
theorem Row.discrepancyTimeout : ∀ p, Row.Statement (.discrepancyTimeout p) := fun _ => Row.of_none rfl
theorem Row.loopBackTest : ∀ ok, Row.Statement (.loopBackTest ok) := fun _ => Row.of_none rfl
theorem Row.resetJam : ∀ src, Row.Statement (.resetJam src) := fun _ => Row.of_none rfl
theorem Row.closingCheckEnd : ∀ g notLow railClosed, Row.Statement (.closingCheckEnd g notLow railClosed) := fun _ _ _ => Row.of_none rfl
theorem Row.groupTest : ∀ g, Row.Statement (.groupTest g) := fun _ => Row.of_none rfl
theorem Row.groupTestDecision : ∀ g railSeen notLow bled, Row.Statement (.groupTestDecision g railSeen notLow bled) := fun _ _ _ _ => Row.of_none rfl
theorem Row.darkTest : ∀ src, Row.Statement (.darkTest src) := fun _ => Row.of_none rfl
theorem Row.darkTestDecision : ∀ src seen bled, Row.Statement (.darkTestDecision src seen bled) := fun _ _ _ => Row.of_none rfl
theorem Row.readbackFault : ∀ n code, Row.Statement (.readbackFault n code) := fun _ _ => Row.of_none rfl
theorem Row.parallelMismatch : ∀ g, Row.Statement (.parallelMismatch g) := fun _ => Row.of_none rfl
theorem Row.openLoad : ∀ n, Row.Statement (.openLoad n) := fun _ => Row.of_none rfl
theorem Row.driverOvertemperature : ∀ n, Row.Statement (.driverOvertemperature n) := fun _ => Row.of_none rfl
theorem Row.groupOvercurrent : ∀ g, Row.Statement (.groupOvercurrent g) := fun _ => Row.of_none rfl
theorem Row.groupOpenRetry : ∀ g railSeen, Row.Statement (.groupOpenRetry g railSeen) := fun _ _ => Row.of_none rfl
theorem Row.groupCloseRetry : ∀ g notLow railClosed, Row.Statement (.groupCloseRetry g notLow railClosed) := fun _ _ _ => Row.of_none rfl
theorem Row.compareEvent : ∀ c, Row.Statement (.compareEvent c) := fun _ => Row.of_none rfl
theorem Row.arm : ∀ c, Row.Statement (.arm c) := fun _ => Row.of_none rfl
theorem Row.disarm : ∀ c, Row.Statement (.disarm c) := fun _ => Row.of_none rfl
theorem Row.clearFlags : ∀ c, Row.Statement (.clearFlags c) := fun _ => Row.of_none rfl
theorem Row.softwareCapture : ∀ c, Row.Statement (.softwareCapture c) := fun _ => Row.of_none rfl
theorem Row.targetWrite : ∀ c target, Row.Statement (.targetWrite c target) := fun _ _ => Row.of_none rfl
theorem Row.periodWrite : ∀ c period, Row.Statement (.periodWrite c period) := fun _ _ => Row.of_none rfl
theorem Row.captureValueRead : ∀ c meets, Row.Statement (.captureValueRead c meets) := fun _ _ => Row.of_none rfl
theorem Row.nodeWordRead : ∀ w, Row.Statement (.nodeWordRead w) := fun _ => Row.of_none rfl
theorem Row.speedEdge : ∀ n level stamp heldNs, Row.Statement (.speedEdge n level stamp heldNs) := fun _ _ _ _ => Row.of_none rfl
theorem Row.motionUpdate : Row.Statement .motionUpdate := Row.of_none rfl
theorem Row.speedChannelFault : ∀ n fault, Row.Statement (.speedChannelFault n fault) := fun _ _ => Row.of_none rfl
theorem Row.speedLoopBack : ∀ ok, Row.Statement (.speedLoopBack ok) := fun _ => Row.of_none rfl
theorem Row.syncSymbol : ∀ link carried residenceNs ownNs epoch, Row.Statement (.syncSymbol link carried residenceNs ownNs epoch) := fun _ _ _ _ _ => Row.of_none rfl
theorem Row.disciplineHoldover : Row.Statement .disciplineHoldover := Row.of_none rfl
theorem Row.swatchRequest : ∀ t, Row.Statement (.swatchRequest t) := fun _ => Row.of_none rfl
theorem Row.swatchLatch : Row.Statement .swatchLatch := Row.of_none rfl
theorem Row.swatchGatherTimeout : ∀ records, Row.Statement (.swatchGatherTimeout records) := fun _ => Row.of_none rfl
theorem Row.aaqConversion : ∀ e raw value, Row.Statement (.aaqConversion e raw value) := fun _ _ _ => Row.of_none rfl
theorem Row.cycleFrame : ∀ port bytes, Row.Statement (.cycleFrame port bytes) := fun port bytes => Row.of_one (n := 1518) rfl rfl (by decide)
theorem Row.hostStale : Row.Statement .hostStale := Row.of_none rfl
theorem Row.hostWatchdogExpiry : Row.Statement .hostWatchdogExpiry := Row.of_none rfl
theorem Row.read : ∀ tag addr, Row.Statement (.read tag addr) := fun _ _ => Row.of_none rfl
theorem Row.write : ∀ tag addr body, Row.Statement (.write tag addr body) := fun tag addr body => Row.of_one (n := 1032) rfl rfl (by decide)
theorem Row.beatRead : ∀ tag addr, Row.Statement (.beatRead tag addr) := fun _ _ => Row.of_none rfl
theorem Row.beatWrite : ∀ tag addr body, Row.Statement (.beatWrite tag addr body) := fun tag addr body => Row.of_one (n := 1032) rfl rfl (by decide)
theorem Row.beatWriteTimeout : Row.Statement .beatWriteTimeout := Row.of_none rfl
theorem Row.blockRead : ∀ tag addr off len, Row.Statement (.blockRead tag addr off len) := fun _ _ _ _ => Row.of_none rfl
theorem Row.blockWrite : ∀ tag addr off data, Row.Statement (.blockWrite tag addr off data) := fun tag addr off data => Row.of_one (n := 1028) rfl rfl (by decide)
theorem Row.wake : ∀ tag slowTicks retained, Row.Statement (.wake tag slowTicks retained) := fun _ _ _ => Row.of_none rfl
theorem Row.recordComplete : Row.Statement .recordComplete := Row.of_none rfl
theorem Row.odWrite : ∀ index sub value, Row.Statement (.odWrite index sub value) := fun _ _ _ => Row.of_none rfl
theorem Row.programData : ∀ data, Row.Statement (.programData data) := fun _ => Row.of_none rfl
theorem Row.seal : Row.Statement .seal := Row.of_none rfl
theorem Row.writeLock : ∀ r, Row.Statement (.writeLock r) := fun _ => Row.of_none rfl
theorem Row.readLock : ∀ r, Row.Statement (.readLock r) := fun _ => Row.of_none rfl
theorem Row.otpProgramComplete : ∀ readBack fuses, Row.Statement (.otpProgramComplete readBack fuses) := fun _ _ => Row.of_none rfl
theorem Row.fuseRepair : Row.Statement .fuseRepair := Row.of_none rfl
theorem Row.fuseRepairComplete : ∀ readBacks, Row.Statement (.fuseRepairComplete readBacks) := fun _ => Row.of_none rfl
theorem Row.init : ∀ n, Row.Statement (.init n) := fun _ => Row.of_none rfl
theorem Row.finalise : ∀ n, Row.Statement (.finalise n) := fun _ => Row.of_none rfl
theorem Row.dataIn : ∀ n v, Row.Statement (.dataIn n v) := fun _ _ => Row.of_none rfl
theorem Row.runningValueWrite : ∀ n v, Row.Statement (.runningValueWrite n v) := fun _ _ => Row.of_none rfl
theorem Row.freezeCommand : Row.Statement .freezeCommand := Row.of_none rfl
theorem Row.episodePostTriggerEnd : Row.Statement .episodePostTriggerEnd := Row.of_none rfl
theorem Row.exportSelect : ∀ e, Row.Statement (.exportSelect e) := fun _ => Row.of_none rfl
theorem Row.entrySelect : ∀ seq, Row.Statement (.entrySelect seq) := fun _ => Row.of_none rfl
theorem Row.meterWindowEnd : Row.Statement .meterWindowEnd := Row.of_none rfl
theorem Row.burstBudgetRefill : Row.Statement .burstBudgetRefill := Row.of_none rfl
theorem Row.nandPageWrite : Row.Statement .nandPageWrite := Row.of_none rfl
theorem Row.trunkCycleStart : Row.Statement .trunkCycleStart := Row.of_none rfl
theorem Row.trunkFrame : ∀ port bytes, Row.Statement (.trunkFrame port bytes) := fun port bytes => Row.of_one (n := 1518) rfl rfl (by decide)
theorem Row.stationWatchdogExpiry : ∀ a, Row.Statement (.stationWatchdogExpiry a) := fun _ => Row.of_none rfl
theorem Row.words : ∀ bytes, Row.Statement (.words bytes) := fun _ => Row.of_none rfl
theorem Row.keepalive : ∀ bytes, Row.Statement (.keepalive bytes) := fun _ => Row.of_none rfl
theorem Row.cascadeSourceTimeout : ∀ m, Row.Statement (.cascadeSourceTimeout m) := fun _ => Row.of_none rfl
theorem Row.ringLatencyMeasure : ∀ ns, Row.Statement (.ringLatencyMeasure ns) := fun _ => Row.of_none rfl
theorem Row.crossLinkTraining : ∀ ownNonce peerNonce answer, Row.Statement (.crossLinkTraining ownNonce peerNonce answer) := fun _ _ _ => Row.of_none rfl
theorem Row.crossLinkDown : ∀ badChecks, Row.Statement (.crossLinkDown badChecks) := fun _ => Row.of_none rfl
theorem Row.image : ∀ bytes, Row.Statement (.image bytes) := fun _ => Row.of_none rfl
theorem Row.result : ∀ bytes, Row.Statement (.result bytes) := fun _ => Row.of_none rfl
theorem Row.status : ∀ bytes, Row.Statement (.status bytes) := fun _ => Row.of_none rfl
theorem Row.fullImage : ∀ bytes, Row.Statement (.fullImage bytes) := fun _ => Row.of_none rfl
theorem Row.pairWords : ∀ bytes, Row.Statement (.pairWords bytes) := fun _ => Row.of_none rfl
theorem Row.controlHalt : ∀ via p wop, Row.Statement (.controlHalt via p wop) := fun _ _ _ => Row.of_none rfl
theorem Row.stepResume : ∀ via isResume fg fo, Row.Statement (.stepResume via isResume fg fo) := fun _ _ _ _ => Row.of_none rfl
theorem Row.controlSwatch : ∀ via id tLow, Row.Statement (.controlSwatch via id tLow) := fun _ _ _ => Row.of_none rfl
theorem Row.controlCommand : ∀ via code boundary, Row.Statement (.controlCommand via code boundary) := fun _ _ _ => Row.of_none rfl
theorem Row.controlPark : ∀ via t0 count1 count2 wakeDelay, Row.Statement (.controlPark via t0 count1 count2 wakeDelay) := fun _ _ _ _ _ => Row.of_none rfl
theorem Row.parkAnswer : ∀ via code, Row.Statement (.parkAnswer via code) := fun _ _ => Row.of_none rfl
theorem Row.abandonPark : ∀ via, Row.Statement (.abandonPark via) := fun _ => Row.of_none rfl
theorem Row.disagreement : ∀ via p seq, Row.Statement (.disagreement via p seq) := fun _ _ _ => Row.of_none rfl
theorem Row.resyncRequest : ∀ via, Row.Statement (.resyncRequest via) := fun _ => Row.of_none rfl
theorem Row.resyncStart : ∀ via ts, Row.Statement (.resyncStart via ts) := fun _ _ => Row.of_none rfl
theorem Row.ownBandChange : ∀ samples, Row.Statement (.ownBandChange samples) := fun _ => Row.of_none rfl
theorem Row.roleDecisionTimeout : Row.Statement .roleDecisionTimeout := Row.of_none rfl
theorem Row.tripPulled : ∀ samples, Row.Statement (.tripPulled samples) := fun _ => Row.of_none rfl
theorem Row.tripOpenWire : ∀ ua, Row.Statement (.tripOpenWire ua) := fun _ => Row.of_none rfl
theorem Row.auxContactUpdate : Row.Statement .auxContactUpdate := Row.of_none rfl
theorem Row.interruptionEnd : Row.Statement .interruptionEnd := Row.of_none rfl
theorem Row.tripPullEnd : Row.Statement .tripPullEnd := Row.of_none rfl
theorem Row.crossLinkRoundTrip : ∀ ns, Row.Statement (.crossLinkRoundTrip ns) := fun _ => Row.of_none rfl
theorem Row.syncSymbolSend : Row.Statement .syncSymbolSend := Row.of_none rfl
theorem Row.keepaliveSend : Row.Statement .keepaliveSend := Row.of_none rfl
theorem Row.statusSend : Row.Statement .statusSend := Row.of_none rfl
theorem Row.beatLatchLapse : Row.Statement .beatLatchLapse := Row.of_none rfl
theorem Row.portLinkChange : ∀ port up, Row.Statement (.portLinkChange port up) := fun _ _ => Row.of_none rfl
theorem Row.jtagSession : ∀ active, Row.Statement (.jtagSession active) := fun _ => Row.of_none rfl
theorem Row.sensorPulse : ∀ n lowSamples, Row.Statement (.sensorPulse n lowSamples) := fun _ _ => Row.of_none rfl
theorem Row.chatterClear : ∀ n, Row.Statement (.chatterClear n) := fun _ => Row.of_none rfl
theorem Row.sourceFaultClear : ∀ k, Row.Statement (.sourceFaultClear k) := fun _ => Row.of_none rfl
theorem Row.readbackChange : ∀ pins rails lf, Row.Statement (.readbackChange pins rails lf) := fun _ _ _ => Row.of_none rfl
theorem Row.healthReportRebuild : Row.Statement .healthReportRebuild := Row.of_none rfl
theorem Row.heldOnCommandApply : ∀ n, Row.Statement (.heldOnCommandApply n) := fun _ => Row.of_none rfl
theorem Row.railReadbackFault : ∀ g, Row.Statement (.railReadbackFault g) := fun _ => Row.of_none rfl

end Sys2Proof.Laws
end

