-- ==== Sys2Proof/Laws/Step.lean ====
section
/-! SUPPORT. What the operations of Machine/Step.lean leave alone: for each, every part of the state that it keeps. -/

namespace Sys2Proof.Machine

@[simp ↓] theorem State.idle_keeps (s : State) :
    (State.idle s).pwr = s.pwr ∧ (State.idle s).sup = s.sup ∧ (State.idle s).lot = s.lot ∧ (State.idle s).nmt = s.nmt ∧
    (State.idle s).sle.epoch = s.sle.epoch ∧ (State.idle s).sle.lfsr = s.sle.lfsr ∧ (State.idle s).sin = s.sin ∧
    (State.idle s).sout = s.sout ∧ (State.idle s).tmu = s.tmu ∧ (State.idle s).aaq = s.aaq ∧ (State.idle s).hpo.partner = s.hpo.partner ∧
    (State.idle s).trk = s.trk ∧ (State.idle s).otp = s.otp ∧ (State.idle s).bist = s.bist ∧ (State.idle s).cvus = s.cvus ∧
    (State.idle s).cpl = s.cpl ∧ (State.idle s).rcr = s.rcr ∧ (State.idle s).log = s.log ∧ (State.idle s).fresh = s.fresh ∧
    (State.idle s).pending = s.pending := by
  and_intros <;> (unfold State.idle; with_reducible rfl)

@[simp ↓] theorem State.push_keeps (s : State) (c : Instr) :
    (State.push s c).clk = s.clk ∧ (State.push s c).pwr = s.pwr ∧ (State.push s c).sup = s.sup ∧ (State.push s c).lot = s.lot ∧
    (State.push s c).nmt = s.nmt ∧ (State.push s c).sle = s.sle ∧ (State.push s c).sin = s.sin ∧ (State.push s c).sout = s.sout ∧
    (State.push s c).tmu = s.tmu ∧ (State.push s c).aaq = s.aaq ∧ (State.push s c).hpo = s.hpo ∧ (State.push s c).trk = s.trk ∧
    (State.push s c).otp = s.otp ∧ (State.push s c).bist = s.bist ∧ (State.push s c).cvus = s.cvus ∧ (State.push s c).cpl = s.cpl ∧
    (State.push s c).rcr = s.rcr ∧ (State.push s c).log = s.log ∧ (State.push s c).fresh = s.fresh := by
  and_intros <;> (unfold State.push; with_reducible rfl)

@[simp ↓] theorem State.withFetchWord_keeps (s : State) (nbits w : Nat) :
    (State.withFetchWord s nbits w).clk = s.clk ∧ (State.withFetchWord s nbits w).pwr = s.pwr ∧
    (State.withFetchWord s nbits w).sup = s.sup ∧ (State.withFetchWord s nbits w).lot = s.lot ∧
    (State.withFetchWord s nbits w).nmt = s.nmt ∧ (State.withFetchWord s nbits w).sle = s.sle ∧
    (State.withFetchWord s nbits w).sin = s.sin ∧ (State.withFetchWord s nbits w).sout = s.sout ∧
    (State.withFetchWord s nbits w).tmu = s.tmu ∧ (State.withFetchWord s nbits w).aaq = s.aaq ∧
    (State.withFetchWord s nbits w).hpo = s.hpo ∧ (State.withFetchWord s nbits w).trk = s.trk ∧
    (State.withFetchWord s nbits w).otp = s.otp ∧ (State.withFetchWord s nbits w).bist = s.bist ∧
    (State.withFetchWord s nbits w).cvus = s.cvus ∧ (State.withFetchWord s nbits w).cpl = s.cpl ∧
    (State.withFetchWord s nbits w).rcr = s.rcr ∧ (State.withFetchWord s nbits w).log = s.log ∧
    (State.withFetchWord s nbits w).fresh = s.fresh := by
  and_intros <;> (unfold State.withFetchWord; first | (with_reducible rfl) | (simp; done) | (repeat' (first | (simp; done) | split)))

end Sys2Proof.Machine
end

