-- ==== Sys2Proof/Tests/Slice0.lean ====
section
/-! SUPPORT. Small runs of single commands: for the statements of Certificates/Slice0, states and operands that meet their
hypotheses, with what the command then does; the check of an ill-formed command. Expected values come from the tables and rules of
spec/ that the comments name. -/

namespace Sys2Proof.Tests

open Sys2Proof Sys2Proof.Machine

set_option maxRecDepth 8000
set_option Elab.async false

/-! ### States for the tests -/

/-- The state after a command. -/
def after (i : Instr) (s : State) : State :=
  match exec i s with
  | .next t => t
  | _ => s

/-- The state after a step. -/
def stepped (s : State) : State :=
  match step s with
  | .next t => t
  | _ => s

/-- A byte string given by pieces at rising offsets, 0 elsewhere. -/
def bytesOf (ps : List (Nat × List Byte)) : List Byte :=
  ps.foldl (fun a e => a ++ List.replicate (e.1 - a.length) 0 ++ e.2) []

/-- A WOP as Table: WOP fields lays it out; operands are (address, rotation, inversion). -/
def wopBytes (cls lut a b c d dest mask aux tag : Nat) : List Byte :=
  leBytes 16 (cls * 2 ^ 124 + lut * 2 ^ 108 + a * 2 ^ 89 + b * 2 ^ 70 + c * 2 ^ 51 + d * 2 ^ 32 + dest * 2 ^ 21 + mask * 2 ^ 14
    + aux * 2 ^ 8 + tag)
def opndBits (addr rot inv : Nat) : Nat := addr * 256 + rot * 2 + inv

/-- A binding entry: type, parameter, partner. -/
def bindBytes (type param : Nat) : List Byte := [BitVec.ofNat 8 type, BitVec.ofNat 8 param] ++ List.replicate 30 0

/-- A program of one WOP of each class over the words 16 (input) and 17 to 20. -/
def program : List Byte :=
  wopBytes 0 0x8888 (opndBits 16 0 0) (opndBits 17 0 0) 0 0 18 0 0 0 ++
  wopBytes 1 0x55AA (opndBits 16 0 0) 0 0 0 18 0 0 0 ++
  wopBytes 2 0xAAAA (opndBits 16 0 0) 0 0 0 19 0 0 0 ++
  wopBytes 3 0xAAAA (opndBits 16 0 0) 0 0 0 18 0 0 0 ++
  wopBytes 4 0xAAAA (opndBits 16 0 0) 0 0 0 18 0 0 0 ++
  wopBytes 5 0xAAAA (opndBits 16 0 0) 0 0 0 18 0 0 0 ++
  wopBytes 6 0 0 0 0 0 0 0 0 0 ++
  wopBytes 7 0 0 0 0 0 0 0 0 0

/-- A lot of one partition with a period of 500 us, its mask entry 0 of lane 0 and 1, words 16 HOST-IN slot 0, 17 to 20 WORK. -/
def lotOf (more : List (Nat × List Byte)) : Lot :=
  { hdr := bytesOf [(8, leBytes 8 7), (47, [1])], digest := [0x12, 0x34, 0x56, 0x78],
    secs := ⟨more ++ [(1, program), (2, leBytes 16 3), (3, bytesOf [(512, bindBytes 5 0 ++ bindBytes 7 0 ++ bindBytes 7 0 ++ bindBytes 7 0 ++ bindBytes 6 0)]),
      (4, [1, 0] ++ leBytes 2 0 ++ leBytes 4 8 ++ leBytes 2 100 ++ leBytes 2 0 ++ leBytes 4 0)]⟩ }

/-- Domains that are ON. -/
def onDoms (ds : List Nat) : Tab Dom := ⟨ds.map (fun d => (d, { state := .on }))⟩
def allDoms : Tab Dom := onDoms [0, 1, 2, 3, 4, 5, 6, 7, 8, 9]

/-- A module in a state with every domain ON, the time base at 1,000,000 ticks, 2,000,000 ticks of real time. -/
def base (m : Mode) : State :=
  { clk := { real := 2000000, now := 1000000, running := true },
    pwr := { doms := allDoms, mains := .normal, present := true, us := .on, bulkV := 400 },
    sup := { mode := m, rcRef := 1000000 } }

/-- The same with a lot and an epoch at tick 0. -/
def running (m : Mode) (l : Lot) : State :=
  let s := base m
  { s with lot := { s.lot with active := some l }, sle := { s.sle with epoch := some 0 }, sup := { s.sup with driveRemoved := false } }

/-- Block b is the same in both states. -/
def sameB (s t : State) (b : Block) : Bool :=
  match b with
  | .clk => decide (t.clk = s.clk)
  | .pwr => decide (t.pwr = s.pwr)
  | .sup => decide (t.sup = s.sup)
  | .lot => decide (t.lot = s.lot)
  | .nmt => decide (t.nmt = s.nmt)
  | .sle => decide (t.sle = s.sle)
  | .sin => decide (t.sin = s.sin)
  | .sout => decide (t.sout = s.sout)
  | .tmu => decide (t.tmu = s.tmu)
  | .aaq => decide (t.aaq = s.aaq)
  | .hpo => decide (t.hpo = s.hpo)
  | .trk => decide (t.trk = s.trk)
  | .otp => decide (t.otp = s.otp)
  | .bist => decide (t.bist = s.bist)
  | .cvus => decide (t.cvus = s.cvus)
  | .cpl => decide (t.cpl = s.cpl)
  | .rcr => decide (t.rcr = s.rcr)
  | .log => decide (t.log = s.log)
  | .fresh => decide (t.fresh = s.fresh)
  | .pending => decide (t.pending = s.pending)

/-- Nothing outside the named blocks differs. -/
def only (bs : List Block) (s t : State) : Bool :=
  [Block.clk, .pwr, .sup, .lot, .nmt, .sle, .sin, .sout, .tmu, .aaq, .hpo, .trk, .otp, .bist, .cvus, .cpl, .rcr, .log, .fresh,
    .pending].all (fun b => decide (b ∈ bs) || sameB s t b)

/-- Every output switch is off. -/
def dark (t : State) : Bool := (List.range 16).all (fun n => ! t.switchOn t.cplRole n)

/-- Safe Halt with first cause c and every output off. -/
def haltedB (c : Nat) (t : State) : Bool :=
  decide (t.sup.mode = .safeHalt ∧ t.sup.firstCause = some c ∧ t.sup.causes = BitVec.ofNat 32 (2 ^ c) ∧ t.sup.driveRemoved = true ∧
    t.sle.cur = none) && dark t

/-- The answer DONE, an abort. -/
def done (t : State) : Bool := decide (t.hpo.reply = some .done)
def aborts (k : Nat) (t : State) : Bool := decide (t.hpo.reply = some (.abort k))

/-- Straps of address 8 (side B, member 0) and role 0. -/
def strapsOk : Straps := ⟨544, 0⟩

/-- A fuse array of which regions 0 and 1 are written and good. -/
def fusesOk : Tab OtpWord := ⟨(List.range 64).map (fun a => (a, .holding 5))⟩

/-- A reading of a word that holds d; one with two wrong bits, which the code cannot correct. -/
def goodRead (d : Nat) : WordRead := ⟨otpFuses d, otpFuses d, otpFuses d⟩
def badRead : WordRead := ⟨otpFuses 5 ^^^ 3, otpFuses 5 ^^^ 3, otpFuses 5 ^^^ 3⟩

/-- What Boot reads: every word and fuse as it stands, 3.3 V, address 8 and role 0. -/
def bootOk : BootRead := ⟨⟨[], []⟩, 3300, strapsOk⟩

theorem test_front : stepped { State.reset with pending := [.init 3, .halt] } = after (.init 3) { State.reset with pending := [.halt] } := by
  decide +kernel
theorem test_idle : stepped (base .run) = { base .run with clk := { (base .run).clk with real := 2000001, now := 1000001 } } := by
  decide +kernel
theorem test_invariants : State.reset.otpPending ∧ State.reset.haltSafe ∧ State.reset.parkedFromOk ∧ State.reset.memWf = true := by
  refine ⟨fun a d h => by simp [State.reset] at h, fun h => by simp [State.reset] at h, .inl rfl, by decide +kernel⟩
/-- What Boot reads on a module of address 8, with regions 0 and 1 as they stand or unwritten. -/
def badStraps : BootRead := { bootOk with straps := ⟨100, 0⟩ }
def badOtp : BootRead := { bootOk with otp := ⟨[(3, badRead)], []⟩ }
def lowRail : BootRead := { bootOk with aonMv := 3099 }
/-- R32, R60, R66: POWER_ON starts Boot. -/
theorem test_power_on : (strapDecode strapsOk).addr = some 8 ∧ (State.reset.bootOtp bootOk.otp).otpDelivered = true ∧
    (let t := after (.powerOn ⟨80, false⟩ 3300 bootOk) State.reset
     t.sup.mode = .boot ∧ t.sup.bistRunning = true ∧ t.sup.bootCount = 1 ∧ t.domOn 8 = true ∧ t.clk.running = true) ∧
    after (.powerOn ⟨79, false⟩ 3300 bootOk) State.reset = State.reset := by decide +kernel
theorem test_pfs_restart : (let s := { State.reset with sup := { State.reset.sup with pfsOrder := 3 } }
    (after (.pfsRestart ⟨110, true⟩ bootOk) s).sup.mode = .boot ∧ after (.powerOn ⟨230, false⟩ 3300 bootOk) s = s) := by decide +kernel
theorem test_nrst : (after (.nrst 10000 bootOk) (base .run)).sup.mode = .boot ∧ after (.nrst 999 bootOk) (base .run) = base .run := by
  decide +kernel
theorem test_reset : (base .unconfigured).hasBoundary = false ∧ (after (.reset bootOk) (base .unconfigured)).sup.mode = .boot := by
  decide +kernel
theorem test_boot_stops : haltedB 7 (after (.nrst 10000 badStraps) (base .run)) = true ∧
    haltedB 12 (after (.nrst 10000 badOtp) (base .run)) = true ∧ haltedB 8 (after (.nrst 10000 lowRail) (base .run)) = true ∧
    (let t := after (.nrst 10000 lowRail) (base .run); (List.range 10).all (fun d => ! t.domOn d)) = true := by decide +kernel
def strapped : State := { base .run with sup := { (base .run).sup with straps := strapDecode strapsOk, strapBad := 1 } }
theorem test_straps : (after (.strapReread strapsOk) strapped).sup.strapBad = 0 ∧ haltedB 7 (after (.strapReread ⟨100, 0⟩) strapped) = true ∧
    (after (.strapReread ⟨100, 0⟩) { strapped with sup := { strapped.sup with strapBad := 0 } }).sup.strapBad = 1 := by decide +kernel
def inBist : State := { base .boot with sup := { (base .boot).sup with bistRunning := true } }
def bistFound : StartUpFindings := ⟨[], 0, 0, 0, true, 250000⟩
theorem test_bist_ends : inBist.unitsUp = true ∧ (let t := after (.startUpBistComplete 0 1000000 32768 bistFound ⟨[], []⟩) inBist
     t.sup.mode = .unconfigured ∧ t.sle.lfsr = 1 ∧ t.pwr.us = .on ∧ t.sup.rcRef = 1000000) ∧
    (let t := after (.startUpBistComplete 0 1000000 32768 bistFound ⟨[], []⟩) { inBist with lot := { inBist.lot with stored := [1] } }
     t.sup.mode = .validating ∧ t.lot.fromStored = true ∧ t.lot.step = 1) ∧
    haltedB 5 (after (.startUpBistComplete 5 1000000 32768 { bistFound with outputsOff := false } ⟨[], []⟩) inBist) = true ∧
    haltedB 5 (after (.startUpBistComplete 5 899999 32768 bistFound ⟨[], []⟩) inBist) = true := by decide +kernel
/-- A module in Run with its power block changed. -/
def powered (f : Pwr → Pwr) : State := { base .run with pwr := f (base .run).pwr }
/-- R33, R34: the mains states. -/
theorem test_interruption : (let t := after (.interruption ⟨69, false⟩ 120) (base .run)
    t.pwr.present = false ∧ t.pwr.mains = .interrupted ∧ t.pwr.preP = 120 ∧ t.pwr.interruptions = 1 ∧ only [.pwr, .log, .hpo] (base .run) t ∧
    after (.interruption ⟨70, false⟩ 120) (base .run) = base .run) := by
  decide +kernel
theorem test_interruption_end : (let s := powered (fun p => { p with mains := .interrupted, interr := true, backAt := 1850000 })
    let t := after .interruptionEnd s
    t.pwr.mains = .normal ∧ t.pwr.interr = false ∧ t.log.seq = 1 ∧ only [.pwr, .log, .hpo] s t) := by decide +kernel
theorem test_pfw : (let t := after (.pfw 329) (base .run)
    t.pwr.mains = .pfw ∧ t.pwr.bulkV = 329 ∧ after (.pfw 330) (base .run) = base .run) := by decide +kernel
theorem test_pfw_clear : (let s := powered (fun p => { p with mains := .pfw })
    (after (.pfwClear 360) s).pwr.mains = .normal ∧ after (.pfwClear 359) s = s ∧
    (after (.pfwClear 360) (powered (fun p => { p with mains := .pfw, interr := true, backAt := 1850001 }))).pwr.mains = .interrupted) := by decide +kernel
theorem test_mains_return : (let s := powered (fun p => { p with mains := .pfw, present := false })
    (after (.mainsReturn ⟨80, false⟩) s).pwr.present = true ∧ after (.mainsReturn ⟨79, false⟩) s = s ∧ after (.mainsReturn ⟨109, true⟩) s = s) := by
  decide +kernel
theorem test_us_off : after .usOverloadOff (base .run) = base .run ∧
    (let s := powered (fun p => { p with us := .limit, usSince := 0 })
     after .usOverloadOff s = s ∧ (after .usOverloadOff { s with clk := { s.clk with real := 5000000 } }).pwr.us = .retryWait) := by decide +kernel
theorem test_us_retry : (let s := powered (fun p => { p with us := .retryWait, usSince := 0 })
    let r := powered (fun p => { p with us := .retryWait })
    (after .usRetry { r with clk := { r.clk with real := 100000000 } }).pwr.us = .on ∧
    (after .usRetry { s with clk := { s.clk with real := 99999999 } }).pwr.us = .retryWait) := by decide +kernel
/-- R35, R36: the power-fail order. -/
theorem test_pfs : (let t := after (.pfs 249) (running .run (lotOf []))
    t.sup.pfsOrder = 1 ∧ t.sup.mode = .run ∧ t.pwr.mains = .pfs ∧ t.pwr.us = .off ∧ t.sle.epoch = none ∧ t.sup.driveRemoved = true ∧
    dark t = true ∧ t.lot = (running .run (lotOf [])).lot ∧ after (.pfs 250) (base .run) = base .run) := by decide +kernel
def pfsAt (n : Nat) : State := { base .run with sup := { (base .run).sup with pfsOrder := n } }
theorem test_flush : (let t := after .stagingFlushComplete (pfsAt 1)
    t.sup.pfsOrder = 2 ∧ t.rcr.total = t.rcr.written ∧ only [.sup, .rcr, .hpo] (pfsAt 1) t) := by decide +kernel
theorem test_domains_off : (let t := after .domainsOff (pfsAt 2)
    t.sup.mode = .off ∧ t.sup.pfsOrder = 3 ∧ t.domOn 3 = false ∧ t.otp.words = (pfsAt 2).otp.words) := by decide +kernel
theorem test_aon_loss : (let t := after (.aonLoss 99) (pfsAt 3)
    t.sup.mode = .off ∧ t.sup.pfsOrder = 0 ∧ t.pwr.aonMv = 0 ∧ after (.aonLoss 100) (pfsAt 3) = pfsAt 3) := by decide +kernel
/-- R26 to R31: rails and their restart. -/
theorem test_aon_rail : haltedB 8 (after (.aonRailFault 3099) (base .run)) = true ∧ haltedB 8 (after (.aonRailFault 3501) (base .run)) = true ∧
    (after (.aonRailFault 3100) (base .run)).sup.mode = .run := by decide +kernel
theorem test_rail_fault : (let s := base .run
    let t := after (.railFault 4 false) s
    let u := after (.railFault 0 true) s
    s.restartsOnce 4 = true ∧ s.restartsOnce 0 = false ∧ haltedB 9 u = true ∧ (u.dom 0).state = .fault ∧ (u.dom 0).faults = 1 ∧
    haltedB 11 (after (.railFault 0 false) s) = true ∧ haltedB 11 (after (.railFault 8 false) s) = true ∧
    (t.dom 4).state = .fault ∧ (t.dom 4).restartAt = some 2000000 ∧ (t.dom 5).state = .on ∧ t.sup = s.sup ∧
    only [.pwr, .hpo, .trk, .cpl, .rcr, .log] s t) := by decide +kernel
theorem test_domain_restart : (let s := after (.railFault 4 false) (base .run)
    let u := { s with clk := { s.clk with real := 7000000 } }
    (after (.domainRestart 4) u).dom 4 = { s.dom 4 with state := .on } ∧ after (.domainRestart 4) s = s ∧
    (after (.railFault 4 false) (after (.domainRestart 4) u)).dom 4 = { s.dom 4 with state := .locked, faults := 2, restartAt := some 7000000 }) := by
  decide +kernel
def slack (sp m : Nat) : Nat := (after .trimWindow (powered (fun p => { p with setpoint := sp, winSlack := some (m, 1000) }))).pwr.setpoint
/-- R41, R42: the trim. -/
theorem test_trim : slack 900 199 = 980 ∧ slack 900 200 = 910 ∧ slack 900 349 = 910 ∧ slack 900 350 = 900 ∧ slack 900 500 = 900 ∧
    slack 900 501 = 890 ∧ slack 825 501 = 820 ∧ slack 975 300 = 980 ∧
    (after .trimWindow (powered (fun p => { p with setpoint := 900, winSlack := some (600, 1000), trimFixed := true }))).pwr.setpoint = 980 := by
  decide +kernel
/-- A production lot (byte 47 bit 0), and one that is not. -/
def lotP : Lot := lotOf []
def lotN : Lot := { lotP with hdr := bytesOf [(8, leBytes 8 7)] }
def refusedB (k : Nat) (i : Instr) (s : State) : Bool := decide (after i s = s.refuse k)
/-- Table: State transitions (R60, R63): commands in other states. -/
theorem test_commands_refused : refusedB 0x0F000201 .configure (base .run) = true ∧ refusedB 0x0F000201 .validate (base .run) = true ∧
    refusedB 0x0F000201 .discard (base .unconfigured) = true ∧ refusedB 0x0F000201 .restore (base .run) = true ∧
    refusedB 0x0F000201 .run (base .run) = true ∧ refusedB 0x0F000201 .commission (base .commissioning) = true ∧
    refusedB 0x0F000201 (.park 1 1) (base .replay) = true ∧ refusedB 0x0F000201 .replay (base .run) = true ∧
    refusedB 0x0F000201 .endReplay (base .run) = true ∧ refusedB 0x0F000201 (.reset bootOk) (base .run) = true ∧
    refusedB 0x0F000201 .leaveHalt (base .run) = true ∧ refusedB 0x0F000208 .restore (base .unconfigured) = true := by decide +kernel
theorem test_run_refused : (let s := running .commissioning lotP
    refusedB 0x0F000204 .run { s with sup := { s.sup with jtag := true } } = true ∧
    refusedB 0x0F000207 .run (running .commissioning lotN) = true) := by decide +kernel
/-- Outputs on: output 0 in SAFETY mode, commanded, its group closed. -/
def lotOut : Lot := lotOf [(5, bytesOf [(0x410, [1]), (0x510, [1])])]
def outOn (m : Mode) : State :=
  let s := running m lotOut
  { s with sout := { s.sout with grps := ⟨[(0, { state := .closed, latch := false, cause := 0, good := true, railClosed := true })]⟩,
                                 w8 := 1, w8q := 0 } }
theorem test_configure_on : (outOn .commissioning).anyOn = true ∧ refusedB 0x0F000203 .configure (outOn .commissioning) = true := by
  decide +kernel
/-- R63: while partitions are released a command waits. -/
def waits (c : PendCmd) (i : Instr) (s : State) : Bool :=
  s.hasBoundary && decide (s.cmdRefusal c = none) && decide (after i s = { s with sup := { s.sup with cmd := some c } })
theorem test_commands_wait :
    waits { cmd := .configure, tag := none } .configure (running .commissioning lotP) = true ∧
    waits { cmd := .run, tag := none } .run (running .commissioning lotP) = true ∧
    waits { cmd := .commission, tag := none } .commission (running .run lotP) = true ∧
    waits { cmd := .park, tag := none, count1 := 6250000, count2 := 6250000 } (.park 6250000 6250000) (running .run lotP) = true ∧
    waits { cmd := .endReplay, tag := none } .endReplay (running .replay lotP) = true ∧
    waits { cmd := .halt, tag := none } .halt (running .run lotP) = true ∧
    waits { cmd := .reset, tag := none, boot := bootOk } (.reset bootOk) (running .commissioning lotP) = true := by decide +kernel
def withEpisode (s : State) : State :=
  { s with rcr := { s.rcr with episodes := ⟨[(0, { state := 1, lotId := 7, sha := lotP.digest })]⟩ } }
theorem test_replay_waits : (let s := withEpisode (running .commissioning lotP)
    let c : PendCmd := { cmd := .replay, tag := none }
    s.cmdRefusal c = none ∧ after .replay s = { s with sup := { s.sup with cmd := some c, pend := .replay } }) := by decide +kernel
/-- R62: the commands that take effect at once. -/
theorem test_configure : (let s := base .unconfigured
    let t := after .configure s
    t.sup.mode = .configuring ∧ done t = true ∧ only [.sup, .lot, .hpo, .rcr] s t) := by decide +kernel
def configuring : State := { base .configuring with lot := { (base .configuring).lot with image := [1, 2], stored := [3] } }
theorem test_validate : (let t := after .validate configuring
    t.sup.mode = .validating ∧ t.lot.step = 1 ∧ t.lot.fromStored = false ∧ t.lot.image = [1, 2] ∧ done t = true) := by decide +kernel
theorem test_restore : (let t := after .restore configuring
    t.sup.mode = .validating ∧ t.lot.step = 1 ∧ t.lot.fromStored = true ∧ t.lot.image = [] ∧ done t = true) := by decide +kernel
theorem test_discard : (let t := after .discard configuring
    t.sup.mode = .unconfigured ∧ t.lot.image = [] ∧ t.lot.stored = [3] ∧ done t = true) := by decide +kernel

/-! Acceptance (R74, R75) -/

def judging (fromStored : Bool) : State :=
  { base .validating with lot := { (base .validating).lot with image := [1, 2], stored := [3], step := 1, fromStored := fromStored } }
theorem test_acceptance_refuses : (let s := judging false
    let t := after (.acceptanceComplete []) s
    let u := after (.acceptanceComplete []) (judging true)
    acceptAll s.lot.image (s.acceptEnv (Lot.ofImage s.lot.image)) [] = some (0, 0x0F000100, 0) ∧
    t.sup.mode = .configuring ∧ t.lot.refusal = 0x0F000100 ∧ t.lot.image = [] ∧ t.lot.stored = [3] ∧
    u.sup.mode = .unconfigured ∧ u.lot.refusal = 0x0F000100 ∧ u.lot.storedInvalid = true ∧ u.lot.stored = [3]) := by decide +kernel
def confirming (wrong : Nat) : State :=
  { base .validating with lot := { (base .validating).lot with image := [1, 2], step := 7, loaded := some lotP, wrong := wrong } }
theorem test_confirmation : lotP.fingerprint = 0x12345678 ∧
    (let t := after (.confirmation 0x12345678) (confirming 1)
     t.sup.mode = .commissioning ∧ t.sup.resume = 5 ∧ t.lot.active = some lotP ∧ t.lot.stored = [1, 2] ∧ t.sup.driveRemoved = false ∧
     t.sle.epoch = some (nextEpoch 1000000) ∧ dark t = true) ∧
    (let t := after (.confirmation 0x78563412) (confirming 1)
     t.lot.wrong = 2 ∧ t.lot.refusal = 0x0F000161 ∧ aborts 0x0F000161 t = true ∧ only [.lot, .log, .hpo] (confirming 1) t) ∧
    (let t := after (.confirmation 0x78563412) (confirming 2)
     t.sup.mode = .configuring ∧ t.lot.refusal = 0x0F000162 ∧ t.lot.loaded = none ∧ aborts 0x0F000162 t = true) := by decide +kernel
theorem test_confirmation_timeout : (let s := confirming 0
    let u := { s with clk := { s.clk with real := 600 * 50000000 } }
    (after .confirmationTimeout u).sup.mode = .configuring ∧ (after .confirmationTimeout u).lot.refusal = 0x0F000163 ∧
    after .confirmationTimeout s = s) := by decide +kernel

/-! Commands that take effect (R52, R60, R64, R79) -/

/-- A state without a boundary to wait for. -/
def still (s : State) : State := { s with sle := { s.sle with epoch := none } }
def lotG : Lot := lotOf [(5, bytesOf [(0x410, [1]), (0x510, [1])]), (10, leBytes 2 0 ++ leBytes 2 1 ++ leBytes 2 0 ++ leBytes 2 10)]
def starts (m : Mode) (s t : State) : Bool :=
  decide (t.sup.mode = m ∧ t.sup.driveRemoved = false ∧ t.sup.wdRunning = false ∧ (t.grp 0).latch = true ∧ (t.grp 0).cause = 1 ∧
    (t.grp 0).state = .cutOff) && done t && only [.sup, .sout, .rcr, .hpo, .pwr] s t
theorem test_run : (let s := still (running .commissioning lotG)
    let w := { running .commissioning lotG with sup := { (running .commissioning lotG).sup with cmd := some { cmd := .run, tag := none } } }
    s.hasBoundary = false ∧ s.cmdRefusal { cmd := .run, tag := none } = none ∧
    starts .run s (after .run s) = true ∧ (after .run s).sup.resume = 6 ∧ starts .run w w.applyWaiting = true ∧
    starts .commissioning (still (running .run lotG)) (after .commission (still (running .run lotG))) = true) := by decide +kernel
theorem test_park : (let s := still (running .run lotP)
    let t := after (.park 6250001 6250000) s
    s.parkGroup = [] ∧ t.sup.pend = .parked 1000000 ∧ t.clk.rho = 12500001 * 2 ^ 32 / 8192 ∧ done t = true ∧ only [.sup, .clk, .hpo] s t) := by
  decide +kernel
theorem test_halt : haltedB 0 (after .halt (still (running .run lotP))) = true ∧
    haltedB 0 (({ running .run lotP with sup := { (running .run lotP).sup with cmd := some { cmd := .halt, tag := none } } } : State).applyWaiting)
      = true := by decide +kernel
theorem test_configure_from_commissioning : (let t := after .configure (still (running .commissioning lotP))
    t.sup.mode = .configuring ∧ t.lot.active = some lotP ∧ t.released = false ∧ dark t = true ∧ done t = true) := by decide +kernel
theorem test_replay : (let t := after .replay (still (withEpisode (running .commissioning lotP)))
    t.sup.mode = .replay ∧ t.sup.wdRunning = false ∧ dark t = true ∧ done t = true ∧ t.lot.active = some lotP) := by decide +kernel
theorem test_end_replay : (let t := after .endReplay (still (running .replay lotP))
    t.sup.mode = .commissioning ∧ t.sle.epoch = some (nextEpoch 1000000) ∧ t.rcr.replay.progress = 0 ∧ dark t = true ∧ done t = true) := by
  decide +kernel
/-- Safe Halt with these causes. -/
def haltedIn (causes : BitVec 32) (first : Nat) (s : State) : State :=
  { s with sup := { s.sup with mode := .safeHalt, firstCause := some first, causes := causes, driveRemoved := true, haltFrom := some s.sup.mode },
           sle := { s.sle with epoch := none } }
/-- R80 to R82. -/
theorem test_halt_again : (let s := haltedIn 8 3 (base .run)
    let t := after .halt s
    s.sameInstant = false ∧ t.sup.mode = .safeHalt ∧ t.sup.causes = 9 ∧ t.sup.firstCause = some 3 ∧ only [.sup, .log, .hpo, .rcr] s t) := by
  decide +kernel
theorem test_leave_halt_refused :
    (let s := haltedIn 0x20 5 (base .run); after .leaveHalt s = s.refuse 0x0F000205) ∧
    (let s := haltedIn 0x400 10 { base .run with pwr := { (base .run).pwr with t1 := 1201 } }
     s.causeCleared 10 = false ∧ after .leaveHalt s = s.refuse 0x0F000206) := by decide +kernel
theorem test_leave_halt : (let s := haltedIn 8 3 (running .run (lotOf []))
    let t := after .leaveHalt s
    t.sup.pend = .armed (2000000 + 30 * 50000000) ∧ done t = true ∧ only [.sup, .log, .hpo] s t) ∧
    (let t := after .leaveHalt (haltedIn 8 3 (base .run))
     t.sup.mode = .boot ∧ t.sup.bistRunning = true ∧ t.sup.firstCause = none ∧ t.sup.causes = 0 ∧ done t = true) := by decide +kernel
theorem test_arm_expiry : (let s := haltedIn 8 3 (base .run)
    let a (u : Nat) : State := { s with sup := { s.sup with pend := .armed u } }
    (after .haltReleaseArmExpiry (a 2000000)).sup.pend = .none ∧ (after .haltReleaseArmExpiry (a 2000001)).sup.pend = .armed 2000001) := by
  decide +kernel

/-! Parked (R52 to R56) -/

def lotW : Lot := lotOf [(5, bytesOf [(11, [1])])]
def entering : State :=
  let s := running .run (lotOf [(3, [])])
  { s with sup := { s.sup with pend := .parked 0, wakeDelay := 5 }, clk := { s.clk with now := 12500000 } }
theorem test_parked_entry : (let t := after .parkedEntry entering
    t.sup.mode = .parked ∧ t.sup.pend = .none ∧ t.sup.parkedFrom = some .run ∧ t.sup.parkedLot = 7 ∧ t.sup.wakeDelayAtStop = 5 ∧
    t.clk.running = false ∧ t.clk.parkStop = 12500000 ∧ t.sle.epoch = none ∧ t.lot = entering.lot ∧ t.sup.driveRemoved = true) ∧
    (let s := { entering with clk := { entering.clk with now := 12499999 } }; after .parkedEntry s = s) := by decide +kernel
/-- A stored image with the lot ID 7, the 9 required sections without content, and their CRCs (R69 to R71). -/
def dirOf (ids : List Nat) : List Byte :=
  ids.flatMap (fun i => leBytes 2 i ++ [0, 0] ++ leBytes 4 272 ++ leBytes 4 0 ++ leBytes 4 (crc32 (leBytes 2 i)).toNat)
def storedImage : List Byte := bytesOf [(8, leBytes 8 7), (40, leBytes 2 9), (48, leBytes 4 432), (128, dirOf lotRequired), (432, [])]
/-- Parked from Run with a lot that has wake input 0, HST on and NOD in RETAIN, a ratio of 1,525. -/
def parked : State :=
  let s := running .parked (lotOf [(3, []), (5, bytesOf [(0, [3]), (11, [1])])])
  { s with
    sup := { s.sup with parkedFrom := some .run, parkedLot := 7, wakeDelayAtStop := 2, resume := 6, driveRemoved := true },
    clk := { s.clk with running := false, parkStop := 500000, rho := 1525 * 2 ^ 32 },
    pwr := { s.pwr with doms := ⟨[(1, { state := .retain }), (3, { state := .on })]⟩ },
    lot := { s.lot with stored := storedImage },
    hpo := { s.hpo with linkA := true },
    sle := { s.sle with epoch := none } }
theorem test_reloads : parked.lotReloads = true ∧ parked.lotD.chWake 0 = true ∧ parked.parkedFromOk :=
  ⟨by decide +kernel, by decide +kernel, .inr (.inr rfl)⟩
theorem test_wakes :
    (let t := after (.wakeDelayExpiry 65536 true) parked
     t.sup.mode = .run ∧ t.clk.running = true ∧ t.clk.now = 500000 + 65536 * 1525 ∧ t.sle.epoch = some (nextEpoch t.clk.now) ∧
     t.domOn 0 = true ∧ t.domOn 8 = true ∧ dark t = true) ∧
    after (.wakeDelayExpiry 65535 true) parked = parked ∧
    (after (.wakeInputChange 0 24000 10501 10 true) parked).sup.mode = .run ∧ after (.wakeInputChange 0 24000 5999 10 true) parked = parked ∧
    after (.wakeInputChange 1 24000 24000 10 true) parked = parked ∧ (after (.wake 7 10 true) parked).sup.mode = .run := by decide +kernel
theorem test_wake_fails : haltedB 13 (after (.wake 7 10 false) parked) = true ∧
    haltedB 13 (after (.wakeInputChange 0 24000 24000 10 false) parked) = true ∧
    (let s := { parked with sup := { parked.sup with parkedLot := 8 } }
     s.lotReloads = false ∧ s.hostReach = true ∧ haltedB 13 (after (.wakeDelayExpiry 65536 true) s) = true ∧ (after (.wake 7 10 true) s).lot.active = none) := by
  decide +kernel
theorem test_parked_halt : parked.parkedRailOk 1 = true ∧ (let t := after (.parkedHalt 11 1 10) parked
    haltedB 11 t = true ∧ t.clk.running = true ∧ (t.dom 1).state = .fault ∧ (t.dom 1).faults = 1 ∧ t.domOn 0 = true) ∧
    haltedB 8 (after (.parkedHalt 8 1 10) parked) = true ∧ (after (.parkedHalt 8 1 10) parked).lot = parked.lot := by decide +kernel
/-- WOP i of the program is next in the ground pass of partition 0, lane 0 of words 16 and 17 on. -/
def atWop (i : Nat) : State :=
  let s := running .commissioning (lotOf [(6, leBytes 4 100)])
  { s with
    sle := { s.sle with tmG := ⟨[(0, ⟨50, true⟩)]⟩, cur := some 0, parts := ⟨[(0, { phase := .passes, gi := i, stamp := 1000000, prev := some 990000 })]⟩ },
    nmt := { s.nmt with comG := ⟨[(17, ⟨1, 0, 0⟩)]⟩, planeG := ⟨[(16, ⟨3, 0, 0⟩), (17, ⟨1, 0, 0⟩)]⟩ } }
/-- Lanes 0 and 1 of word v after WOP i. -/
def lanes (i : Instr) (s : State) (v : Nat) : List Bool := [(((after i s).curWord 0 .ground v).val.getLsbD 0), (((after i s).curWord 0 .ground v).val.getLsbD 1)]
/-- R106: LUT 0x8888 is A and B: lane 0 has both, lane 1 A alone. -/
theorem test_lut : (atWop 0).groundNext 0 0 ((atWop 0).lotD.wop 0) ∧ lanes (.lut ⟨.clean, 0⟩) (atWop 0) 18 = [true, false] ∧
    ((after (.lut ⟨.clean, 0⟩) (atWop 0)).part 0).gi = 1 ∧ only [.sle] (atWop 0) (after (.lut ⟨.clean, 0⟩) (atWop 0)) = true := by
  unfold State.groundNext; decide +kernel
/-- R106: LATCH, set where A, reset where not A. -/
theorem test_latch : (atWop 1).groundNext 0 1 ((atWop 1).lotD.wop 1) ∧ lanes (.latch ⟨.clean, 0⟩) (atWop 1) 18 = [true, true] := by
  unfold State.groundNext; decide +kernel
/-- R111: EDGE: the rising edge, and the input in the next word. -/
theorem test_edge : (atWop 2).groundNext 0 2 ((atWop 2).lotD.wop 2) ∧ lanes (.edge ⟨.clean, 0⟩) (atWop 2) 19 = [true, true] ∧
    lanes (.edge ⟨.clean, 0⟩) (atWop 2) 20 = [true, true] := by unfold State.groundNext; decide +kernel
/-- R117: TON with a preset: 10,000 ticks are 20 counts of 10 us; lane 1 has the preset 0. -/
theorem test_timer : (atWop 3).groundNext 0 3 ((atWop 3).lotD.wop 3) ∧ lanes (.timer ⟨.clean, 0⟩) (atWop 3) 18 = [false, true] ∧
    ((after (.timer ⟨.clean, 0⟩) (atWop 3)).timerNow 0 .ground 0).e = 70 := by unfold State.groundNext; decide +kernel
theorem test_equiv : (atWop 4).groundNext 0 4 ((atWop 4).lotD.wop 4) ∧ lanes (.equiv ⟨.clean, 0⟩) (atWop 4) 18 = [true, true] := by
  unfold State.groundNext; decide +kernel
theorem test_tagset : (atWop 5).groundNext 0 5 ((atWop 5).lotD.wop 5) ∧ lanes (.tagset ⟨.clean, 0⟩) (atWop 5) 18 = [true, true] := by
  unfold State.groundNext; decide +kernel
theorem test_barrier : (atWop 6).groundNext 0 6 ((atWop 6).lotD.wop 6) ∧ lanes (.barrier ⟨.clean, 0⟩) (atWop 6) 18 = [false, false] ∧
    ((after (.barrier ⟨.clean, 0⟩) (atWop 6)).part 0).gi = 7 := by unfold State.groundNext; decide +kernel
theorem test_nop : (atWop 7).groundNext 0 7 ((atWop 7).lotD.wop 7) ∧ lanes (.nop ⟨.clean, 0⟩) (atWop 7) 18 = [false, false] ∧
    ((after (.nop ⟨.clean, 0⟩) (atWop 7)).part 0).gi = 8 := by unfold State.groundNext; decide +kernel
/-- R102: a row that cannot be corrected. -/
theorem test_bad_row : haltedB 4 (after (.lut ⟨.uncorrectable, 0⟩) (atWop 0)) = true ∧ haltedB 4 (after (.nop ⟨.uncorrectable, 5⟩) (atWop 7)) = true := by
  decide +kernel
/-- R139 to R147: a release at the partition's instant, in a lot whose feeding partition is another one. -/
def lotTwo : Lot :=
  lotOf [(4, [1, 0] ++ leBytes 2 0 ++ leBytes 4 8 ++ leBytes 2 200 ++ leBytes 2 0 ++ leBytes 4 0 ++ [1, 1] ++ leBytes 2 8 ++ leBytes 4 0 ++ leBytes 2 100)]
def releasing : State :=
  let s := running .run lotTwo
  { s with pwr := { s.pwr with doms := onDoms [0, 1, 3, 4, 5, 6, 7, 8, 9] }, hpo := { s.hpo with quality := 0 }, nmt := { s.nmt with comG := ⟨[(17, ⟨1, 0x14, 0⟩)]⟩, comO := ⟨[(17, ⟨dye 3 1, 0x14, 3⟩)]⟩, land := ⟨[(16, ⟨5, 0x30, 0⟩)]⟩ } }
theorem test_release : releasing.released = true ∧ releasing.lotD.pInUse 0 = true ∧ releasing.isInstant 0 = true ∧
    releasing.lotD.feeding = some 1 ∧ (releasing.part 0).relK ≤ releasing.instantK 0 ∧ 16 ∈ releasing.lotD.latched 0 ∧
    releasing.lotD.inputBound 16 = true ∧ 17 ∈ releasing.lotD.latched 0 ∧ releasing.lotD.inputBound 17 = false ∧
    (let t := after (.partitionRelease 0) releasing
     (t.part 0).stamp = 1000000 ∧ (t.part 0).relK = releasing.instantK 0 + 1 ∧ (t.part 0).attempt = 1 ∧ (t.part 0).key ≠ 0 ∧
     ((t.part 0).phase = .ready ∨ (t.part 0).phase = .passes) ∧ t.plane .ground 0 16 = ⟨5, 0x30, 0⟩ ∧
     t.plane .overdye 0 16 = ⟨dye (t.part 0).key 5, 0x30, (t.part 0).key⟩ ∧ t.plane .ground 0 17 = ⟨1, 0x14, 0⟩ ∧
     (t.plane .overdye 0 17).val = dye (t.part 0).key 1 ∧ only [.nmt, .sle, .sout, .rcr] releasing t) := by decide +kernel
theorem test_pass_resume : (let s : State := { running .run lotTwo with
      clk := { (running .run lotTwo).clk with now := 1000001 },
      sle := { (running .run lotTwo).sle with parts := ⟨[(0, { phase := .passes, gi := 3 }), (1, { phase := .ready })]⟩ } }
    s.best = some 0 ∧ s.instantOpen = false ∧ (after (.passResume 0) s).sle.cur = some 0 ∧ (after (.passResume 0) s).part 0 = s.part 0 ∧ after (.passResume 1) s = s) := by
  decide +kernel
theorem test_watchdog : (let s : State := { running .run (lotOf []) with sup := { (running .run (lotOf [])).sup with wdRunning := true, wdFedAt := 1966250 } }
    s.lotD.wdWindow = 750 ∧ haltedB 3 (after .watchdogExpiry s) = true ∧
    (let u := { s with sup := { s.sup with wdFedAt := 1966251 } }; after .watchdogExpiry u = u)) := by decide +kernel
/-- An attempt of partition 0 at the gate, which wrote word 18 and lane timer 0; the release was at tick `rel`. -/
def openAttempt (rel : Nat) (sig : BitVec 32) (attempt : Nat) : Part := {
  phase := .gate, gi := 8, oi := 8, stamp := rel, relAt := rel, key := 3, attempt := attempt,
  workG := ⟨[(18, some ⟨3, 0x14, 0⟩)]⟩, workO := ⟨[(18, some ⟨dye 3 3, 0x14, 3⟩)]⟩,
  timG := ⟨[(0, some ⟨7, true⟩)]⟩, timO := ⟨[(3, some ⟨timerMax - 7, false⟩)]⟩, sgC := sig }
/-- A module in Run with that attempt, the CPU domain (the recorder) off. -/
def atGate (rel : Nat) (sig : BitVec 32) (attempt : Nat) : State :=
  let s := running .run (lotOf [])
  { s with
    clk := { s.clk with now := 1000100 }, pwr := { s.pwr with doms := onDoms [0, 1, 3, 4, 5, 6, 7, 8, 9] },
    sle := { s.sle with cur := some 0, lfsr := 5, parts := ⟨[(0, openAttempt rel sig attempt)]⟩ } }
def okSig : BitVec 32 := 0xFFFFFFFF
/-- R97, R140: the commit. -/
theorem test_commit : ((atGate 1000000 okSig 1).part 0).matches? = true ∧ (atGate 1000000 okSig 1).memWf = true ∧
    (atGate 1000000 okSig 1).isInstant 0 = false ∧ (atGate 1000000 okSig 1).released = true ∧
    (let t := after .commitGate (atGate 1000000 okSig 1)
     t.comG 18 = ⟨3, 0x14, 0⟩ ∧ t.comO 18 = ⟨dye 3 3, 0x14, 3⟩ ∧ (t.timer .ground 0).e = 7 ∧ (t.part 0).phase = .idle ∧ (t.part 0).seq = 1 ∧
     (t.part 0).prev = some 1000000 ∧ (t.part 0).lastKey = 3) := by decide +kernel
/-- R139: a mismatch with time left, without it, and in the second attempt. -/
theorem test_mismatch : ((atGate 1000000 0 1).part 0).matches? = false ∧ 5 * 8 + 1200 ≤ 12 * (1000000 + 25000 - 1000100) ∧
    (let t := after .commitGate (atGate 1000000 0 1)
     (t.part 0).attempt = 2 ∧ (t.part 0).failedKey = 3 ∧ (t.part 0).key ≠ 3 ∧ (t.part 0).key ≠ 0 ∧ (t.part 0).stamp = 1000000 ∧
     ((t.part 0).phase = .ready ∨ (t.part 0).phase = .passes) ∧ t.sle.mismatches = 1 ∧ t.nmt = (atGate 1000000 0 1).nmt) ∧
    (let t := after .commitGate (atGate 1000000 0 2)
     haltedB 1 t = true ∧ t.sle.mismatches = 1 ∧ t.nmt = (atGate 1000000 0 2).nmt) ∧
    haltedB 1 (after .commitGate (atGate 975200 0 1)) = true := by decide +kernel
/-- R142: a commit in the count of the next release instant. -/
theorem test_deadline : (let s := { atGate 975000 okSig 1 with clk := { (atGate 975000 okSig 1).clk with now := 1000000 } }
    s.isInstant 0 = true ∧ haltedB 2 (after .commitGate s) = true ∧ (after .commitGate s).comG 18 = s.comG 18) := by decide +kernel

/-! The debug halt (R148 to R151) -/

def jtagIn (d : Dbg) (cur : Option Nat) (g o : Nat) : State :=
  let s := running .commissioning (lotOf [])
  { s with sup := { s.sup with jtag := true },
           sle := { s.sle with cur := cur, dbg := d, parts := ⟨[(0, { phase := .passes, gi := g, oi := o, key := 1, stamp := 1000000 })]⟩ },
           nmt := { s.nmt with planeG := ⟨[(16, ⟨3, 0, 0⟩), (17, ⟨1, 0, 0⟩)]⟩, planeO := ⟨[(16, ⟨dye 1 3, 0, 1⟩), (17, ⟨dye 1 1, 0, 1⟩)]⟩ } }
theorem test_halt_request : (let s := jtagIn {} none 0 0
    let t := after .haltRequest s
    t.sle.dbg.state = 2 ∧ t.sup = { s.sup with driveRemoved := true, wdRunning := false } ∧ t.pwr.setpoint = 980 ∧ dark t = true ∧
    only [.sup, .sle, .sout, .pwr, .log, .hpo] s t) ∧
    (after .haltRequest (jtagIn {} (some 0) 2 0)).sle.dbg = { state := 1, part := some 0, idx := 2, stopAt := some 2 } := by decide +kernel
theorem test_halt_effect : (let s := jtagIn { state := 1, part := some 0, idx := 2, stopAt := some 2 } (some 0) 3 3
    let t := after .debugHaltEffect s
    s.haltDue = true ∧ t.sle.dbg.state = 2 ∧ t.sup.driveRemoved = true ∧ dark t = true ∧ only [.sup, .sle, .sout, .pwr, .log, .hpo] s t) := by
  decide +kernel
theorem test_step : (let s := jtagIn { state := 2, part := some 0, idx := 1, stopAt := some 1 } (some 0) 2 2
    let t := after (.step ⟨.clean, 0⟩ ⟨.clean, 0⟩) s
    t.sle.dbg.stopAt = some 2 ∧ t.sle.dbg.idx = 2 ∧ (t.part 0).gi = 3 ∧ (t.part 0).oi = 3 ∧ (t.curWord 0 .ground 20).val = 3 ∧
    (t.curWord 0 .overdye 20).val = dye 1 3 ∧ only [.sle] s t) := by decide +kernel
theorem test_resume : (let s := jtagIn { state := 2, part := some 0, idx := 1, stopAt := some 1 } (some 0) 2 2
    let u := { s with sup := { s.sup with driveRemoved := true } }
    let t := after .resume u
    t.sle.dbg.state = 0 ∧ t.sup.driveRemoved = false ∧ t.sup.wdArmed = false ∧ only [.sup, .sle, .sout, .log, .hpo] u t) := by decide +kernel
theorem test_jtag : (let s := running .commissioning (lotOf [])
    s.jtagAllowed = true ∧ (after (.jtagSession true) s).sup.jtag = true ∧ (after (.jtagSession false) (jtagIn {} none 0 0)).sup.jtag = false ∧
    after (.jtagSession true) (running .run (lotOf [])) = running .run (lotOf [])) := by decide +kernel
/-- R126, R133: a WOP in both passes keeps the image. -/
theorem test_mirror : (let s := jtagIn {} (some 0) 0 0
    let t := (s.doWop 0 .ground (s.lotD.wop 0) 0).doWop 0 .overdye (s.lotD.wop 0) 0
    (t.curWord 0 .overdye 18).val = dye 1 (t.curWord 0 .ground 18).val ∧ (t.part 0).soC = (t.part 0).sgC) := by decide +kernel
def slicing (pos : Nat) : State :=
  let s := running .run (lotOf [])
  { s with sle := { s.sle with credit := 100000, creditAt := 1000000 }, bist := { s.bist with pos := pos } }
/-- R160, R429, R433: slices. -/
theorem test_slice : (let s := slicing 1
    let t := after (.bistSlice .background .pass 250000) s
    s.sliceState = true ∧ s.sliceRoom = true ∧ 20000 ≤ s.creditNow ∧ s.pwr.rateHold = false ∧ t.bist.pos = 2 ∧ t.sle.credit = 80000 ∧
    t.bist.repairs = s.bist.repairs ∧ only [.sle, .bist] s t) ∧
    (let s := slicing 3
     rotation.getD 3 0 = 2 ∧ s.rowUsed 7 = true ∧ haltedB 4 (after (.bistSlice .background .badCrc 250000) s) = true ∧
     haltedB 4 (after (.bistSlice .background (.badRow 7) 250000) s) = true) := by decide +kernel
def localising (m : Mode) (old : List Nat) : State :=
  let s := running m (lotOf [])
  { s with sle := { s.sle with locOpen := true, locCount := 1, unloc := old } }
theorem test_localising : (let s := localising .safeHalt []
    after (.bistSlice .localising .pass 0) s =
      { s with sle := { s.sle with locState := 1 }, pwr := { s.pwr with locHoldUntil := s.clk.real + sTicks } }) := by decide +kernel
theorem test_localised : (let s := localising .run [5]
    let t := after (.localisationComplete none) s
    t.sle.unloc = [5, 1000000] ∧ t.sle.locOpen = false ∧ t.sle.locState = 3 ∧ t.bist = s.bist ∧ only [.sle, .pwr, .log, .hpo] s t) ∧
    haltedB 1 (after (.localisationComplete none) (localising .run [5, 6])) = true ∧
    (let s := localising .run []
     let t := after (.localisationComplete (some (.lane 9))) s
     s.bist.usable 1 = [0, 1, 2, 3] ∧ t.sle.locState = 2 ∧ t.sle.locLane = 9 ∧ t.bist.wanted = [{ kind := 1, unit := 9, spare := 0 }] ∧
     only [.sle, .pwr, .bist, .log, .hpo] s t) := by decide +kernel
/-- R435: the time-base check: 5 % and 1,000 ppm. -/
def checked (rcBad slowBad : Nat) : State := { base .run with sup := { (base .run).sup with rcBad := rcBad, slowBad := slowBad } }
theorem test_time_base : (let t := after (.timeBaseCheck 1050000 32735) (checked 1 1)
    t.sup.rcBad = 0 ∧ t.sup.slowBad = 1 + 1 ∧ haltedB 6 t = true) ∧
    (let t := after (.timeBaseCheck 1050000 32768) (checked 1 1)
     t.sup.rcBad = 0 ∧ t.sup.slowBad = 0 ∧ t.sup.rcDev = 5000 ∧ only [.sup, .bist] (checked 1 1) t) ∧
    haltedB 6 (after (.timeBaseCheck 1050001 32768) (checked 1 0)) = true ∧
    (after (.timeBaseCheck 949999 32768) (checked 0 0)).sup.rcBad = 1 := by decide +kernel
theorem test_report : (let t := after .healthReportRebuild (base .run)
    t.bist.report.length = 96 ∧ t.bist.reportGen = 1 ∧ t.bist.report.take 4 = [1, 0, 0, 0] ∧ only [.bist] (base .run) t) := by decide +kernel
def calm (m : Mode) (q : Nat) : State :=
  { base m with hpo := { (base m).hpo with quality := q }, pwr := { (base m).pwr with mains := .interrupted } }
theorem test_contact : (after .auxContactUpdate (calm .run 0)).sup.auxClosed = true ∧ (after .auxContactUpdate (calm .run 2)).sup.auxClosed = false ∧
    (after .auxContactUpdate (calm .configuring 0)).sup.auxClosed = false := by decide +kernel
theorem test_links : (after (.portLinkChange .ha true) (base .run)).hpo.linkA = true ∧ (after (.portLinkChange .hb false) (base .run)).hpo.linkB = false ∧
    (after (.portLinkChange .hb true) { base .run with hpo := { (base .run).hpo with portEnable := 1 } }).hpo.linkB = false ∧
    (after (.portLinkChange .ta true) (base .run)).trk.linkA = false ∧
    (let s := running .run (lotOf [(7, [1])])
     s.lotD.hasTrunk = true ∧ (after (.portLinkChange .ta true) s).trk.linkA = true) := by decide +kernel

/-! OTP (R410 to R426) -/

/-- A re-read is due after 24 h. -/
def due : State := { base .run with clk := { (base .run).clk with now := 24 * 3600 * 50000000 } }
theorem test_reread : due.rereadDue = true ∧ (after (.otpReread ⟨[], []⟩) due).otp.reread = 24 * 3600 * 50000000 ∧
    (due.otpWord 32).written = true ∧ haltedB 12 (after (.otpReread ⟨[(32, badRead)], []⟩) due) = true ∧
    (let s := due.setOtpWord 224 (.holding 0)
     let t := after (.otpReread ⟨[(224, badRead)], []⟩) s
     t.otp.jtagLocked = true ∧ t.jtagAllowed = false ∧ t.sup = s.sup) ∧
    (let t := after (.otpReread ⟨[(256, badRead)], []⟩) due
     t.otp.noSign = true ∧ t.maySign = false ∧ t.sup = due.sup) := by decide +kernel
/-- The mains interrupted at no power: the reserve is long enough, and the die is at 25 degC. -/
def burning (sel : Nat) : State :=
  let s := base .commissioning
  { s with pwr := { s.pwr with mains := .interrupted, aonMv := 3300, t1 := 250, t2 := 250 }, otp := { s.otp with sel := sel } }
theorem test_program : (burning 97).otpConds = 7 ∧ (burning 97).wordRefusal 97 5 = none ∧
    (let t := after (.programData 5) (burning 97)
     t.otp.job = some (.word 97 5) ∧ t.otp.words = (burning 97).otp.words ∧ t.hpo.reply = none ∧ only [.otp, .hpo] (burning 97) t) ∧
    (let s := (burning 64).setOtpWord 64 (.holding 1)
     s.wlocked 2 = false ∧ after (.programData 5) s = s.refuse 0x0F000603) := by decide +kernel
theorem test_seal : (let s := { burning 95 with otp := { (burning 95).otp with words := (burning 95).otp.words.set {} 64 (.holding 1) } }
    let t := after .seal s
    s.wordRefusal 95 0 = none ∧ t.otp.job = some (.word 95 (s.sealWord 2)) ∧ only [.otp, .hpo] s t) := by decide +kernel
theorem test_locks : (after (.writeLock 2) (burning 0)).otp.job = some (.lock 2 false) ∧ (after (.readLock 9) (burning 0)).otp.job = some (.lock 9 true) ∧
    lockAllowed 0 false = false ∧ lockAllowed 8 true = false := by decide +kernel
theorem test_program_ends : (let s := { burning 97 with otp := { (burning 97).otp with job := some (.word 97 5) } }
    let t := after (.otpProgramComplete (goodRead 5) ⟨7, 7, 7⟩) s
    let u := after (.otpProgramComplete {} {}) s
    t.otp.job = none ∧ (t.otpWord 97).data = 5 ∧ (t.otpWord 97).state = .good ∧ done t = true ∧ only [.otp, .hpo, .log] s t ∧
    (u.otpWord 97).usable = false ∧ aborts 0x0F000603 u = true) ∧
    (let s := { burning 97 with otp := { (burning 97).otp with job := some (.lock 9 true) } }
     let t := after (.otpProgramComplete (goodRead 5) ⟨7, 7, 7⟩) s
     t.otp.rlock.get 0 9 = 7 ∧ t.otp.wlock.get 0 9 = 0 ∧ done t = true) := by decide +kernel
def repaired : State := { burning 0 with bist := { (burning 0).bist with repairs := [{ kind := 1, unit := 9, spare := 0 }] } }
theorem test_fuse_repair : repaired.otpValid 6 = true ∧ repaired.bist.unfused ≠ [] ∧ repaired.freePositions.length = 30 ∧
    (let t := after .fuseRepair repaired
     t.bist.fuseState = 1 ∧ t.bist.fuseLeft = repaired.bist.unfused ∧ t.hpo.reply = none ∧ only [.bist, .hpo] repaired t) ∧
    (let t := after .fuseRepair (base .run)
     t.bist.fuseState = 3 ∧ aborts 0x0F000408 t = true) := by decide +kernel
theorem test_fuse_repair_ends : (let s := { repaired with bist := { repaired.bist with fuseState := 1, fuseLeft := repaired.bist.unfused } }
    let t := after (.fuseRepairComplete [goodRead (repairEntry { kind := 1, unit := 9, spare := 0 })]) s
    s.freePositions.head? = some 1 ∧ t.bist.fuseState = 2 ∧ t.bist.fuseLeft = [] ∧ (t.otpWord 193).data = repairEntry { kind := 1, unit := 9, spare := 0 } ∧ (t.otpWord 193).state = .good ∧
    done t = true ∧ only [.otp, .bist, .cvus, .hpo, .log] s t) := by decide +kernel

/-! Check-value units (R443, R444) -/

def unit (armed ended : Bool) : State := { base .run with cvus := ⟨[(9, { run := 7, fold := 3, armed := armed, ended := ended })]⟩ }
theorem test_cvu : (after (.init 9) (unit false true)).cvu 9 = { run := 0xFFFFFFFF, fold := 3, armed := true } ∧
    (after (.finalise 9) (unit true false)).cvu 9 = { run := 0xFFFFFFF8, fold := 3, ended := true } ∧
    (after (.runningValueWrite 9 5) (unit true true)).cvu 9 = { run := 5, fold := 3 } ∧
    (after (.dataIn 9 1) (unit true false)).cvu 9 = { run := polyFeed 0 7 ([3, 0, 0, 0, 0, 0, 0, 0] ++ [1, 0, 0, 0]), fold := 3 } ∧
    (after (.dataIn 9 1) (unit false false)).cvu 9 = { run := polyFeed 0 7 [1, 0, 0, 0], fold := 3 } ∧
    after (.dataIn 9 1) (unit false true) = (unit false true).refuse 0x0F000502 ∧ after (.init 0) (unit false false) = (unit false false).refuse 0x0F000501 := by
  decide +kernel

/-! The recorder and the log (R341, R344, R452 to R458) -/

def recording (m : Mode) : State :=
  { base m with rcr := { (base m).rcr with recs := [⟨0, 0, 0, [0x30]⟩], total := 5000 } }
theorem test_freeze : (let s := recording .run
    let t := after .freezeCommand s
    s.episodeSlot false = some 0 ∧ done t = true ∧ (t.episode 0).state = 1 ∧ (t.episode 0).trigger = 3 ∧ only [.rcr, .hpo, .log, .tmu, .fresh] s t) ∧
    after .freezeCommand (recording .replay) = (recording .replay).refuse 0x0F000705 := by decide +kernel
/-- Every slot frozen by the module's own trigger code 1, the ring full. -/
def full : State :=
  { recording .run with rcr := { (recording .run).rcr with episodes := ⟨(List.range 64).map (fun e => (e, { state := 1, trigger := 1 }))⟩ } }
theorem test_freeze_full : full.episodeSlot false = none ∧ full.cycleEpisode = none ∧ after .freezeCommand full = full.refuse 0x0F000701 := by
  decide +kernel
theorem test_post_trigger : (let s := { recording .run with rcr := { (recording .run).rcr with open_ := some (0, 2000000), episodes := ⟨[(0, { state := 1 })]⟩ } }
    let t := after .episodePostTriggerEnd s
    t.rcr.open_ = none ∧ only [.rcr, .hpo, .log] s t) := by decide +kernel
theorem test_selects : (after (.exportSelect 63) (base .run)).rcr.sel = 63 ∧ after (.exportSelect 64) (base .run) = (base .run).refuse 0x06090031 ∧
    (after (.entrySelect 12) (base .run)).log.select = 12 := by decide +kernel
def metered (win sec budget : Nat) : State :=
  { base .run with clk := { (base .run).clk with real := 50000000 }, rcr := { (base .run).rcr with winBytes := win, secBytes := sec, budget := budget } }
theorem test_meter : (after .meterWindowEnd (metered 1001 0 50)).rcr.budget = 40 ∧ (after .meterWindowEnd (metered 1000 0 50)).rcr.budget = 50 ∧
    (after .meterWindowEnd (metered 1001 0 50)).rcr.winBytes = 0 ∧ (after .burstBudgetRefill (metered 0 90000 50)).rcr.budget = 51 ∧
    (after .burstBudgetRefill (metered 0 90001 50)).rcr.budget = 50 ∧ (after .burstBudgetRefill (metered 0 0 8000)).rcr.budget = 8000 := by decide +kernel
theorem test_page : (let t := after .nandPageWrite (recording .run)
    t.rcr.written = 4080 ∧ t.rcr.nand = 4096 ∧ t.rcr.episodes = (recording .run).rcr.episodes ∧ after .nandPageWrite t = t) := by decide +kernel
/-- I00 PULSED on T0, I01 OSSD with a proof interval of 10 s, I02 STATIC, a reset channel and the halt-release source, I24 STATIC;
pair 0 with 50 ms; T0 PULSED of 100 us every frame, T1 STEADY. -/
def lotIn : Lot := lotOf [(5, bytesOf [
  (0, [2, 0] ++ leBytes 2 10 ++ [0, 5] ++ leBytes 2 100 ++ leBytes 2 0 ++ [2, 0]),
  (16, [3, 0] ++ leBytes 2 10 ++ [0, 0] ++ leBytes 2 100 ++ leBytes 2 10 ++ [2, 0]),
  (32, [1, 0] ++ leBytes 2 10 ++ [0, 0] ++ leBytes 2 100 ++ leBytes 2 0 ++ [2, 2]),
  (384, [1, 0] ++ leBytes 2 10 ++ [0, 0] ++ leBytes 2 100 ++ leBytes 2 0 ++ [2, 0]),
  (0x300, [1, 2] ++ leBytes 2 50), (0x3C0, [2, 0] ++ leBytes 2 10 ++ leBytes 2 1), (0x3C8, [1, 0]), (0x400, [0, 2])])]
/-- Run with channels, pairs and sources, at a tick. -/
def inputsAt (now : Nat) (chans : List (Nat × Chan)) (pairs : List (Nat × InPair)) (srcs : List (Nat × Src)) : State :=
  let s := running .run lotIn
  { s with clk := { s.clk with now := now }, sin := { s.sin with chans := ⟨chans⟩, pairs := ⟨pairs⟩, srcs := ⟨srcs⟩ } }
/-- R174: delivered states by use, fault and chatter; SIN without its banks. -/
theorem test_delivered : (let on : Chan := { raw := true, f := true }
    let s := inputsAt 1000000 [(0, on), (1, { on with fault := 2 }), (2, { on with chatter := true }), (5, on)] [] []
    s.delivered 0 = true ∧ s.delivered 1 = false ∧ s.delivered 2 = false ∧ s.lotD.chUsed 5 = false ∧ s.delivered 5 = false ∧
    s.inputsOn = true ∧ s.w0.val.getLsbD 0 = true ∧ s.w0.val.getLsbD 1 = false ∧
    (let u := { s with pwr := { s.pwr with doms := {} } }; u.inputsOn = false ∧ u.w0.val = 0)) := by decide +kernel
/-- R170, R173, R174: the 200th sample in a row that differs from f is an edge of I24, the 199th is none. -/
theorem test_edge_in : (let s := inputsAt 1000000 [(24, { count := 199, sampledAt := 999750 })] [] []
    let t := after (.filteredEdge 24 [(10501, 1)]) s
    let u := after (.filteredEdge 24 [(10501, 1)]) (inputsAt 1000000 [(24, { count := 198, sampledAt := 999750 })] [] [])
    u.chan 24 = { raw := true, count := 199, sampledAt := 1000000 } ∧
    s.chanLive 24 = true ∧ s.edgeAccepted 24 1000000 true = false ∧ (t.chan 24).f = true ∧ (t.chan 24).stamp = 1000000 ∧ (t.chan 24).transitions = 1 ∧
    t.delivered 24 = true ∧ (t.inPair 0).state = .closing ∧ (t.chan 24).proofFrom = 1000000 ∧ only [.sin, .tmu, .rcr, .log, .hpo, .fresh] s t) := by
  decide +kernel
/-- R186: the ninth edge within 100 ms is chatter, at 100 ms it is not. -/
theorem test_chatter : (let c (now : Nat) : Chan := { stamps := [1000000, 1, 1, 1, 1, 1, 1, 1], count := 199, sampledAt := now - 250 }
    let e := Instr.filteredEdge 24 [(24000, 1)]
    (after e (inputsAt 5999750 [(24, c 5999750)] [] [])).delivered 24 = false ∧
    ((after e (inputsAt 5999750 [(24, c 5999750)] [] [])).chan 24).chatter = true ∧
    ((after e (inputsAt 6000000 [(24, c 6000000)] [] [])).chan 24).chatter = false) := by decide +kernel
/-- R234, R81: a reset edge of the halt-release source. -/
def pressed (now : Nat) : State := inputsAt now [(2, { raw := true, f := true, count := 199, sampledAt := now - 250, rise := some 1000000 })] [] []
theorem test_reset_edge : (pressed 3500000).edgeAccepted 2 3500000 false = true ∧ (pressed 3499999).edgeAccepted 2 3499999 false = false ∧
    (pressed 151000000).edgeAccepted 2 151000000 false = true ∧ (pressed 151000001).edgeAccepted 2 151000001 false = false ∧
    (let t := after (.filteredEdge 2 [(5999, 1)]) (pressed 3500000)
     (pressed 3500000).lotD.hrChan = 2 ∧ (t.part 0).edge = true ∧ (t.part 15).edge = true ∧ t.sup = (pressed 3500000).sup) := by decide +kernel
theorem test_halt_release : (let s := { pressed 3500000 with sup := { (pressed 3500000).sup with mode := .safeHalt, firstCause := some 3, causes := 8, haltFrom := some .run, pend := .armed 2000000 } }
    let t := after (.filteredEdge 2 [(5999, 1)]) s
    t.sup.mode = .boot ∧ t.sup.bistRunning = true ∧ t.sup.firstCause = none ∧ t.sup.causes = 0 ∧ t.sup.resumeTo = none ∧ t.lot = s.lot) := by
  decide +kernel
/-- R175: a pulse starts in the slot of T0, 100 us after the frame. -/
theorem test_pulse : (let s := inputsAt 1005000 [] [] [(0, { state := .on })]
    s.srcLive 0 = true ∧ s.pulsesOff = false ∧ s.lotD.slotOff 0 = 100 ∧ (after (.testPulse 0) s).src 0 = { state := .on, pulseAt := some 1005000 } ∧
    only [.sin] s (after (.testPulse 0) s)) ∧
    (let s := inputsAt 1005001 [] [] [(0, { state := .on })]; after (.testPulse 0) s = s) := by decide +kernel
/-- R180, R181: decisions. -/
def decided (n : Nat) (c : Chan) : State := inputsAt 1020000 [(n, c)] [] [(0, { state := .on, pulseAt := some 1005000 })]
theorem test_decision : (let s := decided 0 { f := true, missed := 1 }
    s.lotD.window 0 0 = 7500 ∧ s.lotD.chSource 0 = some 0 ∧
    ((after (.pulseDecision 0 0 true 2 true) s).chan 0).missed = 0 ∧ ((after (.pulseDecision 0 0 true 2 true) s).chan 0).seen = 1 ∧
    ((after (.pulseDecision 0 0 true 1 true) s).chan 0).fault = 2 ∧ (after (.pulseDecision 0 0 true 1 true) s).delivered 0 = false ∧
    ((after (.pulseDecision 0 0 true 1 true) (decided 0 { f := true })).chan 0).missed = 1 ∧
    ((after (.pulseDecision 24 0 true 1 true) (decided 24 { f := true, foreign := 1 })).chan 24).fault = 4 ∧
    ((after (.pulseDecision 24 0 true 1 true) (decided 24 { f := true })).chan 24).fault = 0) := by decide +kernel
/-- R178: a source fault, its retry, its end. -/
theorem test_source : (let s := inputsAt 1000000 [(0, { f := true })] [] [(0, { state := .on }), (1, { state := .on })]
    let v := s.setSrc 0 { state := .on, pulseAt := some 995500 }
    let t := after (.sourceFault 0 10 5001) v
    (t.src 0).state = .retryWait ∧ (t.src 0).code = 2 ∧ (t.src 0).faults = 1 ∧ (t.chan 0).fault = 8 ∧ t.delivered 0 = false ∧
    ((after (.sourceFault 0 10 5000) v).src 0).code = 0 ∧
    ((after (.sourceFault 1 150 24000) (s.setSrc 1 { state := .on, limitSince := some 950000 })).src 1).code = 1 ∧
    (after (.sourceFault 1 150 24000) s).srcState 1 = .limit ∧ (after (.sourceFault 1 109 24000) s).srcState 1 = .on ∧
    ((after (.sourceFault 1 10 17999) (s.setSrc 1 { state := .on, lowSince := some 950000 })).src 1).code = 3) := by decide +kernel
theorem test_source_retry : (let s := inputsAt 51000000 [] [] [(1, { state := .retryWait, code := 1, faultAt := 1000000 })]
    let u := inputsAt 50999999 [] [] [(1, { state := .retryWait, code := 1, faultAt := 1000000 })]
    ((after (.sourceRetry 1) s).src 1).state = .fault ∧ after (.sourceRetry 1) u = u) := by decide +kernel
theorem test_source_clear : (let s := inputsAt 6000000 [] [] [(1, { state := .fault, code := 1, onAt := 1000000 })]
    let u := inputsAt 5999999 [] [] [(1, { state := .fault, code := 1, onAt := 1000000 })]
    (after (.sourceFaultClear 1) s).src 1 = { state := .on, code := 0, onAt := 1000000 } ∧ after (.sourceFaultClear 1) u = u) := by decide +kernel
/-- R183: the proof interval and the sensor's pulses. -/
theorem test_proof : (let s (now : Nat) := inputsAt now [(1, { f := true, proofFrom := 1000000 })] [] []
    ((after (.proofTimeout 1) (s 501000000)).chan 1).fault = 16 ∧ after (.proofTimeout 1) (s 500999999) = s 500999999 ∧
    (after (.sensorPulse 1 2) (s 5000000)).chan 1 = { f := true, proofFrom := 5000000, sensorSeen := true } ∧
    after (.sensorPulse 1 200) (s 5000000) = s 5000000 ∧ (s 0).lotD.chFilter 1 = 10) := by decide +kernel
theorem test_chatter_clear : (let s (now : Nat) := inputsAt now [(2, { f := true, chatter := true, stamp := 1000000 })] [] []
    ((after (.chatterClear 2) (s 51000000)).chan 2).chatter = false ∧ after (.chatterClear 2) (s 50999999) = s 50999999) := by decide +kernel
theorem test_loop : (let t := after (.loopBackTest false) (inputsAt 1000000 [] [] [])
    let u := after (.loopBackTest true) (inputsAt 1000000 [] [] [])
    (t.chan 0).loop = 1 ∧ (t.chan 0).fault = 32 ∧ t.sin.nextLoop = 1 ∧ t.bist.failed.getLsbD 4 = true ∧ (u.chan 0).loop = 0 ∧ (u.chan 0).fault = 0) := by
  decide +kernel
theorem test_jam : (let s (now : Nat) := inputsAt now [(2, { f := true, rise := some 1000000 })] [] []
    ((after (.resetJam (.channel 2)) (s 151000250)).chan 2).jam = true ∧ after (.resetJam (.channel 2)) (s 151000000) = s 151000000) := by
  decide +kernel
/-- R185: the pair evaluator. -/
theorem test_pair : (let q : InPair := { state := .closing, t0 := 1000000 }
    (q.eval 1000001 100 true true false).state = .active ∧ (q.eval 1000100 100 true true false).state = .fault ∧
    (let s (now : Nat) := inputsAt now [(24, { f := true })] [(0, q)] []
     let t := after (.discrepancyTimeout 0) (s 3500000)
     (t.inPair 0).state = .fault ∧ (t.inPair 0).code = 2 ∧ (t.inPair 0).faults = 1 ∧ after (.discrepancyTimeout 0) (s 3499999) = s 3499999)) := by
  decide +kernel
/-- Q00 SAFETY with the open-load flag, Q01 and Q02 in parallel group 1, group LF0 with tests of 100 us every frame; LF1 unused. -/
def lotQ : Lot := lotOf [(5, bytesOf [
  (0x410, [1, 0] ++ leBytes 2 10 ++ leBytes 2 1 ++ leBytes 2 10 ++ leBytes 2 10 ++ [0, 2]),
  (0x420, [1, 0] ++ leBytes 2 10 ++ leBytes 2 1 ++ leBytes 2 10 ++ leBytes 2 10 ++ [1, 0]),
  (0x430, [1, 0] ++ leBytes 2 10 ++ leBytes 2 1 ++ leBytes 2 10 ++ leBytes 2 10 ++ [1, 0]),
  (0x510, [2, 0] ++ leBytes 2 10 ++ leBytes 2 1)])]
/-- Run at a tick with group 0, output 0 and a running test; Q00 to Q02 commanded on. -/
def outputsAt (now : Nat) (g : Grp) (o : Out) (t : Option TestPulse) : State :=
  let s := running .run lotQ
  { s with clk := { s.clk with now := now }, sout := { s.sout with outs := ⟨[(0, o), (1, { sw := true }), (2, { sw := true })]⟩, grps := ⟨[(0, g)]⟩, w8 := 7, w8q := 0, test := t } }
def closedG : Grp := { state := .closed, latch := false, cause := 0, good := true, railClosed := true, lf := { seen := true, good := true } }
def onO : Out := { sw := true, pinHigh := true, highSince := some 0 }
theorem test_switch : (let s := outputsAt 1000000 closedG onO none
    s.switchOn .solo 0 = true ∧ s.switchOn .solo 1 = true ∧ s.switchOn .standby 0 = false ∧ s.switchOn .solo 3 = false ∧
    (let u := { s with sout := { s.sout with w8 := 3 } }; u.switchOn .solo 0 = true ∧ u.switchOn .solo 1 = false) ∧
    (let u := { s with sout := { s.sout with w8q := 3 } }; u.switchOn .solo 0 = false) ∧ s.groupClosed 0 = true ∧
    (let u := outputsAt 1000000 { closedG with state := .fault } onO none; u.switchOn .solo 0 = false ∧ u.groupClosed 0 = false)) := by
  decide +kernel
/-- R209: the closing check. -/
theorem test_closing : (let g : Grp := { closedG with state := .closing, closeAt := 500000 }
    let s := outputsAt 1000000 g {} none
    let t := after (.closingCheckEnd 0 0 true) s
    let u := after (.closingCheckEnd 0 0 false) s
    let v := after (.closingCheckEnd 0 1 true) s
    s.lotD.oMode 0 = 1 ∧ s.passive 0 = false ∧ (t.grp 0).state = .closed ∧ t.switchOn .solo 0 = true ∧ only [.sout] s t ∧
    (u.grp 0).state = .fault ∧ (u.grp 0).code = 2 ∧ u.switchOn .solo 0 = false ∧
    (v.out 0).code = 1 ∧ (v.grp 0).state = .fault ∧ (let w := outputsAt 999999 g {} none; after (.closingCheckEnd 0 0 true) w = w)) := by
  decide +kernel
/-- R210, R212: the group test, 200 us after the frame. -/
theorem test_group_test : (let s := outputsAt 10010000 closedG onO none
    let t := after (.groupTest 0) s
    s.slotStart (.group 0) = true ∧ s.testsRun = true ∧ t.groupClosed 0 = false ∧ s.groupClosed 0 = true ∧ only [.sout] s t ∧
    ((after (.groupTest 0) (outputsAt 10010000 { closedG with state := .cutOff } {} none)).grp 0).lastTest = 2) := by decide +kernel
theorem test_group_decision : (let p : TestPulse := { of := .group 0, start := 10010000, notLow := 0 }
    let s := outputsAt 10015000 closedG onO (some p)
    let t := after (.groupTestDecision 0 true 0 0) s
    let u := after (.groupTestDecision 0 false 0 0) s
    t.sout.test = none ∧ t.grp 0 = { closedG with lastTest := 0, testEnd := 10015000 } ∧ (u.grp 0).code = 1 ∧ (u.grp 0).lastTest = 1 ∧ (u.grp 0).state = .fault ∧
    (let w := outputsAt 10014999 closedG onO (some p); after (.groupTestDecision 0 true 0 0) w = w)) := by decide +kernel
/-- R211, R212: the dark test of Q00. -/
theorem test_dark : (running .run lotQ).lotD.testSlot (.dark (.single 0)) = some (700, 250) ∧
    (let s := outputsAt 10035000 closedG onO none
     let t := after (.darkTest (.single 0)) s
     s.slotStart (.dark (.single 0)) = true ∧ s.testsRun = true ∧ s.testable 0 = true ∧ t.inPulse 0 = true ∧ t.switchOn .solo 0 = false ∧
     t.switchOn .solo 1 = true ∧ only [.sout, .aaq] s t) := by decide +kernel
theorem test_dark_decision : (let p (mv : Nat) : TestPulse := { of := .dark (.single 0), start := 10035000, notLow := 0, urgent := [(0, mv)] }
    let s (mv : Nat) := outputsAt 10040000 closedG onO (some (p mv))
    let t := after (.darkTestDecision (.single 0) 1 0) (s 6499)
    let u := after (.darkTestDecision (.single 0) 0 0) (s 0)
    let v := after (.darkTestDecision (.single 0) 1 0) (s 6500)
    t.sout.test = none ∧ (t.out 0).lastTest = 0 ∧ (t.out 0).seen = 1 ∧ (t.out 0).code = 0 ∧ t.grp 0 = closedG ∧
    (u.out 0).code = 2 ∧ (u.out 0).lastTest = 1 ∧ (u.grp 0).state = .fault ∧ (v.out 0).code = 7) := by decide +kernel
/-- R216, R217: readback of an output that is off, and of one that is on. -/
theorem test_readback : (let s (a : Nat) := outputsAt 1000000 { closedG with state := .cutOff } { offAt := a } none
    let t := after (.readbackFault 0 .notLow) (s 990249)
    let on : Out := { sw := true }
    let u := after (.readbackFault 0 .notHigh) (outputsAt 1000000 closedG on none)
    let l := after (.readbackFault 0 .currentLimit) (outputsAt 1000000 closedG onO none)
    (t.out 0).code = 1 ∧ (t.out 0).faults = 1 ∧ (t.grp 0).state = .fault ∧ (u.out 0).code = 3 ∧ (u.out 0).sw = false ∧ u.grp 0 = closedG ∧
    (l.out 0).code = 3 ∧ after (.readbackFault 0 .notHigh) (outputsAt 1000000 closedG onO none) = outputsAt 1000000 closedG onO none ∧
    after (.readbackFault 0 .notLow) (s 990250) = s 990250) := by decide +kernel
theorem test_output_faults : (let s := outputsAt 1000000 closedG onO none
    let long (now : Nat) : State := outputsAt now closedG { onO with onSince := some 0 } none
    ((after (.openLoad 0) (long 5005000)).out 0).code = 6 ∧ after (.openLoad 0) (long 5004999) = long 5004999 ∧ ((after (.driverOvertemperature 0) s).out 0).code = 8 ∧
    (after (.driverOvertemperature 0) s).switchOn .solo 0 = false ∧ (after (.openLoad 0) (long 5005000)).grp 0 = closedG) := by decide +kernel
theorem test_parallel : (let a := outputsAt 1000000 closedG onO none
    let s := { a with sout := { a.sout with unlike := ⟨[(1, some 995250)]⟩ } }
    let t := after (.parallelMismatch 0) s
    s.lotD.parMembers 1 = [1, 2] ∧ (t.out 1).code = 5 ∧ (t.out 2).code = 5 ∧ (t.out 0).code = 9 ∧ (t.grp 0).state = .fault) := by decide +kernel
/-- R220, R221: group faults and retries. -/
theorem test_group_faults : (let s := outputsAt 1000000 closedG onO none
    let t := after (.groupOvercurrent 0) s
    (t.grp 0).code = 3 ∧ (t.grp 0).state = .fault ∧ (t.grp 0).faults = 1 ∧ t.switchOn .solo 0 = false ∧
    ((after (.railReadbackFault 0) (outputsAt 1000000 { closedG with railClosed := false } onO none)).grp 0).code = 2 ∧
    ((after (.railReadbackFault 0) (outputsAt 1000000 { closedG with state := .cutOff, openAt := 990000 } {} none)).grp 0).code = 1 ∧
    (let w := outputsAt 1000000 { closedG with state := .cutOff, openAt := 990001 } {} none; after (.railReadbackFault 0) w = w)) := by decide +kernel
theorem test_retries : (let g : Grp := { closedG with state := .fault, code := 1, triedAt := 10000000 }
    let s := outputsAt 60015000 g {} none
    s.openRetryAt 0 = some (60010000, 12500) ∧ ((after (.groupOpenRetry 0 true) s).grp 0).cleared = true ∧
    (let w := outputsAt 60015000 { g with triedAt := 10000001 } {} none; after (.groupOpenRetry 0 true) w = w) ∧
    (let c := outputsAt 60000000 { g with code := 2 } {} none
     c.closeRetryAt 0 = some 50000000 ∧ ((after (.groupCloseRetry 0 0 true) c).grp 0).cleared = true ∧
     ((after (.groupCloseRetry 0 0 false) c).grp 0).cleared = false ∧ ((after (.groupCloseRetry 0 1 true) c).out 0).code = 1)) := by decide +kernel
/-- R202, R214. -/
theorem test_readback_change : (let s := outputsAt 1000000 closedG {} none
    let t := after (.readbackChange [24000, 4000, 22200] [23200, 4000] [24000, 24000]) s
    (t.out 0).pinHigh = true ∧ (t.out 1).pinLow = true ∧ (t.out 2).pinHigh = true ∧ (t.grp 0).railClosed = true ∧ (t.grp 0).railOpen = false ∧ (t.grp 1).railOpen = true ∧
    only [.sout] s t) := by decide +kernel
theorem test_held : (let s := outputsAt 1000000 closedG { held := true } none
    let t := after (.heldOnCommandApply 0) s
    s.lotD.outSource 0 = some (.dark (.single 0)) ∧ s.inSlot (.dark (.single 0)) = false ∧ (t.out 0).held = false ∧ t.switchOn .solo 0 = true ∧
    (let w := outputsAt 10035000 closedG { held := true } none; after (.heldOnCommandApply 0) w = w)) := by decide +kernel
/-- R48 to R50: the field supply. -/
theorem test_warning : (let s := outputsAt 1000000 closedG onO none
    let t := after (.lfWarning 0 19050) s
    (t.grp 0).warn = true ∧ (t.grp 0).good = false ∧ (t.grp 0).state = .closed ∧ ((after (.lfWarning 0 19200) s).grp 0).warn = false) := by
  decide +kernel
theorem test_cut_off : (let s := outputsAt 1000000 { closedG with lf := { seen := true, good := true, ovolt := ⟨some 995250, false⟩ } } onO none
    let t := after (.lfCutOff 0 30150) s
    let c : LfMon := { seen := true, collapse := ⟨some 999750, false⟩ }
    let u := after (.lfCutOff 0 11850) (outputsAt 1000000 { closedG with lf := c } onO none)
    let v := after (.lfCutOff 0 11850) (outputsAt 1000000 { closedG with state := .cutOff, latch := true, cause := 4, cutOffs := 1, lf := c } {} none)
    let w := after (.lfCutOff 0 16650) (outputsAt 1000000 { closedG with lf := { seen := true, sag := ⟨some 900250, false⟩ } } onO none)
    (t.grp 0).latch = true ∧ (t.grp 0).cause = 4 ∧ (t.grp 0).state = .cutOff ∧ (t.grp 0).cutOffs = 1 ∧ t.switchOn .solo 0 = false ∧
    (u.grp 0).cause = 3 ∧ (v.grp 0).cause = 4 ∧ (v.grp 0).cutOffs = 1 ∧ (w.grp 0).cause = 2) := by decide +kernel
theorem test_good : (let s (now : Nat) := outputsAt now { closedG with good := false, warn := true, goodSince := 1000000 } {} none
    ((after (.lfGoodQualified 0 24000) (s 6000000)).grp 0).good = true ∧ ((after (.lfGoodQualified 0 24000) (s 6000000)).grp 0).warn = false ∧
    ((after (.lfGoodQualified 0 24000) (s 5999750)).grp 0).good = false) := by decide +kernel
/-- Channel 3 belongs to the host; speed inputs 0 and 4 with a pulse of 10 us and 10 ms of averaging, speed pair 0, function 0 SS1-t
with t_max 1 s; analog input 0 of 4 to 20 mA (mode 1) with 20.000 mA high, 1.000 low, hysteresis 0.100. -/
def lotT : Lot := lotOf [(8, [3, 3] ++ List.replicate 14 0), (5, bytesOf [
  (0x530, [1, 0] ++ leBytes 2 20 ++ leBytes 2 100 ++ [0xFF, 0]), (0x570, [1, 0] ++ leBytes 2 20 ++ leBytes 2 100 ++ [0xFF, 0]),
  (0x5B0, [1, 0xFF] ++ leBytes 2 1000 ++ leBytes 2 10 ++ leBytes 2 100 ++ leBytes 4 1000),
  (0x5F0, [2, 0xFF, 0xFF, 0, 0xFF] ++ List.replicate 29 0 ++ leBytes 2 100),
  (0x6B0, [1, 0] ++ leBytes 2 2 ++ leBytes 4 50000 ++ leBytes 4 20000 ++ leBytes 2 1000)])]
def timing (c : TChan) : State :=
  let s := running .run lotT
  { s with tmu := { s.tmu with chans := ⟨[(3, c)]⟩ } }
def chanAfter (i : Instr) (c : TChan) : TChan := (after i (timing c)).tc 3
/-- R266: the target comes. -/
theorem test_compare : ({ mode := 1, armed := true, target := 999990 } : TChan).due 1000000 = true ∧
    chanAfter (.compareEvent 3) { mode := 1, armed := true, target := 999990 } =
      { mode := 1, target := 999990, fired := true, value := 999990, events := 1, everFired := true } ∧
    chanAfter (.compareEvent 3) { mode := 1, armed := true, target := 1000001 } = { mode := 1, armed := true, target := 1000001 } := by
  decide +kernel
theorem test_arm : chanAfter (.arm 3) { mode := 1, target := 1000001 } = { mode := 1, target := 1000001, armed := true } ∧
    chanAfter (.arm 3) { mode := 1, target := 1000000 } =
      { mode := 1, target := 1000000, fired := true, late := true, value := 1000000, events := 1, everFired := true } ∧
    chanAfter (.arm 3) { mode := 2, period := 50 } = { mode := 2, period := 50, target := 1000050, armed := true } ∧
    (chanAfter (.arm 3) { mode := 2, period := 50, value := 10, everFired := true }).late = true ∧
    (timing {}).lotD.chOwner 3 = 3 ∧ aborts 0x0F000304 (after (.arm 3) (timing {})) = true ∧ aborts 0x0F000301 (after (.arm 4) (timing {})) = true := by
  decide +kernel
theorem test_disarm : chanAfter (.disarm 3) { mode := 1, target := 1000001, armed := true } = { mode := 1, target := 1000001 } ∧
    chanAfter (.clearFlags 3) { mode := 1, fired := true, late := true } = { mode := 1 } := by decide +kernel
theorem test_capture : chanAfter (.softwareCapture 3) { mode := 3, armed := true, source := 1024, new := true } =
    { mode := 3, armed := true, source := 1024, new := true, ovr := true, value := 1000000, fired := true, events := 1, everFired := true } := by
  decide +kernel
theorem test_target : chanAfter (.targetWrite 3 1000001) { mode := 1 } = { mode := 1, armed := true, target := 1000001 } ∧
    (chanAfter (.targetWrite 3 1000000) { mode := 1 }).late = true ∧ aborts 0x0F000304 (after (.targetWrite 3 5) (timing { mode := 2 })) = true ∧
    chanAfter (.periodWrite 3 7) { mode := 2 } = { mode := 2, armed := true, period := 7, target := 1000007 } ∧
    (chanAfter (.periodWrite 3 7) { mode := 2, everFired := true, value := 999993 }).late = true := by decide +kernel
theorem test_capture_read : chanAfter (.captureValueRead 3 none) { mode := 3, value := 5, hold := 9, held := true, new := true } = { mode := 3, value := 9 } ∧
    (after (.captureValueRead 3 none) (timing { mode := 3, value := 5 })).hpo.reply = some (.data [5, 0, 0, 0, 0, 0, 0, 0]) ∧
    chanAfter (.captureValueRead 3 none) { mode := 1, value := 5 } = { mode := 1, value := 5 } ∧
    chanAfter (.captureValueRead 3 (some 8)) { mode := 3, armed := true, value := 5, source := 1024 } =
      { mode := 3, armed := true, source := 1024, value := 5, hold := 8, held := true, new := true, fired := true, events := 1, everFired := true } := by
  decide +kernel

/-! Speed and motion (R245 to R247, R280 to R283) -/

def spinning (c : SpeedCh) : State := { timing {} with tmu := { (timing {}).tmu with speeds := ⟨[(0, c), (4, { est := 900000 })]⟩ } }
def speedAfter (i : Instr) (c : SpeedCh) : SpeedCh := (after i (spinning c)).speed 0
theorem test_speed_edge : (speedAfter (.speedEdge 0 true 999000 9999) {}).rejected = 1 ∧
    (speedAfter (.speedEdge 0 true 999000 9999) { rejTimes := List.replicate 8 950000 }).fault = 2 ∧
    (speedAfter (.speedEdge 0 true 999000 10000) {}).edges = 1 ∧ (speedAfter (.speedEdge 0 true 999000 10000) {}).m = 0 ∧
    (let c := speedAfter (.speedEdge 0 true 999000 10000) { stamps := [899000, 799000, 499000, 399000] }
     c.m = 3 ∧ c.span = 500000 ∧ c.stamps = [999000, 899000, 799000, 499000, 399000] ∧ c.edges = 1) := by decide +kernel
theorem test_speed_faults : (speedAfter (.speedChannelFault 0 .overRange) { est := 210000001 }).fault = 2 ∧
    (speedAfter (.speedChannelFault 0 .overRange) { est := 210000000 }).fault = 0 ∧
    (speedAfter (.speedChannelFault 0 (.indeterminate 1000000)) {}).fault = 4 ∧ (speedAfter (.speedChannelFault 0 (.indeterminate 999999)) {}).fault = 0 ∧
    (after (.speedChannelFault 0 .overRange) (spinning { est := 210000001 })).speedValid 0 = false ∧
    (speedAfter (.speedLoopBack true) {}).loop = 0 ∧ (speedAfter (.speedLoopBack false) {}).loop = 1 ∧ (speedAfter (.speedLoopBack false) {}).fault = 8 ∧
    (after (.speedLoopBack false) (spinning {})).tmu.nextLoop = 1 := by decide +kernel
/-- 3 periods in 300,000 ticks are 500 Hz; after longer than a period without an edge the time since counts. -/
theorem test_motion : (speedAfter .motionUpdate { stamps := [950000], m := 3, span := 300000 }).est = 500000 ∧
    (speedAfter .motionUpdate { stamps := [850000], m := 3, span := 300000 }).est = 333333 ∧
    (speedAfter .motionUpdate { stamps := [900000] }).est = 500000 := by decide +kernel
def ramping (now : Nat) : State :=
  let s := spinning { stamps := [1000000], m := 3, span := 300000 }
  { s with clk := { s.clk with now := now }, tmu := { s.tmu with spairs := ⟨[(0, { since := some 1000000 })]⟩, motions := ⟨[(0, { ramp := true, tr := 1000000 })]⟩ } }
theorem test_ramp : (ramping 50999500).lotD.moType 0 = 2 ∧ (ramping 0).lotD.spPair 0 = true ∧ ((after .motionUpdate (ramping 50999500)).motion 0).ramp = true ∧
    ((after .motionUpdate (ramping 51000000)).motion 0).ramp = false ∧ ((after .motionUpdate (ramping 51000000)).motion 0).stopped = true := by decide +kernel
/-- R283: one input stands, the other goes on: apart for 100 ms. -/
theorem test_apart : (let s := ramping 6000000
    let u := { s with tmu := { s.tmu with speeds := ⟨[(0, { stamps := [5999000], m := 3, span := 300000 }), (4, { stamps := [1000000] })]⟩ } }
    let t := after .motionUpdate u
    u.speedValid 0 = true ∧ u.speedValid 4 = true ∧ t.pairApart 0 = true ∧ (t.spair 0).fault = true) := by decide +kernel

/-! The swatch (R275 to R277): a module by itself -/

theorem test_swatch : (let s := timing {}
    let t := after (.swatchRequest 0) s
    s.swAlone = true ∧ t.tmu.swatch.state = 3 ∧ (t.tmu.swatch.record.map (fun r => (r.id, r.tsw, r.late))) = some (1, 1000000, false) ∧ done t = true) ∧
    ((after (.swatchRequest 999999) (timing {})).tmu.swatch.record.map (fun r => (r.tsw, r.late))) = some (999999, true) ∧
    (after (.swatchRequest 1000001) (timing {})).tmu.swatch.state = 1 := by decide +kernel
def cascaded (member : Nat) : State :=
  let s := running .run { lotOf [] with hdr := bytesOf [(43, [2, 3, BitVec.ofNat 8 member])] }
  { s with sup := { s.sup with straps := { addr := some member, role := some (if member = 0 then 0 else 1) } } }
theorem test_swatch_refused : (cascaded 1).swAlone = false ∧ (cascaded 1).lotD.member = 1 ∧ aborts 0x0F000201 (after (.swatchRequest 0) (cascaded 1)) = true ∧
    (cascaded 0).lotD.member = 0 ∧ aborts 0x0F000302 (after (.swatchRequest 1049999) (cascaded 0)) = true := by decide +kernel
def swatching (n : Nat) (s : State) : State := { s with tmu := { s.tmu with swatch := { state := n, id := 5, tsw := 1000000, startedAt := 0 } } }
theorem test_swatch_latch : ((after .swatchLatch (swatching 1 (timing {}))).tmu.swatch.record.map (fun r => (r.id, r.latchedAt))) = some (5, 1000000) ∧
    (after .swatchLatch (swatching 1 (timing {}))).tmu.swatch.state = 3 ∧ (after .swatchLatch (swatching 1 (cascaded 0))).tmu.swatch.state = 2 := by
  decide +kernel
theorem test_gather : (let s := swatching 2 (cascaded 0)
    let u := { s with clk := { s.clk with now := 5000000 } }
    let full := { s with tmu := { s.tmu with swatch := { s.tmu.swatch with held := 0xFFFF } } }
    s.gathers.contains 1 = true ∧ (after (.swatchGatherTimeout []) u).tmu.swatch.state = 4 ∧
    (after (.swatchGatherTimeout [(1, [5])]) s).tmu.swatch.state = 2 ∧ (after (.swatchGatherTimeout []) full).tmu.swatch.state = 3) := by decide +kernel
theorem test_control_swatch : (cascaded 1).caOn = true ∧ (after (.controlSwatch (.cascade 0 0xFF 7 1) 9 1000001) (cascaded 1)).tmu.swatch.state = 1 ∧
    (after (.controlSwatch (.cascade 0 0xFF 7 1) 9 1000001) (cascaded 1)).tmu.swatch.tsw = 1000001 ∧
    ((after (.controlSwatch (.cascade 0 0xFF 7 1) 9 1000000) (cascaded 1)).tmu.swatch.record.map (fun r => (r.id, r.origin, r.late))) = some (9, 3, true) := by decide +kernel

/-! Time discipline (R256 to R259) -/

def member (d : Disc) (good bad : Nat) (e : Option Nat) : State :=
  { cascaded 1 with
    clk := { (cascaded 1).clk with disc := d, goodRun := good, badRun := bad, lastSymbol := some 1950000 },
    sup := { (cascaded 1).sup with mode := if e.isSome then .run else .validating }, sle := { (cascaded 1).sle with epoch := e } }
/-- A symbol of the reference, `n` ns of residence behind 1,000,000 ticks. -/
def symbol (n : Nat) : Instr := .syncSymbol (.cascade 0) 1000000 n 7 none
theorem test_symbol : (member .free 0 0 none).isReference (.cascade 1) = true ∧
    (let t := after (.syncSymbol (.cascade 1) 5000000 12 7 (some 9)) (member .free 0 0 none)
     t.clk.now = 5000001 ∧ t.clk.offsetNs = 0 ∧ t.clk.disc = .acquiring ∧ t.clk.lastSymbol = some 2000000 ∧ t.clk.forwarded = some (5000000, 19) ∧
     t.clk.refEpoch = some 9) ∧
    (after (symbol 50) (member .acquiring 63 0 none)).clk.disc = .locked ∧ (after (symbol 51) (member .acquiring 63 0 none)).clk.disc = .acquiring ∧
    (after (symbol 50) (member .holdover 63 0 (some 0))).clk.disc = .locked ∧
    (after (symbol 1001) (member .locked 0 1 (some 0))).clk.disc = .holdover ∧
    (after (symbol 1000) (member .locked 0 1 (some 0))).clk.disc = .locked ∧
    (after (symbol 0) (member .free 0 0 (some 0))).clk.disc = .holdover ∧
    (after (.syncSymbol (.cascade 0) 1000000 0 0 (some 25000)) (member .locked 0 0 (some 0))).sle.epoch = some 25000 := by decide +kernel
theorem test_holdover : (after .disciplineHoldover (member .locked 5 0 (some 0))).clk.disc = .holdover ∧
    (after .disciplineHoldover (member .locked 5 0 (some 0))).log.seq = 1 := by decide +kernel
theorem test_symbol_send : (let s := cascaded 0
    s.caOn = true ∧ (after .syncSymbolSend s).clk.lastSync = 1000000) := by decide +kernel

/-! Analog inputs (R295 to R297, R43, R45) -/

def converting (c : AChan) : State :=
  let s := timing {}
  { s with aaq := { s.aaq with chans := ⟨[(0, c)]⟩ } }
def achAfter (c : AChan) (v : Int) : AChan := (after (.aaqConversion 0 77 v) (converting c)).ach 0
theorem test_conversion : (converting {}).convertible 0 = true ∧ bandOf 1 = (-3000, 105000) ∧ (converting {}).refBad 0 = false ∧
    (achAfter { valid := true } (-3001)).cause = 1 ∧ (achAfter { valid := true } (-3001)).valid = false ∧ (achAfter {} 105001).cause = 2 ∧
    (achAfter { run := 2 } (-3000)).valid = true ∧ (achAfter { run := 1 } (-3000)).valid = false ∧ (achAfter { run := 2 } 105000).raw = 77 ∧
    (achAfter { run := 3, valid := true, below := true } 49999).below = true ∧ (achAfter { run := 3, valid := true, below := true } 50000).below = false ∧
    (achAfter { run := 3, valid := true } 48999).below = true ∧ (achAfter { run := 3, valid := true } 49000).below = false ∧
    (achAfter { run := 3, valid := true, above := true } 20001).above = true ∧ (achAfter { run := 3, valid := true, above := true } 20000).above = false ∧
    (achAfter { run := 3, valid := true } 21001).above = true ∧ (achAfter { run := 3, valid := true } 21000).above = false := by decide +kernel
theorem test_ground : (let s := converting { run := 3, valid := true }
    let t := after (.aaqConversion 0 77 20000) { s with aaq := { s.aaq with gnd := true } }
    (t.ach 0).valid = false ∧ (t.ach 0).cause = 3) := by decide +kernel
theorem test_die : (let s (e : Nat) := { running .run (lotOf []) with clk := { (running .run (lotOf [])).clk with now := 1000000 + 50 * e } }
    (s 37).convertible 37 = true ∧ (s 26).convertible 26 = true ∧ (s 36).convertible 37 = false ∧ haltedB 10 (after (.aaqConversion 37 1 1250) (s 37)) = true ∧
    (after (.aaqConversion 38 1 1249) (s 38)).sup.mode = .run ∧ (after (.aaqConversion 26 1 17999) (s 26)).pwr.us = .limit) := by decide +kernel
/-- A lot without bindings: no host words. -/
def lotBare : Lot := { lotOf [] with secs := ⟨[]⟩ }
/-- Run with both host ports up. -/
def hosted (m : Mode) (h : Hpo) : State := { running m lotBare with hpo := { h with linkA := true, linkB := true } }
def ans (b : List Byte) (t : State) : Bool := decide (t.hpo.reply = some (.data b))

/-! Records (R314, R322, R485) -/

theorem test_record_checks : after (.read 1 0x02000010) { hosted .run {} with pwr := { (hosted .run {}).pwr with doms := {} } } =
      { hosted .run {} with pwr := { (hosted .run {}).pwr with doms := {} } } ∧
    aborts 0x0F000401 (after (.read 1 0x02000010) (hosted .parked {})) = true ∧
    ((hosted .run {}).accessRefusal 0x10 0x01234560 0 = some 0x06020000 ∧ aborts 0x06020000 (after (.read 1 0x01234560) (hosted .run {})) = true) ∧
    aborts 0x06010002 (after (.write 1 0x02000010 [0]) (hosted .run {})) = true ∧
    aborts 0x06070010 (after (.beatWrite 1 0x02000060 [0]) (hosted .run {})) = true ∧
    aborts 0x06010000 (after (.blockRead 1 0x02000010 0 5) (hosted .run {})) = true ∧
    aborts 0x06010000 (after (.blockWrite 1 0x02000010 0 [5]) (hosted .run {})) = true ∧
    aborts 0x06020000 (after (.beatRead 1 0x01234560) (hosted .run {})) = true := by decide +kernel
theorem test_repeated_tag : (let s := hosted .run { kept := [⟨1, 0x10, 0x02000010, .data [9]⟩] }
    ans [9] (after (.read 1 0x02000010) s) = true ∧ aborts 0x0F000403 (after (.read 1 0x02000020) s) = true ∧
    aborts 0x0F000403 (after (.beatRead 1 0x02000010) s) = true) := by decide +kernel
def eight : State := hosted .run { out := (List.range 8).map (fun k => { rec0 := ⟨0x11, 20 + k, 0, 0, []⟩ }) }
theorem test_load : eight.hpo.load = 8 ∧ aborts 0x0F000402 (after (.read 1 0x02000010) eight) = true := by decide +kernel
/-- 0x2000:01 reads the state. -/
theorem test_read : (hosted .run {}).accessRefusal 0x10 0x02000010 0 = none ∧ (hosted .run {}).odReadRefusal 0x2000 1 = none ∧
    (let t := after (.read 1 0x02000010) (hosted .run {})
     ans (leBytes 1 Mode.run.code) t = true ∧ t.hpo.kept.getLast? = some ⟨1, 0x10, 0x02000010, .data (leBytes 1 Mode.run.code)⟩) := by decide +kernel
theorem test_record_complete : (let s := hosted .run { out := [{ rec0 := ⟨0x10, 1, 0x02000010, 0, []⟩ }] }
    let t := after .recordComplete s
    t.hpo.out = [{ rec0 := ⟨0x10, 1, 0x02000010, 0, []⟩, final := some (.data (leBytes 1 Mode.run.code)), started := true }]) := by decide +kernel
def words : State := { hosted .run {} with nmt := { (hosted .run {}).nmt with comG := ⟨[(8, ⟨0x0102030405060708, 0x14, 0⟩)]⟩ } }
/-- R99: beats of a node word. -/
theorem test_word_beats : ans [8, 7, 6, 5] (after (.nodeWordRead 8) words) = true ∧
    (after (.nodeWordRead 8) words).nmt.beat = some ⟨0x3008, 0x0102030405060708, 0x14, 2000000⟩ ∧
    ans [8, 7, 6, 5] (after (.beatRead 2 0x03008010) words) = true ∧
    (let s := { words with nmt := { words.nmt with beat := some ⟨0x3008, 0x0102030405060708, 0x14, 1950001⟩ } }
     ans [4, 3, 2, 1] (after (.beatRead 2 0x03008014) s) = true ∧ (after .beatLatchLapse s).nmt.beat.isSome = true ∧
     (let u := { s with clk := { s.clk with real := 2000001 } }
      aborts 0x0F000405 (after (.beatRead 2 0x03008014) u) = true ∧ (after .beatLatchLapse u).nmt.beat = none)) := by decide +kernel
def configuringAt (img : List Byte) : State := { hosted .configuring {} with lot := { image := img } }
theorem test_block_write : (configuringAt []).accessRefusal 0x15 0x01F50000 5 = none ∧
    (let t := after (.blockWrite 1 0x01F50000 0 [1, 2, 3]) (configuringAt [9])
     t.lot.image = [1, 2, 3] ∧ done t = true) ∧
    (after (.blockWrite 1 0x01F50000 3 [4]) (configuringAt [1, 2, 3])).lot.image = [1, 2, 3, 4] ∧
    aborts 0x0F000404 (after (.blockWrite 1 0x01F50000 2 [4]) (configuringAt [1, 2, 3])) = true := by decide +kernel
/-- 0x1008, the device name (R325): offset, generation 0, the bytes. -/
theorem test_block_read : (hosted .run {}).accessRefusal 0x14 0x01008000 6 = none ∧
    ans ([2, 0, 0, 0, 0, 0, 0, 0, 0x58, 0x2D, 0x32]) (after (.blockRead 1 0x01008000 2 3) (hosted .run {})) = true ∧
    ans ([8, 0, 0, 0, 0, 0, 0, 0]) (after (.blockRead 1 0x01008000 8 3) (hosted .run {})) = true ∧
    aborts 0x06090031 (after (.blockRead 1 0x01008000 9 3) (hosted .run {})) = true := by decide +kernel
theorem test_wake_delay : (after (.odWrite 0x2000 6 31536000) (hosted .run {})).sup.wakeDelay = 31536000 ∧
    aborts 0x06090031 (after (.odWrite 0x2000 6 31536001) (hosted .run {})) = true ∧
    (after (.write 3 0x02000060 [5, 0, 0, 0]) (hosted .run {})).sup.wakeDelay = 5 := by decide +kernel
/-- R324: a target of a host channel by beats. -/
def beating (now : Nat) (h : List HeldBeat) : State :=
  let s := hosted .run { held := h }
  { s with clk := { s.clk with real := now }, tmu := { s.tmu with chans := ⟨[(3, { mode := 1 })]⟩ },
           lot := { s.lot with active := some { lotBare with secs := ⟨[(8, [3, 3] ++ List.replicate 14 0)]⟩ } } }
def low : HeldBeat := ⟨256 * 0x2403 + 5, 4, [1, 2, 3, 4], 1950001⟩
def other : HeldBeat := ⟨256 * 0x2404 + 5, 4, [9, 9, 9, 9], 1960001⟩
theorem test_beat_write : (after (.beatWrite 1 0x02403050 [1, 2, 3, 4]) (beating 2000000 [low, other])).hpo.held =
      [other, ⟨256 * 0x2403 + 5, 4, [1, 2, 3, 4], 2000000⟩] ∧
    (let t := after (.beatWrite 1 0x02403054 [5, 0, 0, 0]) (beating 2000000 [low, other])
     done t = true ∧ t.hpo.held = [other] ∧ (t.tc 3).target = 0x504030201) ∧
    aborts 0x0F000405 (after (.beatWrite 1 0x02403054 [5, 0, 0, 0]) (beating 2000001 [low])) = true ∧
    (after .beatWriteTimeout (beating 2000000 [low])).hpo.held = [low] ∧ (after .beatWriteTimeout (beating 2000001 [low, other])).hpo.held = [other] := by
  decide +kernel

/-! Frames (R308 to R319) -/

/-- A lot with word 16 bound to host-in slot 0. -/
def lotHost : Lot := { lotBare with secs := ⟨[(3, bytesOf [(512, bindBytes 5 0)])]⟩ }
def port (m : Mode) (l : Lot) (h : Hpo) : State := { running m l with hpo := { h with linkA := true, linkB := true } }
/-- The module's MAC address of these states. -/
def mac : List Byte := [0x02, 0x46, 0x50, 0x58, 0x21, 0x44]
/-- A Cycle Frame of host 0x010203040506. -/
def cycle (nc : Nat) (ws : List Lanes) (rel : Byte) (recs : List Byte) (n link : Nat) : List Byte :=
  let head : List Byte := [1, 1] ++ leBytes 2 nc ++ leBytes 4 250 ++ [BitVec.ofNat 8 ws.length, BitVec.ofNat 8 n, rel] ++
    List.replicate 5 0 ++ ws.flatMap laneBytes ++ recs
  withFcs (ethFrame mac [6, 5, 4, 3, 2, 1] 0x88B6
    (head ++ leBytes 4 ((crc32c (mac ++ leBytes 2 nc ++ head)).toNat + link)))
def host : Nat := 0x010203040506
theorem test_mac : (port .run lotHost {}).macBytes = mac := by decide +kernel
theorem test_frame_checks :
    checkFrame mac (cycle 7 [5] 0 [] 0 0) = .ok ⟨host, 7, 250, [5], false, []⟩ ∧
    checkFrame mac (cycle 7 [5] 0 [] 0 1) = .badLink ∧
    checkFrame mac (cycle 7 [5] 2 [] 0 0) = .bad ∧
    checkFrame mac (cycle 7 [5] 0 (recBytes 0x10 9 0x02000010 []) 1 0) =
      .ok ⟨host, 7, 250, [5], false, [⟨0x10, 9, 0x02000010, 0, []⟩]⟩ := by decide +kernel
def counted (h : Hpo) : Hpo := { h with discarded := 1 }
theorem test_bad_frames : (let s := port .run lotHost {}
    (after (.cycleFrame .ha (cycle 7 [5] 2 [] 0 0)) s = { s with hpo := { s.hpo with discarded := 1 } }) ∧
    (after (.cycleFrame .ha (cycle 7 [5] 0 [] 0 1)) s = { s with hpo := { s.hpo with discarded := 1, linkFails := 1 } })) := by decide +kernel
def taken : State := after (.cycleFrame .ha (cycle 7 [] 0 (recBytes 0x10 9 0x02000010 []) 1 0)) (port .run lotBare { nc := some 6 })
theorem test_frame : taken.hpo.partner = some host ∧ taken.hpo.nc = some 7 ∧ taken.hpo.accepted = 1 ∧ taken.hpo.gaps = 0 ∧
    taken.hpo.response ≠ [] ∧ taken.hpo.landed = true ∧ taken.hpo.tLast = 1000000 ∧ taken.hpo.quality = 0 ∧
    taken.hpo.out = [{ rec0 := ⟨0x10, 9, 0x02000010, 0, []⟩ }] := by decide +kernel
theorem test_host_lands : ((port .run lotHost {}).landHost [5] 250).landing 16 = ⟨5, 0x30, 0⟩ := by decide +kernel
def jumped : State := after (.cycleFrame .ha (cycle 7 [5] 0 [] 0 0)) (port .run lotBare { nc := some 5 })
theorem test_frame_gap : jumped.hpo.gaps = 1 ∧ jumped.hpo.landed = false ∧ jumped.hpo.quality = 3 := by decide +kernel
theorem test_frame_again : (let s := port .run lotHost { nc := some 7, partner := some host }
    after (.cycleFrame .ha (cycle 7 [5] 0 [] 0 0)) s = { s with hpo := { s.hpo with discarded := 1 } }) := by decide +kernel
/-- R309: the response of BUSY is one record of type 0x24. -/
theorem test_busy : (let s := port .run lotHost { partner := some 9, active := 2 }
    let t := after (.cycleFrame .ha (cycle 7 [5] 0 [] 0 0)) s
    t.hpo.busy = 1 ∧ t.hpo.partner = some 9 ∧ t.hpo.nc = none ∧ (t.hpo.response.drop 14).take 24 = ([2, 1] ++ leBytes 2 7 ++
      [BitVec.ofNat 8 Mode.run.code, BitVec.ofNat 8 t.cplRole.code, 255, 4] ++ leBytes 8 1000000 ++ leBytes 4 s.lotD.fingerprint ++ [0, 1, 0, 0]) ∧
    (t.hpo.response.drop 38).take 16 = [0x24, 0, 8, 0, 0, 0, 0, 0, 2, 0, 9, 0, 0, 0, 0, 0]) := by decide +kernel
def left_ : State := after (.cycleFrame .ha (cycle 7 [] 1 [] 0 0)) (port .run lotBare { partner := some host, nc := some 6 })
theorem test_frame_release : left_.hpo.partner = none ∧ left_.hpo.nc = none ∧ left_.hpo.out = [] ∧ left_.hpo.kept = [] := by decide +kernel
def waiting (now : Nat) : State :=
  let s := port .run lotHost { landed := true, quality := 0, period := 250, tLast := 900000, partner := some host }
  { s with clk := { s.clk with now := now } }
theorem test_host_stale : (after .hostStale (waiting 943749) = waiting 943749 ∧
    (after .hostStale (waiting 943750)).hpo = { (waiting 943750).hpo with quality := 2 }) ∧
    (after .hostWatchdogExpiry (waiting 1031249) = waiting 1031249 ∧
    (let t := after .hostWatchdogExpiry (waiting 1031250)
     t.hpo.quality = 3 ∧ t.hpo.partner = none ∧ t.hpo.landed = false ∧ t.hpo.releases = 1)) := by decide +kernel

/-! The trunk (R349 to R367) -/

/-- A station entry (R359): class, image word, offset, width, watchdog in ms, connection, output word. -/
def station (cls img off width wd conn out : Nat) : List Byte :=
  [1, BitVec.ofNat 8 cls] ++ leBytes 2 img ++ [BitVec.ofNat 8 off, BitVec.ofNat 8 width] ++ leBytes 2 wd ++ leBytes 4 conn ++ leBytes 2 out ++ [0, 0]
/-- A trunk cycle of 2 ms with station 0, 8 lanes, and station 1, 4 lanes and an output. -/
def lotTrunk : Lot := { lotOf [] with secs := ⟨[(7, leBytes 2 20 ++ leBytes 2 2 ++ leBytes 4 1 ++ List.replicate 24 0 ++
  station 0 16 0 8 5 0xAABBCCDD 0 ++ station 0 16 8 4 5 0x11223344 17)]⟩ }
def onTrunk (t : Trk) : State := { running .run lotTrunk with trk := { t with running := true } }
def st8 : StEntry := ⟨0, 0, 16, 0, 8, 5, 0xAABBCCDD, 0⟩
def st4 : StEntry := ⟨1, 0, 16, 8, 4, 5, 0x11223344, 17⟩
theorem test_schedule : lotTrunk.frames = [[st8, st4]] ∧ lotTrunk.hrType ≠ 1 ∧ lotTrunk.trkCycle = 100000 := by decide +kernel
def cycled : State := onTrunk { cycle := some 9, stations := ⟨[(0, { quality := 0, image := 0xA5, stamp := 900000, goodNow := true })]⟩ }
def begun : State := after .trunkCycleStart cycled
/-- R350: 0x88B5, cycle 10, frame 0 of 1, three slots; R353: a placeholder has the type 14. -/
theorem test_trunk_start : begun.trk.cycle = some 10 ∧ (begun.st 0).quality = 2 ∧ (begun.st 0).image = 0xA5 ∧ (begun.st 0).goodPrev = true ∧
    begun.trk.sent.map (fun f => (f.drop 12).take 34) = [[0x88, 0xB5, 0x11, 0x01, 0, 0, 10, 0, 0, 0, 0, 0, 1, 0, 3, 0, 0, 0,
      0x00, 0xE0, 10, 1, 0, 0, 0, 0, 0, 0, 0, 0, 0x01, 0x20, 10, 0x61]] := by decide +kernel
def aged (now : Nat) : State := { cycled with clk := { cycled.clk with now := now } }
theorem test_station_watchdog : after (.stationWatchdogExpiry 0) (aged 1149999) = aged 1149999 ∧
    (let t := after (.stationWatchdogExpiry 0) (aged 1150000)
     (t.st 0).quality = 3 ∧ (t.st 0).image = 0 ∧ (t.st 0).expiries = 1 ∧ t.st 1 = {}) := by decide +kernel
/-- The copy that returns: station 0 with a record of quality and data, station 1 a record with its check changed by `bad`. -/
def copy (tb : Byte) (q d bad : Nat) : List Byte :=
  let sl := slotBytes st4 1 10 0 5
  withFcs (ethFrame trunkDst [2, 0, 0, 0, 0, 1] 0x88B5 ([0x11, 0x01, tb, 0] ++ leBytes 4 10 ++ leBytes 2 0 ++ leBytes 2 1 ++ leBytes 2 3 ++ [0, 0] ++
    slotBytes st8 1 10 q d ++ slotBytes st4 2 10 3 0 ++ (sl.take 8 ++ leBytes 4 (leNat (sl.drop 8) + bad))))
theorem test_slots : judgeSlot (copy 0 0 0x77 0 |>.drop 14) 16 st8 10 = some (some (0, 0x77)) ∧
    judgeSlot (copy 0 0 0x77 1 |>.drop 14) 40 st4 10 = some none ∧ judgeSlot (slotBytes st8 14 10 0 0) 0 st8 10 = none ∧
    judgeSlot (copy 0 0 0x77 0 |>.drop 14) 40 st4 10 = some (some (0, 5)) := by decide +kernel
theorem test_copy_a : (let t := after (.trunkFrame .tb (copy 0 0 0x77 1)) begun
    (t.st 0).copyA = some (0, 0x77, 1000000) ∧ (t.st 0).judgedA = true ∧ (t.st 1).crc = 1 ∧ (t.st 1).judgedA = true ∧ (t.st 1).copyA = none) := by decide +kernel
def withB : State := { begun with trk := { begun.trk with stations := ⟨[(0, { quality := 2, judgedB := true, copyB := some (0, 0x77, 999000) })]⟩ } }
theorem test_copies_land : (let t := after (.trunkFrame .tb (copy 0 0 0x77 0)) withB
    (t.st 0).quality = 0 ∧ (t.st 0).image = 0x77 ∧ (t.st 0).stamp = 999000 ∧ (t.st 0).landed = 1 ∧ (t.st 0).goodNow = true ∧
    (t.st 1).copyA = some (0, 5, 1000000)) := by decide +kernel
/-- The wrong port takes no copy. -/
theorem test_wrong_port : after (.trunkFrame .ta (copy 0 0 0x77 0)) begun = begun := by decide +kernel

/-! The cascade (R373 to R377) -/

/-- Member 0 of a cascade of two modules; word 16 is CASCADE in from member 1, index 3. -/
def lotRing : Lot :=
  { hdr := bytesOf [(8, leBytes 8 7), (43, [2, 1, 0, 2, 1])], digest := [0x12, 0x34, 0x56, 0x78],
    secs := ⟨[(3, bytesOf [(512, bindBytes 2 0x31)])]⟩ }
/-- The same without bindings. -/
def bare (s : State) : State := { s with lot := { s.lot with active := some { lotRing with secs := ⟨[]⟩ } } }
def ring (c : Cpl) : State := { running .run lotRing with cpl := c }
/-- A frame as Table: Cascade frame lays it out. -/
def caFrame (type src dst hop n : Nat) (body : List Byte) (bad : Nat) : List Byte :=
  let h := [BitVec.ofNat 8 type, BitVec.ofNat 8 src, BitVec.ofNat 8 dst, BitVec.ofNat 8 hop] ++ leBytes 4 n ++ body
  h ++ leBytes 4 (leNat (caCheck h) + bad)
/-- An entry: index 3, tag, value. -/
def wordEntry (tag : Byte) (v : Nat) : List Byte := [3, tag, 0, 0] ++ leBytes 16 v
def heard (m : Nat) (c : CSource) : Cpl := { sources := ⟨[(m, c)]⟩ }
theorem test_ring : (ring {}).caOn = true ∧ (ring {}).lotD.member = 0 ∧ (ring {}).lotD.cascadeIn 1 3 = some 16 := by decide +kernel
theorem test_cascade_frame : readCFrame (caFrame 0x11 1 0 7 5 (wordEntry 0x10 9) 0) = ⟨0x11, 1, 0, 7, 5, wordEntry 0x10 9, true⟩ ∧
    (readCFrame (caFrame 0x11 1 0 7 5 (wordEntry 0x10 9) 1)).ok = false := by decide +kernel
theorem test_words_bad : after (.words (caFrame 0x11 1 0 7 5 (wordEntry 0x10 9) 1)) (ring {}) = ring { discarded := 1 } ∧
    after (.keepalive (caFrame 0x11 1 0 7 5 (wordEntry 0x10 9) 1)) (ring {}) = ring { discarded := 1 } := by decide +kernel
def worded : State := after (.words (caFrame 0x11 1 0 7 5 (wordEntry 0x10 9) 0)) (ring {})
theorem test_words : worded.csrc 1 = ⟨some 2000000, some 5, false, true, 7, none⟩ ∧ worded.landing 16 = ⟨9, 0x08, 0⟩ ∧
    only [.cpl, .nmt, .log, .hpo] (ring {}) worded = true := by decide +kernel
/-- A sequence that is not later is not accepted; a word of quality FAULT lands with 0. -/
theorem test_words_old : (let s := ring (heard 1 ⟨some 1999000, some 5, true, true, 7, none⟩)
    let t := after (.words (caFrame 0x11 1 0 7 5 (wordEntry 0x10 9) 0)) s
    (t.csrc 1).lastValid = some 2000000 ∧ (t.csrc 1).fault = true ∧ t.nmt = s.nmt ∧
    (after (.words (caFrame 0x11 1 0 7 6 (wordEntry 0x13 9) 0)) s).landing 16 = ⟨0, 0x0B, 0⟩) := by decide +kernel
theorem test_keepalive : (let s := ring (heard 1 ⟨some 1999000, some 5, false, true, 7, none⟩)
    let t := after (.keepalive (caFrame 0x12 1 0xFF 7 9 [5, 0, 0, 0, 0, 0, 0, 0] 0)) s
    (t.csrc 1).lastValid = some 2000000 ∧ (t.csrc 1).fault = false ∧ t.nmt = s.nmt) := by decide +kernel
def invalid : State := after (.keepalive (caFrame 0x12 1 0xFF 7 9 [3, 0, 1, 0, 0, 0, 0, 0] 0)) (bare worded)
theorem test_keepalive_invalid : (bare worded).lotD.cascadeWords false 1 = [] ∧ (invalid.csrc 1).fault = true ∧ (invalid.csrc 1).lastValid = some 2000000 := by decide +kernel
def silent : State := after (.cascadeSourceTimeout 1) (bare (ring (heard 1 ⟨some 1950000, some 5, false, true, 7, none⟩)))
theorem test_source_timeout : after (.cascadeSourceTimeout 1) (ring (heard 1 ⟨some 1950001, some 5, false, true, 7, none⟩)) =
      ring (heard 1 ⟨some 1950001, some 5, false, true, 7, none⟩) ∧
    (silent.csrc 1).present = false ∧ (silent.csrc 1).fault = true ∧ silent.cpl.breaks = 1 := by decide +kernel
theorem test_ring_latency : after (.ringLatencyMeasure 1234) (ring {}) = ring { ringNs := 1234, ringAt := some 2000000 } := by decide +kernel
/-- R375: state, role, words valid. -/
theorem test_keepalive_send : after .keepaliveSend (ring { keepAt := some 1987501 }) = ring { keepAt := some 1987501 } ∧
    (let t := after .keepaliveSend (ring { keepAt := some 1987500 })
     t.cpl.keepAt = some 2000000 ∧ t.cpl.seqs.get 0 0xFF = 1 ∧ t.cpl.caOut.map (·.take 16) =
       [[0x12, 0, 0xFF, 8, 1, 0, 0, 0, BitVec.ofNat 8 Mode.run.code, BitVec.ofNat 8 (ring {}).cplRole.code, 0, 0, 0, 0, 0, 0]]) := by decide +kernel

/-! The cross-link (R378 to R383, R388, R393) -/

/-- A pair lot, with nothing bound; `more` are its sections. -/
def lotPair (more : List (Nat × List Byte)) : Lot :=
  { hdr := bytesOf [(8, leBytes 8 7), (43, [1, 0, 0, 2, 1])], digest := [0x12, 0x34, 0x56, 0x78], secs := ⟨more⟩ }
/-- A module of a pair whose cross-link is up. -/
def linkedTo (l : Lot) (m : Mode) (c : Cpl) : State := { running m l with cpl := { c with link := 2, fold := [1, 2, 3, 4, 5, 6, 7, 8], lastGood := 1999000 } }
def linked : Mode → Cpl → State := linkedTo (lotPair [])
/-- A frame as Table: Cross-link frame lays it out, with the check of R379. -/
def xl (type part n : Nat) (body : List Byte) : List Byte :=
  let h := [BitVec.ofNat 8 type, BitVec.ofNat 8 part] ++ leBytes 2 body.length ++ leBytes 4 n ++ body
  h ++ leBytes 4 (crc32c ([1, 2, 3, 4, 5, 6, 7, 8] ++ h)).toNat
/-- A module with a bound pair secret: region 9 sealed and read-locked. -/
def secretive : State :=
  let s := { running .run (lotPair []) with otp := { (base .run).otp with rlock := ⟨[(9, 7)]⟩ } }
  s.setOtpWord 319 (.holding (s.sealWord 9))
theorem test_pair_port : secretive.pairPort = true ∧ secretive.cpl.link ≠ 2 := by decide +kernel
/-- Both the right answer and a wrong one exist. -/
theorem test_training (o p : List Byte) : ∃ a b, a = secretive.trainingAnswer o p ∧ b ≠ secretive.trainingAnswer o p :=
  ⟨_, 0 :: secretive.trainingAnswer o p, rfl, List.cons_ne_self _ _⟩
def quiet (n : Nat) : State := { linked .run { role := .standby } with clk := { (linked .run {}).clk with real := n } }
theorem test_link_down : after (.crossLinkDown 2) (quiet 2048999) = quiet 2048999 ∧
    (let t := after (.crossLinkDown 3) (quiet 2048999)
     t.cpl.link = 1 ∧ t.cpl.fold = [] ∧ t.cplRole = .isolated ∧ t.xlUp = false) ∧
    (after (.crossLinkDown 0) (quiet 2049000)).cplRole = .isolated ∧
    (let s := linked .run { role := .active, badRun := 2 }
     (after (.crossLinkDown 1) s).cplRole = .active ∧ only [.cpl, .nmt, .log, .hpo] s (after (.crossLinkDown 1) s) = true) := by decide +kernel
theorem test_bad_check : (linked .run {}).xlUp = true ∧
    after (.result (xl 2 0 1 [] ++ [0])) (linked .run {}) = linked .run { badRun := 1 } := by decide +kernel
def res : PResult := ⟨5, 77, 1000, true, 4, 3⟩
def resBody : List Byte := leBytes 8 77 ++ leBytes 8 1000 ++ [1, 4] ++ leBytes 16 3
def comparing (r : Role) (own : Option PResult) : State := linked .run { role := r, parts := ⟨[(2, { own := own, missing := 1 })]⟩, peer := { role := 2, seen := true } }
theorem test_result : ((after (.result (xl 2 2 5 resBody)) (comparing .active none)).cpart 2).peer = some res ∧
    (let t := after (.result (xl 2 2 5 resBody)) (comparing .active (some { res with tick := 900 }))
     (t.cpart 2).compared = 6 ∧ (t.cpart 2).missing = 0 ∧ t.cpl.disagreements = 0) ∧
    (let t := after (.result (xl 2 2 5 resBody)) (comparing .active (some { res with sig := 78 }))
     t.cpl.disagreements = 1 ∧ t.cpl.disNow = true ∧ t.cplRole = .active) ∧
    (let t := after (.result (xl 2 2 5 resBody)) (comparing .standby (some { res with val := 2 }))
     t.cpl.disagreements = 1 ∧ t.cpl.disAt = some 1000000 ∧ t.sle.locOpen = true ∧ t.cplReady = false) := by decide +kernel
def statusBody (role : Byte) : List Byte := [5, role, 1, 255, 2, 0, 0, 0] ++ leBytes 8 7 ++ List.replicate 32 9
theorem test_status : (let s := linked .run { role := .standby }
    let t := after (.status (xl 3 0xFF 1 (statusBody 1))) s
    t.cpl.peer.seen = true ∧ t.cpl.peer.state = 5 ∧ t.cpl.peer.role = 1 ∧ t.cpl.peer.ready = true ∧ t.cpl.peer.cause = 255 ∧
    t.cpl.peer.lotId = 7 ∧ t.cpl.peer.sha = List.replicate 32 9 ∧ t.cplReady = true ∧ only [.cpl] s t = true) := by decide +kernel
theorem test_two_actives : (let t := after (.status (xl 3 0xFF 1 (statusBody 1))) (linked .run { role := .active, peer := { actRun := 1 } })
    haltedB 15 t = true ∧ t.cpl.trip = 1) ∧
    (after (.status (xl 3 0xFF 1 (statusBody 1))) (linked .run { role := .active })).sup.mode = .run := by decide +kernel
def pairEntry (w : Nat) (tag : Byte) (v : Nat) : List Byte := leBytes 2 w ++ [tag, 0] ++ leBytes 16 v
theorem test_entries : readEntries (pairEntry 40 0x10 9) 0 1 = [(40, ⟨9, 0x10, 0⟩)] := by decide +kernel
theorem test_pair_words : only [.cpl, .nmt] (linked .run {}) (after (.pairWords (xl 6 0xFF 1 (pairEntry 40 0x10 9))) (linked .run {})) = true := by decide +kernel
/-- A partition entry of no WOPs, period 500 us. -/
def entry : List Byte := [1, 0] ++ leBytes 2 0 ++ leBytes 4 0 ++ leBytes 2 100 ++ leBytes 2 0 ++ leBytes 4 0
def imgBody : List Byte := leBytes 8 990000 ++ leBytes 2 1 ++ pairEntry 4 4 0
def standing (ph : Phase) : State :=
  let s := linkedTo (lotPair [(4, entry ++ entry)]) .run { role := .standby }
  { s with sle := { s.sle with cur := some 5, parts := ⟨[(1, { phase := ph, seq := 4, stamp := 1 })]⟩ } }
theorem test_image : (let t := after (.image (xl 1 1 5 imgBody)) (standing .idle)
    (t.cpart 1).images = [⟨5, 990000, [(4, ⟨0, 4, 0⟩)]⟩] ∧ only [.cpl] (standing .idle) t = true) := by decide +kernel
theorem test_image_used : (standing .image).lotD.feeding ≠ some 1 ∧ (let t := after (.image (xl 1 1 5 imgBody)) (standing .image)
    (t.part 1).phase = .ready ∧ (t.part 1).stamp = 990000 ∧ (t.cpart 1).view = [(4, ⟨0, 4, 0⟩)] ∧ (t.cpart 1).images = [] ∧
    only [.cpl, .nmt, .sle] (standing .image) t = true) := by decide +kernel

/-! Resync, control messages (R402 to R404) -/

/-- Two partitions of 8 WOPs, 500 us. -/
def lotTwins : Lot := lotPair [(1, program ++ program), (4, [1, 0] ++ leBytes 2 0 ++ leBytes 4 8 ++ leBytes 2 100 ++ leBytes 2 0 ++ leBytes 4 0 ++
  [1, 0] ++ leBytes 2 8 ++ leBytes 4 8 ++ leBytes 2 100 ++ leBytes 2 0 ++ leBytes 4 0)]
/-- Module boundaries every 25,000 ticks from 0; 1,510,000 is the first at 1,500,001 or later. -/
theorem test_resync_request : (let s := linkedTo lotTwins .run { role := .active }
    s.lotD.feeding = some 0 ∧ s.lotD.pPeriod 0 = 25000 ∧ (after (.resyncRequest .crossLink) s).cpl.ts = 1500000 ∧
    (let u := { s with clk := { s.clk with now := 1000001 } }
     (after (.resyncRequest .crossLink) u).cpl.ts = 1525000 ∧ only [.cpl] u (after (.resyncRequest .crossLink) u) = true)) := by decide +kernel
/-- Two partitions without WOPs. -/
def lotEmpty : Lot := lotPair [(4, entry ++ entry)]
def resyncing (r : ResyncStep) : State := linkedTo lotEmpty .run { role := .resync, resync := r, parts := ⟨[(0, { compared := 3 })]⟩ }
theorem test_resync_start : (after (.resyncStart .crossLink 1500000) (resyncing .requested)).cpl = { (resyncing .requested).cpl with lastGood := 2000000, resync := .gathering, ts := 1500000, parts := {} } := by
  decide +kernel
theorem test_full_image : lotEmpty.inUse = [0, 1] ∧ readCommitted lotEmpty 0 (imgBody ++ List.replicate 8 0) 30 = ([], [], 0, 38) := by decide +kernel
def installed : State := after (.fullImage (xl 5 1 9 (imgBody ++ leBytes 8 975000))) (resyncing .gathering)
theorem test_full_image_installed : (installed.cpart 1).full = true ∧ (installed.cpart 1).images = [⟨9, 990000, [(4, ⟨0, 4, 0⟩)]⟩] ∧ installed.cpl.resync = .gathering ∧
    (installed.part 1).phase = .idle ∧ (installed.part 1).stamp = 975000 ∧ (installed.part 1).seq = 8 ∧ only [.cpl, .nmt, .sle] (resyncing .gathering) installed = true := by
  decide +kernel
theorem test_disagreement : (let s := linked .run { role := .active }
    let t := after (.disagreement .crossLink 3 9) s
    (t.cpart 3).compared = 10 ∧ t.cpl.disagreements = 1 ∧ t.cpl.disNow = true ∧ only [.cpl, .log, .hpo] s t = true ∧
    after (.disagreement .crossLink 3 9) { s with cpl := t.cpl } = { s with cpl := t.cpl }) := by decide +kernel
def halting (d : Dbg) : State :=
  let s := linkedTo lotTwins .commissioning { role := .standby }
  { s with sle := { s.sle with dbg := d, cur := some 1, parts := ⟨[(1, { phase := .passes, gi := 3, oi := 3 })]⟩ } }
theorem test_control_halt : (after (.controlHalt .crossLink 1 10) (halting {})).sle.dbg = { state := 1, part := some 1, idx := 10, stopAt := some 2 } ∧
    lotTwins.pFirst 1 = 8 ∧ lotTwins.pCount 1 = 8 := by decide +kernel
theorem test_partner_step : (let t := after (.stepResume .crossLink false ⟨.clean, 0⟩ ⟨.clean, 0⟩) (halting { state := 2, part := some 1, idx := 10, stopAt := some 2 })
    t.sle.dbg = { state := 2, part := some 1, idx := 11, stopAt := some 3 } ∧ (t.part 1).gi = 4 ∧ (t.part 1).oi = 4) := by decide +kernel
theorem test_partner_resume : (let t := after (.stepResume .crossLink true ⟨.clean, 0⟩ ⟨.clean, 0⟩) { halting { state := 2, part := some 1, idx := 10, stopAt := some 2 } with sout := { grps := ⟨[(0, { state := .closed }), (1, { state := .closing })]⟩ } }
    t.sle.dbg.state = 0 ∧ t.sup.driveRemoved = false ∧ (t.grp 0).state = .cutOff ∧ (t.grp 1).state = .cutOff) := by decide +kernel
theorem test_control_command : (let s := linked .commissioning { role := .standby }
    after (.controlCommand .crossLink 3 1025000) { s with cpl := { s.cpl with badRun := 2 } } = { s with sup := { s.sup with cmd := some { cmd := .run, tag := none, at? := some 1025000 } }, cpl := { s.cpl with lastGood := 2000000 } } ∧
    after (.controlCommand .crossLink 4 1025000) s = { s with sup := { s.sup with cmd := some { cmd := .commission, tag := none, at? := some 1025000 } }, cpl := { s.cpl with lastGood := 2000000 } }) := by
  decide +kernel
/-- A calibration of 6,250,000 counts passes (R52). -/
theorem test_control_park : (let s := linked .run { role := .standby }
    s.xlUp = true ∧ s.cmdRefusal { cmd := .park, tag := none, count1 := 6250000, count2 := 6250000, at? := some 1025000 } = none ∧
    s.cmdRefusal { cmd := .park, tag := none, count1 := 0, count2 := 6250000, at? := some 1025000 } = some 0x0F000212 ∧
    (let t := after (.controlPark .crossLink 1025000 6250000 6250000 60) s
     t.sup.pend = .parked 1025000 ∧ t.sup.wakeDelay = 60 ∧ t.clk.rho = rhoOf 6250000 6250000 ∧ only [.sup, .clk, .cpl] s t = true) ∧
    only [.cpl] s (after (.controlPark .crossLink 1025000 0 1000000 60) s) = true) := by decide +kernel
def asking (w : List Nat) : State := linked .run { gpark := some ⟨1025000, w, 1990000, true, none⟩ }
def pending_ (s : State) : State := { s with sup := { s.sup with pend := .parked 1025000 } }
theorem test_park_answer : (after (.parkAnswer .crossLink 0) (asking [8, 5])).cpl.gpark = some ⟨1025000, [5], 1990000, true, none⟩ ∧
    (let t := after (.parkAnswer .crossLink 0) (asking [8])
     t.cpl.gpark = none ∧ done t = true) ∧
    (let t := after (.parkAnswer .crossLink 0x0210) (pending_ (asking [8, 5]))
     t.sup.pend = .none ∧ t.cpl.gpark = none ∧ aborts 0x0F000210 t = true) := by decide +kernel
theorem test_abandon : (let t := after (.abandonPark .crossLink) (pending_ (asking [8, 5]))
    t.sup.pend = .none ∧ t.cpl.gpark = none ∧ t.log.seq = 1) := by decide +kernel
theorem test_round_trip : (let t := after (.crossLinkRoundTrip 301) (linked .run {})
    t.clk.linkAllowanceNs = 150 ∧ t.cpl.tripTimeAt = some 2000000 ∧ after (.crossLinkRoundTrip 500) t = t) := by decide +kernel

/-! The OWN and TRIP loops (R389 to R395) -/

def owning (r : Role) (c : Cpl) : State := linked .run { c with role := r }
/-- Four like samples of the OWN loop: a current in uA, a voltage in mV. -/
def loopAt (ua mv : Nat) : List (Nat × Nat) := List.replicate 4 (ua, mv)
theorem test_own_band : (let s := running .run (lotOf [])
    (after (.ownBandChange (loopAt 10000 6000)) s).cpl = { s.cpl with ownCurrent := 1000, ownBand := .holding, ownSince := 2000000 } ∧
    (after (.ownBandChange [(4000, 0), (10000, 6000), (10000, 6000), (10000, 6000)]) s).cpl = { s.cpl with ownCurrent := 1000 }) ∧
    haltedB 15 (after (.ownBandChange (loopAt 4000 3000)) (owning .active { ownBand := .holding })) = true ∧
    (let s := owning .standby { ownBand := .holding, peer := { seen := true, lotId := 7 } }
     let t := after (.ownBandChange (loopAt 4000 3000)) s
     s.cplReady = true ∧ t.cplRole = .active ∧ t.sup.mode = .run ∧ t.cpl.takeOvers = 1 ∧ t.clk.disc = .free ∧ t.nmt.comG = s.nmt.comG) ∧
    (let s := owning .standby { ownBand := .released }
     let t := after (.ownBandChange (loopAt 10000 6000)) s
     t.cpl.ownBand = .holding ∧ only [.cpl] s t = true) := by decide +kernel
/-- The bands of Table: OWN loop bands at their ends. -/
theorem test_own_bands : [(1499, 0), (1500, 0), (3000, 0), (5000, 0), (5001, 0), (8500, 0), (11500, 0), (17000, 4000), (23000, 8000), (17000, 3999)].map bandAt =
    [.openWire, .outside, .released, .released, .outside, .holding, .holding, .unpowered, .unpowered, .outside] := by decide
theorem test_role_timeout : (let s := { owning .undecided { ownBand := .released, ownSince := 0 } with clk := { (owning .active {}).clk with real := 100000000 } }
    (after .roleDecisionTimeout s).cplRole = .active ∧
    (let u := { s with clk := { s.clk with real := 99999999 } }
     after .roleDecisionTimeout u = u)) := by decide +kernel
def openWire : State := { owning .active { tripLow := some 1000 } with clk := { (owning .active {}).clk with real := 50001000 } }
theorem test_trip : (let t := after (.tripPulled [15000, 15000, 15000, 15000]) (owning .active {})
    haltedB 15 t = true ∧ t.cpl.trip = 2 ∧ t.cpl.tripOpen = false) ∧
    after (.tripPulled [15000, 14999, 15000, 15000]) (owning .active {}) = owning .active {} ∧
    (after .tripPullEnd (owning .active { trip := 2 })).cpl.trip = 0 ∧
    (let s := { owning .active { trip := 1, tripAt := 1000 } with clk := { (owning .active {}).clk with real := 5001000 } }
     (after .tripPullEnd s).cpl.trip = 0) := by decide +kernel
theorem test_trip_open_wire : (let t := after (.tripOpenWire 499) openWire
    t.cpl.tripOpen = true ∧ t.log.seq = 1) ∧
    (let u := { openWire with clk := { openWire.clk with real := 50000999 } }
     after (.tripOpenWire 499) u = u) ∧
    (after (.tripOpenWire 500) openWire).cpl = { openWire.cpl with tripLow := none } := by decide +kernel
theorem test_check_values : (let digits : List Byte := [0x31, 0x32, 0x33, 0x34, 0x35, 0x36, 0x37, 0x38, 0x39]
    [0, 1, 2, 3].map (fun k => Nat.xor (polyFeed k (polyInit k) digits) (polyXor k)) = [0xCBF43926, 0xE3069283, 0x29B1, 0xF4]) := by decide +kernel

/-! Ill-formed commands: one for each check, beside the largest operands that pass (log entry 6) -/

theorem test_wf_straps : (Instr.powerOn ⟨230, false⟩ 3300 { bootOk with straps := ⟨1024, 1024⟩ }).wf = true ∧
    (Instr.powerOn ⟨230, false⟩ 3300 { bootOk with straps := ⟨1025, 0⟩ }).wf = false ∧ (Instr.strapReread ⟨0, 1025⟩).wf = false ∧
    (Instr.nrst 10000 { bootOk with straps := ⟨0, 1025⟩ }).wf = false ∧ (Instr.pfsRestart ⟨230, false⟩ { bootOk with straps := ⟨1025, 0⟩ }).wf = false ∧
    (Instr.reset { bootOk with straps := ⟨1025, 0⟩ }).wf = false := by decide
theorem test_wf_units : (Instr.startUpBistComplete 1 1000000 0 ⟨[.lane 131, .wordG 2079, .wordO 2079, .row 65543], 0, 0, 0, true, 250000⟩ ⟨[], []⟩).wf = true ∧
    (Instr.startUpBistComplete 1 1000000 0 ⟨[.lane 132], 0, 0, 0, true, 250000⟩ ⟨[], []⟩).wf = false ∧
    (Instr.localisationComplete (some (.wordG 2080))).wf = false ∧ (Instr.localisationComplete (some (.wordO 2080))).wf = false ∧
    (Instr.localisationComplete (some (.row 65544))).wf = false := by decide
theorem test_wf_findings : (SliceFinding.correctedRow 65543).wf = true ∧ (SliceFinding.correctedRow 65544).wf = false ∧
    (SliceFinding.badRow 65544).wf = false ∧ (Instr.bistSlice .background (.failed [.lane 132]) 0).wf = false ∧
    (Instr.otpReread ⟨[(512, {})], []⟩).wf = false ∧ (Instr.otpReread ⟨[], [⟨16, true, {}⟩]⟩).wf = false ∧
    (Instr.acceptanceComplete [⟨16, 0, false, ⟨.clean, 0⟩⟩]).wf = false ∧ (Instr.acceptanceComplete [⟨0, 65536, false, ⟨.clean, 0⟩⟩]).wf = false := by decide
theorem test_wf_samples : (Instr.pulseDecision 0 0 false 161 true).wf = false ∧ (Instr.ownBandChange [(0, 0)]).wf = false ∧
    (Instr.tripPulled [0]).wf = false ∧ (Instr.readbackChange (List.replicate 15 0) [0, 0] [0, 0]).wf = false ∧
    (Instr.swatchGatherTimeout [(16, [])]).wf = false := by decide
theorem test_wf_frames : (Instr.cycleFrame .ha (List.replicate 1518 0)).wf = true ∧ (Instr.cycleFrame .ha (List.replicate 1519 0)).wf = false ∧
    (Instr.trunkFrame .ta (List.replicate 1519 0)).wf = false ∧ (Instr.write 1 0 (List.replicate 1033 0)).wf = false ∧
    (Instr.beatWrite 1 0 (List.replicate 1033 0)).wf = false ∧ (Instr.blockWrite 1 0 0 (List.replicate 1029 0)).wf = false := by decide +kernel
theorem test_wf_links : (SyncLink.cascade 7).wf = true ∧ (Instr.syncSymbol (.cascade 8) 0 0 0 none).wf = false ∧ (Instr.crossLinkDown 4).wf = false ∧
    (Instr.crossLinkTraining (List.replicate 16 0) (List.replicate 16 0) (List.replicate 8 0)).wf = true ∧
    (Instr.crossLinkTraining (List.replicate 15 0) (List.replicate 16 0) (List.replicate 8 0)).wf = false ∧
    (Instr.crossLinkTraining (List.replicate 16 0) (List.replicate 15 0) (List.replicate 8 0)).wf = false ∧
    (Instr.crossLinkTraining (List.replicate 16 0) (List.replicate 16 0) (List.replicate 7 0)).wf = false := by decide

/-! Releases of the feeding partition (R146, R157, R164) -/

/-- Partition 0 alone is at its release instant; it is the feeding one; `c` waits at the boundary. -/
def feedingAt (wd armed : Bool) (count : Nat) (ph : Phase) (c : Option PendCmd) (m : Mode := .run) : State :=
  let s := running m (lotOf [])
  { s with
    pwr := { s.pwr with doms := onDoms [0, 1, 3, 4, 5, 6, 7, 8, 9] }, hpo := { s.hpo with quality := 0 },
    nmt := { s.nmt with land := ⟨[(16, ⟨5, 0x30, 0⟩)]⟩ },
    sup := { s.sup with wdRunning := wd, wdArmed := armed, wdCount := count, wdFedAt := 1990000, cmd := c },
    sle := { s.sle with feed := 7, parts := ⟨[(0, { phase := ph, key := 3, stamp := 975000, relAt := 975000 })]⟩ } }
def fed (s : State) : State := after (.partitionRelease 0) s
theorem test_feed : (let s := feedingAt true true 7 .idle none
    s.lotD.feeding = some 0 ∧ s.isInstant 0 = true ∧ s.feedMissing = false ∧
    (fed s).sle.feed = 8 ∧ (fed s).sup = { s.sup with wdArmed := false, wdFedAt := 2000000, wdCount := 8 } ∧
    (fed (feedingAt false false 7 .idle none)).sup = (feedingAt false false 7 .idle none).sup ∧
    (fed (feedingAt false true 300 .idle none)).sup.wdCount = 8) := by decide +kernel
theorem test_feed_missing : (feedingAt true false 7 .idle none).feedMissing = true ∧ haltedB 3 (fed (feedingAt true false 7 .idle none)) = true ∧
    haltedB 3 (fed (feedingAt true true 8 .idle none)) = true := by decide +kernel
/-- R164: the attempt is still open at the next release instant; with no feed beside it two causes at one instant. -/
theorem test_missed : haltedB 2 (fed (feedingAt true true 7 .gate none)) = true ∧ (fed (feedingAt true true 7 .gate none)).nmt = (feedingAt true true 7 .gate none).nmt ∧
    (fed (feedingAt true false 7 .gate none)).sup.firstCause = some 2 ∧ (fed (feedingAt true false 7 .gate none)).sup.causes = 12 := by
  decide +kernel
def bounded (m : Mode) (c : Cmd) (at? : Option Nat) : State := feedingAt true true 7 .idle (some { cmd := c, tag := none, at? := at? }) m
/-- R63, R157: what waits for a boundary is done at it, refused at it, or waits on. -/
theorem test_boundary_command : (let run := bounded .commissioning .run none
    run.cmdRefusal { cmd := .run, tag := none } = none ∧ (fed run).sup.mode = .run ∧ (fed run).sup.cmd = none ∧ done (fed run) = true) ∧
    (fed (bounded .run .commission none)).sup.mode = .commissioning ∧ (fed (bounded .commissioning .configure none)).sup.mode = .configuring ∧
    (fed (bounded .run .halt none)).sup.firstCause = some 0 ∧ dark (fed (bounded .run .halt none)) = true := by decide +kernel
theorem test_boundary_waits : (fed (bounded .commissioning .run (some 1000001))).sup.cmd = (bounded .commissioning .run (some 1000001)).sup.cmd ∧
    (fed (bounded .run .configure none)).sup.mode = .run ∧ aborts 0x0F000201 (fed (bounded .run .configure none)) = true ∧
    (fed (bounded .run .configure none)).sup.cmd = none := by decide +kernel

/-! Reset edges of a channel (R188, R222, R233, R249, R284, R299) -/

/-- I02 is the reset source of I00, I24, their pair, S0, S4, their pair and SLS on it, analog pair 0 and group LF0; I05 would release
Safe Halt. Partition 0 writes W8. -/
def lotReset : Lot := lotOf [(1, wopBytes 0 0x8888 (opndBits 16 0 0) 0 0 0 8 0 0 0 ++ program.drop 16), (5, bytesOf [
  (0, [1, 0] ++ leBytes 2 10 ++ [0, 0] ++ leBytes 2 100 ++ leBytes 2 0 ++ [2, 0]),
  (32, [1, 0] ++ leBytes 2 10 ++ [0, 0] ++ leBytes 2 100 ++ leBytes 2 0 ++ [0xFE, 2]),
  (384, [1, 0] ++ leBytes 2 10 ++ [0, 0] ++ leBytes 2 100 ++ leBytes 2 0 ++ [2, 0]),
  (0x300, [1, 2] ++ leBytes 2 50), (0x400, [0, 5]),
  (0x410, [1, 0] ++ leBytes 2 10 ++ leBytes 2 1 ++ leBytes 2 10 ++ leBytes 2 10),
  (0x510, [2, 0] ++ leBytes 2 10 ++ leBytes 2 1),
  (0x530, [1, 0] ++ leBytes 2 2 ++ leBytes 2 1 ++ [2]), (0x570, [1, 0] ++ leBytes 2 2 ++ leBytes 2 1 ++ [2]),
  (0x5B0, [1, 2] ++ leBytes 2 1000 ++ leBytes 2 10 ++ leBytes 2 10 ++ leBytes 4 5),
  (0x5F0, [4, 0, 0xFF, 0xFF, 2] ++ [0, 0, 0] ++ leBytes 4 1000),
  (0x6B0, [1, 0] ++ leBytes 2 2), (0x6F0, [1, 0] ++ leBytes 2 2), (0x730, [1, 2] ++ leBytes 2 1 ++ leBytes 4 100)])]
/-- I02 has been pressed for 50 ms; its 200th low sample is now. -/
def releasing2 (k : Nat) (chans : List (Nat × Chan)) (g : Grp) (o : Out) (w8 : Lanes := 0) : State :=
  let s := running .run lotReset
  { s with
    clk := { s.clk with now := 53500000 },
    sin := { s.sin with chans := ⟨(2, { raw := true, f := true, count := 199, sampledAt := 53499750, rise := some 51000000 }) :: chans⟩,
                        pairs := ⟨[(0, { state := .fault, code := 1, both0 := true, both1 := true })]⟩ },
    tmu := { s.tmu with speeds := ⟨[(0, { fault := 0xE, loop := 0, validSince := some 1 })]⟩, spairs := ⟨[(0, { fault := true })]⟩, motions := ⟨[(0, { violated := true })]⟩ },
    aaq := { s.aaq with chans := ⟨[(0, { valid := true, value := 900 }), (4, { valid := true, value := 850 })]⟩, pairs := ⟨[(0, { diff := 50, fault := true })]⟩ },
    sout := { s.sout with grps := ⟨[(0, g)]⟩, outs := ⟨[(0, o)]⟩, w8 := w8 },
    sle := { s.sle with parts := ⟨[(0, { relK := k })]⟩ } }
def edge2 (s : State) : State := after (.filteredEdge 2 [(5999, 1)]) s
def upC : Chan := { f := true, raw := true }
def cutG (good : Bool) : Grp := { state := .cutOff, latch := true, cause := 3, good := good }
/-- Before the partition that writes W8 is released at this tick: the releases wait for it. -/
theorem test_reset_releases : (let s := releasing2 2140 [(0, { upC with chatter := true }), (24, upC)] (cutG true) { code := 6 }
    let t := edge2 s
    s.edgeAccepted 2 53500000 false = true ∧ s.w8Boundary = false ∧ s.mayClose = true ∧ s.lotD.prReset 0 = 2 ∧
    (t.chan 0).chatter = false ∧ (t.inPair 0).state = .active ∧ (t.inPair 0).code = 0 ∧ (t.speed 0).fault = 0 ∧ (t.spair 0).fault = false ∧
    (t.apair 0).fault = false ∧ (t.motion 0).violated = false ∧ (t.out 0).code = 0 ∧ (t.grp 0).relCut = true ∧ (t.grp 0).latch = true ∧
    (t.grp 0).relDue = true) := by decide +kernel
/-- After its release: they take effect now; what has not cleared stays. -/
theorem test_reset_at_boundary : (let s := releasing2 2141 [(0, { upC with fault := 2, missed := 2 }), (24, upC)] (cutG true) { code := 6 } 1
    let t := edge2 s
    s.w8Boundary = true ∧ s.chanCleared 0 = false ∧ (t.chan 0).fault = 2 ∧ (t.inPair 0).state = .fault ∧ (t.inPair 0).code = 1 ∧ (t.out 0).code = 6 ∧
    (t.grp 0).state = .closing ∧ (t.grp 0).closeAt = 53500000 ∧ (t.grp 0).latch = false ∧ (t.grp 0).cause = 0) := by decide +kernel
theorem test_reset_not_good : (let t := edge2 (releasing2 2140 [] (cutG false) {})
    (t.grp 0).latch = true ∧ (t.grp 0).cause = 3 ∧ (t.grp 0).relDue = false ∧ (t.grp 0).state = .cutOff) := by decide +kernel

/-! Tests of outputs: what was on, parallel groups, the bleed check (R210, R211, R218) -/

def groupPulse (wasOn notLow : BitVec 16) : State := outputsAt 10015000 closedG onO (some { of := .group 0, start := 10010000, notLow := notLow, wasOn := wasOn })
/-- An output that was on as the test began latches code 2, one that was off does not. -/
theorem test_group_was_on : (let t := after (.groupTestDecision 0 true 1 0) (groupPulse 1 0)
    (t.out 0).code = 2 ∧ (t.grp 0).state = .fault) ∧
    (let t := after (.groupTestDecision 0 true 1 0) (groupPulse 0 0)
     (t.out 0).code = 0 ∧ (t.grp 0).state = .closed) ∧ (outputsAt 10010000 closedG onO none).onMask = 7 := by decide +kernel
/-- Q08 has not been switched while the test ran, and its pin was low before. -/
theorem test_group_bleed : (let s := groupPulse 7 0xFF00
    let t := after (.groupTestDecision 0 true 0 0x0100) s
    s.passive 8 = false ∧ s.lotD.outSource 8 = none ∧ (t.out 8).code = 4 ∧ (t.grp 0).state = .fault ∧ (t.grp 1).state = .fault) := by decide +kernel
def darkPulse (src : DarkSource) (urgent : List (Nat × Nat)) : State :=
  outputsAt 10050000 closedG onO (some { of := .dark src, start := 10040000, notLow := 0xFF00, urgent := urgent })
theorem test_dark_bleed : (let t := after (.darkTestDecision (.single 0) 1 0x0100) (darkPulse (.single 0) [(0, 900)])
    (t.out 8).code = 4 ∧ (t.out 0).code = 4 ∧ (t.grp 0).state = .fault) := by decide +kernel
theorem test_dark_parallel : (let s := darkPulse (.parallel 0) [(1, 900), (2, 6500)]
    let t := after (.darkTestDecision (.parallel 0) 6 0) (darkPulse (.parallel 0) [(1, 900)])
    let u := after (.darkTestDecision (.parallel 0) 6 0) s
    let v := after (.darkTestDecision (.parallel 0) 4 0) s
    s.lotD.darkOuts (.parallel 0) = [1, 2] ∧ (t.out 1).seen = 1 ∧ (t.out 2).lastTest = 0 ∧ t.grp 0 = closedG ∧
    (u.out 2).code = 7 ∧ (v.out 1).code = 2 ∧ (v.out 1).lastTest = 1 ∧ (v.grp 0).state = .fault) := by decide +kernel
theorem test_dark_parallel_starts : (running .run lotQ).lotD.testSlot (.dark (.parallel 0)) = some (450, 250) ∧
    (let a := outputsAt 10022500 closedG onO none
     let s := { a with sout := { a.sout with outs := ⟨[(0, onO), (1, onO), (2, onO)]⟩ } }
     let t := after (.darkTest (.parallel 0)) s
     s.slotStart (.dark (.parallel 0)) = true ∧ s.testsRun = true ∧ s.testable 1 = true ∧ s.testable 2 = true ∧ t.inPulse 1 = true ∧
     t.inPulse 2 = true ∧ t.switchOn .solo 1 = false ∧ t.switchOn .solo 2 = false ∧ t.switchOn .solo 0 = true) := by decide +kernel

/-! Output and group faults (R216, R219, R221) -/

theorem test_unused_group : (let t := after (.readbackFault 0 .notLow) (outputsAt 1000000 { state := .unused } {} none)
    (t.out 0).code = 1 ∧ (t.grp 0).state = .unused) := by decide +kernel
def onFor (now : Nat) : State := outputsAt now closedG { onO with onSince := some 0 } none
theorem test_open_load : (after (.openLoad 0) (onFor 5005000)).out 0 = { (onFor 0).out 0 with code := 6, faults := 1, sw := false, offAt := 5005000, onSince := none } ∧
    after (.openLoad 0) (onFor 5004999) = onFor 5004999 := by decide +kernel
def retrying (now code : Nat) : State := outputsAt now { closedG with state := .fault, code := code, triedAt := 10000000 } {} none
theorem test_open_retry : (retrying 60015000 1).openRetryAt 0 = some (60010000, 12500) ∧
    (after (.groupOpenRetry 0 true) (retrying 60015000 1)).grp 0 =
      { closedG with state := .fault, code := 1, cleared := true, triedAt := 60015000, openAt := 60015000 } := by decide +kernel

/-! The conditions that qualify at an LF monitor (R49, R50) -/

def lfOf (m : LfMon) : Grp := { closedG with lf := m }
theorem test_lf_causes : (lfOf { collapse := ⟨some 999750, false⟩ }).lfCauses 0 2000000 1000000 11850 = [3] ∧
    4 ∈ (lfOf { ovolt := ⟨some 995250, false⟩ }).lfCauses 0 2000000 1000000 30150 ∧
    2 ∈ (lfOf { sag := ⟨some 900250, false⟩ }).lfCauses 0 2000000 1000000 16650 := by decide +kernel

/-! Motion functions (R245 to R249) -/

/-- Speed inputs S0 and S4 of one pair at 500,000 mHz; motion function 0 of type `ty` on it: `vmax`, `vlow`, `vss` in mHz, t_start 10 ms,
a 1,000, t_max 100 ms, t_ss 10 ms, t_lim 10 ms; Q00 enables a type 3. -/
def lotMo (ty vmax vlow vss : Nat) : Lot := lotOf [(5, bytesOf [
  (0x530, [1, 0] ++ leBytes 2 20 ++ leBytes 2 100 ++ [0xFF]), (0x570, [1, 0] ++ leBytes 2 20 ++ leBytes 2 100 ++ [0xFF]),
  (0x5B0, [1, 0xFF] ++ leBytes 2 1000 ++ leBytes 2 10 ++ leBytes 2 100 ++ leBytes 4 1000),
  (0x5F0, [BitVec.ofNat 8 ty, 0, 0xFF, 0, 0xFF, 0, 0, 0] ++ leBytes 4 vmax ++ leBytes 4 vlow ++ leBytes 2 0 ++ leBytes 2 1 ++ leBytes 4 vss ++
    leBytes 4 0 ++ leBytes 4 1000 ++ leBytes 2 0 ++ leBytes 2 10 ++ leBytes 2 10 ++ leBytes 2 10)])]
def moving (l : Lot) (fault : BitVec 4) (q : Motion) : State :=
  let s := running .run l
  let c : SpeedCh := { stamps := [99950000], m := 1, span := 100000, est := 500000 }
  { s with
    clk := { s.clk with now := 100000000 }, sout := { s.sout with outs := ⟨[(0, { pinHigh := true })]⟩ },
    tmu := { s.tmu with speeds := ⟨[(0, { c with fault := fault }), (4, c)]⟩, motions := ⟨[(0, q)]⟩ } }
def moved (l : Lot) (fault : BitVec 4) (q : Motion) : Motion := (after .motionUpdate (moving l fault q)).motion 0
def ramp (tr vr : Nat) : Motion := { ramp := true, request := true, tr := tr, vr := vr }
/-- R246: above the envelope for 1 ms; under it until standstill or t_max; the fallback to time. -/
theorem test_ss1 : (let l := lotMo 1 400000 0 1000
    let above := moved l 0 { ramp 99999000 1000 with envSince := some 99950000 }
    let under := moved l 0 (ramp 99999000 600000000)
    let late := moved l 0 (ramp 95000000 600000000000)
    let timed := moved l 2 (ramp 99999000 600000000)
    let past := moved l 0 { ramp 95000000 1000 with fallback := true }
    (above.violated = true ∧ above.cause = 1 ∧ above.ramp = false ∧ above.stopped = true) ∧ (under.ramp = true ∧ under.stand = false) ∧
    (late.ramp = false ∧ late.stopped = true) ∧ (timed.fallback = true ∧ timed.ramp = true ∧ timed.violated = false) ∧
    (past.ramp = false ∧ past.stopped = true)) := by decide +kernel
theorem test_ss1_stand : (let q := moved (lotMo 1 400000 0 500000) 0 { ramp 99999000 600000000 with standSince := some 99000000 }
    q.stand = true ∧ q.ramp = false ∧ q.stopped = true) ∧ (moved (lotMo 1 0 0 1000) 0 { stopped := true }).stopped = false := by decide +kernel
/-- R247, R248: overspeed, underspeed, an invalid speed. -/
theorem test_overspeed : (let q := moved (lotMo 4 400000 0 0) 0 { overSince := some 99500000 }
    q.violated = true ∧ q.cause = 2) ∧ (moved (lotMo 4 600000 0 0) 0 { overSince := some 99500000 }).violated = false := by decide +kernel
theorem test_underspeed : (moving (lotMo 3 0 600000 0) 0 {}).w4.val.getLsbD 0 = true ∧
    (let q := moved (lotMo 3 0 600000 0) 0 { underSince := some 99500000, enableSince := some 1000000 }
     q.violated = true ∧ q.cause = 3) := by decide +kernel
theorem test_speed_invalid : (moved (lotMo 4 600000 0 0) 2 {}).cause = 4 ∧ (moved (lotMo 3 0 400000 0) 2 { enableSince := some 1000000 }).cause = 4 := by
  decide +kernel
/-- R246: the request lane of function 0 in W8 rises. -/
theorem test_motion_take : (let s := moving (lotMo 1 400000 0 1000) 0 {}
    let q := (s.motionTake 0x10000).motion 0
    q.ramp = true ∧ q.tr = 100000000 ∧ q.vr = 500000000 ∧ q.fallback = false ∧ s.moStand 0 (s.motion 0) = false) := by decide +kernel
/-- R430: the loop-back test of a speed channel whose bank is off is passed over; R283: beyond 210 kHz, and 10 s without an edge. -/
theorem test_speed_bounds : (let s := moving (lotMo 1 400000 0 1000) 0 {}
    let u : State := { s with pwr := { s.pwr with doms := onDoms [0, 7] } }
    u.speedOn 0 = false ∧ (after (.speedLoopBack true) u).tmu.nextLoop = 1 ∧
    (let v : State := { s with tmu := { s.tmu with speeds := ⟨[(0, { stamps := [99999900], m := 1, span := 200 })]⟩ } }
     ((after .motionUpdate v).speed 0).fault = 2 ∧ ((after .motionUpdate v).speed 0).est = 250000000) ∧
    (let w : State := { s with clk := { s.clk with now := 600000500 } }
     ((after .motionUpdate w).speed 0).est = 0)) := by decide +kernel

/-! AAQ's readings of the pairs, pins, supplies and references (R298 to R302, R51, R178, R211, R220, R294) -/

/-- Analog inputs 0 and 4 as a pair with a tolerance of 100 for 10 ms; Q00 SAFETY in group LF0; T0 feeds I00. -/
def lotA : Lot := lotOf [(5, bytesOf [
  (0, [2, 0] ++ leBytes 2 10 ++ [0, 5] ++ leBytes 2 100 ++ leBytes 2 0 ++ [0xFF, 0]), (0x3C0, [2, 0] ++ leBytes 2 10 ++ leBytes 2 1), (0x3C8, [1]),
  (0x410, [1, 0] ++ leBytes 2 10 ++ leBytes 2 1 ++ leBytes 2 10 ++ leBytes 2 10), (0x510, [0xFF, 0] ++ leBytes 2 10 ++ leBytes 2 1),
  (0x6B0, [1, 0] ++ leBytes 2 2), (0x6F0, [1, 0] ++ leBytes 2 2), (0x730, [1, 0xFF] ++ leBytes 2 1 ++ leBytes 4 100)])]
/-- Entry e of the table is due at this tick. -/
def slotAt (e : Nat) : State :=
  let s := running .run lotA
  { s with
    clk := { s.clk with now := 1000000 + 50 * e },
    sin := { s.sin with srcs := ⟨[(0, { state := .on }), (1, { state := .on })]⟩ },
    sout := { s.sout with outs := ⟨[(0, { sw := true, pinHigh := true })]⟩, w8 := 1,
                          grps := ⟨[(0, { state := .closed, latch := false, cause := 0, good := true, railClosed := true, mv := 24000, lf := { seen := true, good := true } })]⟩ } }
def read (e : Fin 64) (v : Int) (s : State) : State := after (.aaqConversion e 7 v) s
def pairAt (q : APair) (good : Bool) : State :=
  let s := slotAt 4
  { s with aaq := { s.aaq with rounds := ⟨[(0, 201)]⟩, chans := ⟨[(0, { valid := true, value := 5000, run := 3 }), (4, { valid := good, value := 5000, run := 3 })]⟩, pairs := ⟨[(0, q)]⟩ } }
theorem test_slot_order : ([0, 4, 8, 24, 27, 28, 39, 43, 49, 50].all (fun e => (slotAt e).convertible e && ! (slotAt e).urgentOpen)) = true ∧
    (slotAt 4).aaq.rounds.get 0 0 ≠ 201 ∧ (pairAt {} true).aaq.rounds.get 0 0 = 201 := by decide +kernel
theorem test_pair_differs : ((read 4 5100 (pairAt { since := some 5 } true)).apair 0) = { diff := 100, largest := 100 } ∧
    (let q := (read 4 5101 (pairAt {} true)).apair 0
     q.diff = 101 ∧ q.since = some 1000200 ∧ q.fault = false) ∧
    ((read 4 5101 (pairAt { since := some 500200 } true)).apair 0).fault = true ∧
    ((read 4 200000 (pairAt { since := some 500200 } true)).apair 0).since = none := by decide +kernel
/-- R220: a pin at 21.3 V under 24 V disagrees with a high decision. -/
theorem test_pin_reading : (let s := slotAt 8
    let two : State := s.setOut 0 { s.out 0 with disagree := 2 }
    ((read 8 21300 two).out 0).code = 7 ∧ ((read 8 21300 two).grp 0).state = .fault ∧ ((read 8 21301 two).out 0).disagree = 0 ∧
    ((read 8 21301 two).out 0).mv = 21301 ∧ ((read 8 21300 s).out 0).disagree = 1) := by decide +kernel
theorem test_lf_reading : (let s := slotAt 24
    let two : State := s.setGrp 0 { s.grp 0 with disagree := 2 }
    (s.grp 0).lf.off 18500 = true ∧ ((read 24 18500 two).grp 0).cause = 5 ∧ ((read 24 18500 two).grp 0).latch = true ∧
    (read 24 18500 two).switchOn .solo 0 = false ∧ (read 24 24000 two).grp 0 = { s.grp 0 with mv := 24000, disagree := 0 }) := by decide +kernel
theorem test_source_reading : (let s := slotAt 27
    let two : State := { s with aaq := { s.aaq with srcLow := ⟨[(0, 2)]⟩ } }
    let blank : State := two.setSrc 0 { state := .on, pulseAt := some 1001000 }
    ((read 27 17999 two).src 0).code = 3 ∧ ((read 27 17999 two).chan 0).fault = 8 ∧ (read 27 18000 two).aaq.srcLow.get 0 0 = 0 ∧
    blank.srcBlank 0 = true ∧ (read 27 100 blank).sin = blank.sin ∧ (read 27 100 blank).aaq.srcLow = blank.aaq.srcLow) := by decide +kernel
/-- R301: calibrated at 2.5 V. -/
def refsAt (devA : Bool) (badBoth badA badB : Nat) (refA : Bool) : State :=
  let s := (slotAt 36).setOtpWord 8 (.holding (250000000 + 250000000 * 2 ^ 32))
  { s with clk := { s.clk with now := 50001800 }, aaq := { s.aaq with devA := devA, badBoth := badBoth, badA := badA, badB := badB, refA := refA, goodA := 9 } }
theorem test_references : (refsAt false 0 0 0 false).convertible 36 = true ∧ vrefOff 251250000 250000000 = false ∧ vrefOff 251250001 250000000 = true ∧
    haltedB 6 (read 36 251250001 (refsAt true 1 0 0 false)) = true ∧ (read 36 250000000 (refsAt true 0 1 0 false)).aaq.refA = true ∧
    ((read 36 250000000 (refsAt true 0 1 0 false)).ach 0).cause = 4 ∧ (read 36 251250001 (refsAt false 0 0 1 false)).aaq.refB = true ∧
    (read 36 250000000 (refsAt false 0 0 0 true)).aaq.refA = false := by decide +kernel
theorem test_rail_reading : (let s (d n : Nat) : State := { slotAt (39 + d) with aaq := { (slotAt (39 + d)).aaq with railBad := ⟨[(d, n)]⟩ } }
    railOutside 0 1071 = true ∧ railOutside 0 1070 = false ∧ haltedB 9 (read 39 1071 (s 0 2)) = true ∧ (s 4 2).restartsOnce 4 = true ∧
    (read 43 0 (s 4 2)).sup.mode = .run ∧ (read 43 0 (s 4 2)).domOn 4 = false ∧ (read 43 0 (s 4 1)).aaq.railBad.get 0 4 = 2 ∧
    ((read 39 900 (s 0 1)).dom 0).mv = 900 ∧ (read 39 900 (s 0 1)).aaq.railBad.get 0 0 = 0) := by decide +kernel
theorem test_bulk_reading : (let s (low apart : Nat) : State := { slotAt 49 with aaq := { (slotAt 49).aaq with bulkLow := low, bulkApart := apart } }
    (read 49 244 (s 1 0)).sup.pfsOrder = 1 ∧ (read 49 244 (s 1 0)).pwr.mains = .pfs ∧ dark (read 49 244 (s 1 0)) = true ∧
    (read 49 244 (s 0 0)).aaq.bulkLow = 1 ∧ (read 49 244 (s 0 0)).sup.pfsOrder = 0 ∧ (s 0 2).bulkOff 314 = true ∧
    (read 49 314 (s 0 2)).log.seq = 1) := by decide +kernel
theorem test_offset : (let s (gnd : Bool) (n : Nat) (low : Option Nat) : State :=
      { slotAt 50 with aaq := { (slotAt 50).aaq with gnd := gnd, gndRun := n, gndLow := low, gndWarn := none } }
    let past : State := { s true 0 (some 1002500) with clk := { (slotAt 50).clk with now := 51002500 } }
    (read 50 (-500) (s false 9 none)).aaq.gnd = true ∧ ((read 50 500 (s false 9 none)).ach 3).cause = 3 ∧ (read 50 499 (s false 9 none)).aaq.gnd = false ∧
    past.convertible 50 = true ∧ (read 50 249 past).aaq.gnd = false ∧ (read 50 249 past).aaq.offset = 249 ∧ (read 50 250 (s false 0 none)).log.seq = 1) := by
  decide +kernel
/-- R294: the urgent reading of Q00 80 us into its pulse. -/
def urgentAt (u : Nat) : State :=
  let s := slotAt 0
  { s with clk := { s.clk with now := u }, sout := { s.sout with test := some { of := .dark (.single 0), start := 1000000, notLow := 0 } } }
def requestTick : Nat := ((urgentAt 0).urgentTick { of := .dark (.single 0), start := 1000000, notLow := 0 }).getD 0
theorem test_urgent : (urgentAt requestTick).urgentFor 0 = some requestTick ∧ (urgentAt requestTick).urgentOpen = true ∧
    (let t := read 8 900 (urgentAt requestTick)
     (t.out 0).mv = 900 ∧ t.aaq.urgent = 1 ∧ (t.sout.test.map (fun x => x.urgent)) = some [(0, 900)]) ∧
    read 0 900 (urgentAt requestTick) = urgentAt requestTick ∧ (read 9 900 (urgentAt requestTick)) = urgentAt requestTick := by decide +kernel

/-! Copies of both directions (R365, R366) and the trunk halt release (R236) -/

def marked (a : Nat) (x : Station) : State := { begun with trk := { begun.trk with stations := ⟨[(a, x)]⟩ } }
theorem test_copy_b : (let t := after (.trunkFrame .ta (copy 1 0 0x77 0)) begun
    (t.st 0).copyB = some (0, 0x77, 1000000) ∧ (t.st 0).judgedB = true ∧ (t.st 0).judgedA = false ∧ (t.st 0).landed = 0) ∧
    (let t := after (.trunkFrame .ta (copy 1 0 0x77 0)) (marked 0 { quality := 2, judgedA := true, copyA := some (0, 0x77, 999500) })
     (t.st 0).image = 0x77 ∧ (t.st 0).stamp = 999500 ∧ (t.st 0).landedNow = true) ∧
    (after (.trunkFrame .tb (copy 2 0 0x77 0)) begun) = begun ∧ ((after (.trunkFrame .ta (copy 2 0 0x77 0)) begun).st 0).judgedA = true := by
  decide +kernel
/-- Where the copy of one direction has failed, that of the other lands; of a failure beside an accepted copy that one. -/
theorem test_lone_copy : (let t := after (.trunkFrame .tb (copy 0 0 0x77 0)) (marked 0 { quality := 2, judgedB := true })
    (t.st 0).quality = 0 ∧ (t.st 0).image = 0x77 ∧ (t.st 0).stamp = 1000000 ∧ (t.st 0).crc = 0) ∧
    (let t := after (.trunkFrame .tb (copy 0 0 0x77 1)) (marked 1 { quality := 2, judgedB := true, copyB := some (0, 9, 999000) })
     (t.st 1).quality = 0 ∧ (t.st 1).image = 9 ∧ (t.st 1).stamp = 999000 ∧ (t.st 1).crc = 1) := by decide +kernel
theorem test_copies_differ : (let t := after (.trunkFrame .tb (copy 0 0 0x77 0)) (marked 0 { quality := 2, image := 3, judgedB := true, copyB := some (0, 0x76, 999000) })
    (t.st 0).landed = 0 ∧ (t.st 0).image = 3 ∧ (t.st 0).quality = 2 ∧ (t.st 0).crc = 1) := by decide +kernel
/-- At the end of the cycle what has come in one direction alone lands. -/
theorem test_cycle_end : (let s := onTrunk { cycle := some 9, stations := ⟨[(0, { quality := 2, judgedA := true, copyA := some (0, 0x177, 950000) })]⟩ }
    let t := after .trunkCycleStart s
    (t.st 0).quality = 0 ∧ (t.st 0).image = 0x77 ∧ (t.st 0).landed = 1 ∧ (t.st 0).stamp = 950000 ∧ (t.st 0).goodPrev = true) ∧
    begun.trk.sentB.map (fun f => (f.drop 16).take 1) = [[1]] := by decide +kernel
/-- A landing at the tick of the expiry, behind it in the queue, goes first (R368). -/
theorem test_expiry_waits : (let s : State := { marked 0 { quality := 0, stamp := 749501, judgedB := true, copyB := some (0, 0x77, 999000) } with
      clk := { begun.clk with now := 1000000 }, pending := [.trunkFrame .tb (copy 0 0 0x77 0)] }
    s.landsNow 0 = true ∧ s.clk.now = (s.st 0).stamp + 5 * msTicks + 499 ∧ after (.stationWatchdogExpiry 0) s = s) := by decide +kernel
/-- Lane 0 of station 0 releases Safe Halt. -/
def lotLane : Lot := { lotTrunk with secs := ⟨(5, bytesOf [(0x400, [1, 0] ++ leBytes 2 16)]) :: lotTrunk.secs.cells⟩ }
def judged (m : Mode) (h : TrunkJudge) : State :=
  let s := marked 0 { quality := 0, judgedB := true, copyB := some (0, 0x76, 999000), goodPrev := true }
  let u : State := { s with lot := { s.lot with active := some lotLane }, sin := { s.sin with trunk := h }, sup := { s.sup with mode := m } }
  { u with trk := { (after .trunkCycleStart { u with trk := cycled.trk }).trk with stations := s.trk.stations } }
def laneIs (b : Bool) (s : State) : State :=
  let v := if b then 0x77 else 0x76
  after (.trunkFrame .tb (copy 0 0 v 0)) { s with trk := { s.trk with stations := ⟨[(0, { quality := 0, judgedB := true, copyB := some (0, v, 999000), goodPrev := true })]⟩ } }
theorem test_lane_rises : (judged .run {}).lotD.hrStation st8 = true ∧ (laneIs true (judged .run { ready := true })).sin.trunk = { rise := some 999000, last := 999000 } ∧
    (laneIs true (judged .run {})).sin.trunk = {} ∧
    (laneIs true (judged .run { rise := some 500, last := 900000 })).sin.trunk = { rise := some 500, last := 999000 } := by decide +kernel
/-- 50 ms to 3 s from its rise to its fall: here at tick 2,600,000. -/
def late (m : Mode) (p : Pend) (rise : Nat) : State :=
  let s := judged m { rise := some rise, last := 900000 }
  { s with clk := { s.clk with now := 2600000 }, sup := { s.sup with pend := p, causes := 8, firstCause := some 3, haltFrom := some .run } }
def falls (s : State) : State :=
  after (.trunkFrame .tb (copy 0 0 0x76 0)) { s with trk := { s.trk with stations := ⟨[(0, { quality := 0, judgedB := true, copyB := some (0, 0x76, 2599000), goodPrev := true })]⟩ } }
theorem test_lane_falls : (let t := falls (late .run .none 99000)
    t.sin.trunk = { ready := true } ∧ (t.part 0).edge = true ∧ (t.part 15).edge = true ∧ t.sup.mode = .run) ∧
    (falls (late .run .none 99001)).sle = (late .run .none 99001).sle ∧
    (let t := falls (late .safeHalt (.armed 3000000) 99000)
     t.sup.mode = .boot ∧ t.sup.bistRunning = true ∧ t.sup.causes = 0) := by decide +kernel
theorem test_lane_gap : (let s := judged .run { rise := some 500 }
    (State.endStation { s with trk := { s.trk with stations := {} } } 10 st8).sin.trunk = {}) := by decide +kernel

/-! Control messages over the ring and the cross-link (R373, R376, R404) -/

/-- Member 0 of two in a stack (topology 2), or of two pairs of stacks (topology 3). -/
def lotStack (topology : Nat) : Lot :=
  { hdr := bytesOf [(8, leBytes 8 7), (43, [BitVec.ofNat 8 topology, 2, 0, 2, 1])], digest := [0x12, 0x34, 0x56, 0x78], secs := ⟨[]⟩ }
def stacked (topology : Nat) (c : Cpl) : State := { running .run (lotStack topology) with cpl := { c with link := 2, fold := [1, 2, 3, 4, 5, 6, 7, 8], lastGood := 1999000 } }
/-- A CONTROL frame of member 1 to this module. -/
def fromOne : CtlVia := .cascade 1 0 7 5
theorem test_ring_answer : (stacked 2 {}).caOn = true ∧ (stacked 2 {}).lotD.member = 0 ∧
    (let ask (w : List Nat) : State := stacked 2 { gpark := some ⟨1025000, w, 1990000, true, none⟩ }
     (after (.parkAnswer fromOne 0) (ask [1, 2])).cpl.gpark = some ⟨1025000, [2], 1990000, true, none⟩ ∧ (after (.parkAnswer fromOne 0) (ask [1])).cpl.gpark = none ∧
     done (after (.parkAnswer fromOne 0) (ask [1])) = true ∧ ((after (.parkAnswer fromOne 0) (ask [1])).csrc 1).lastValid = some 2000000 ∧
     aborts 0x0F000210 (after (.parkAnswer fromOne 0x0210) (ask [1])) = true) := by decide +kernel
/-- What comes over the ring goes on over the cross-link, what comes over the cross-link into the ring. -/
theorem test_abandon_relayed : (let s (t : Nat) : State := { stacked t { gpark := some ⟨1025000, [1], 1990000, true, none⟩ } with sup := { (stacked t {}).sup with pend := .parked 1025000 } }
    let r := after (.abandonPark (.cascade 1 0xFF 7 5)) (s 3)
    let x := after (.abandonPark .crossLink) (s 3)
    r.sup.pend = .none ∧ r.cpl.gpark = none ∧ aborts 0x0F000210 r = true ∧ r.cpl.xlOut.map (·.take 9) = [[4, 0xFF, 9, 0, 1, 0, 0, 0, 7]] ∧
    x.sup.pend = .none ∧ x.cpl.caOut.map (·.take 9) = [[0x13, 0, 0xFF, 8, 1, 0, 0, 0, 7]] ∧
    ((after (.abandonPark (.cascade 1 0xFF 7 5)) (s 2)).cpl.caOut.map (·.take 9)) = [[0x13, 1, 0xFF, 6, 5, 0, 0, 0, 7]]) := by decide +kernel
/-- R52: a calibration outside its limits refuses, one of 6,250,000 counts enters. -/
theorem test_ring_park : (let t := after (.controlPark fromOne 1025000 6250000 6250000 60) (stacked 2 {})
    t.sup.pend = .parked 1025000 ∧ t.sup.wakeDelay = 60) ∧ (after (.controlPark fromOne 1025000 0 6250000 60) (stacked 2 {})).sup.pend = .none := by
  decide +kernel
/-- R373: a module without a lot forwards with the hop count lowered, as its strap numbers it. -/
def unlotted : State := { base .unconfigured with sup := { (base .unconfigured).sup with straps := { addr := some 2, role := some 0 } } }
def through (dst hop : Nat) : List Byte := Machine.caFrame 0x11 1 dst hop 5 (List.replicate 20 0)
def forwards (dst hop : Nat) : List (List Byte) := (after (.words (through dst hop)) unlotted).cpl.caOut
theorem test_forward : unlotted.caPort = true ∧ unlotted.caOn = false ∧ unlotted.memberNo = 2 ∧ forwards 3 8 = [through 3 7] ∧ forwards 0xFF 2 = [through 0xFF 1] ∧ (forwards 2 8).length = 0 ∧ (forwards 3 1).length = 0 ∧ (forwards 3 0).length = 0 := by decide +kernel
theorem test_status_send : (let t := after .statusSend (stacked 3 { statusAt := some 1950000 })
    t.cpl.statusAt = some 2000000 ∧ t.cpl.frames = 1 ∧ t.cpl.xlOut.map (·.take 12) = [[3, 0xFF, 20, 0, 1, 0, 0, 0,
      BitVec.ofNat 8 Mode.run.code, BitVec.ofNat 8 (stacked 3 {}).cplRole.code, if (stacked 3 {}).cplReady then 1 else 0, 0xFF]]) ∧
    after .statusSend (stacked 3 { statusAt := some 1950001 }) = stacked 3 { statusAt := some 1950001 } := by decide +kernel
/-- R148: a halt that names no WOP stops at the commit gate of the partition. -/
def lotTwoParts : Lot := { lotStack 1 with secs := ⟨[(1, program ++ program), (4, [1, 0] ++ leBytes 2 0 ++ leBytes 4 8 ++ leBytes 2 100 ++ leBytes 2 0 ++ leBytes 4 0 ++
  [1, 0] ++ leBytes 2 8 ++ leBytes 4 8 ++ leBytes 2 100 ++ leBytes 2 0 ++ leBytes 4 0)]⟩ }
theorem test_halt_at_gate : (let s : State := { running .commissioning lotTwoParts with
      cpl := { role := .standby, link := 2, fold := [1], lastGood := 1999000 },
      sle := { (running .commissioning lotTwoParts).sle with cur := some 1, parts := ⟨[(1, { phase := .passes, gi := 3, oi := 3 })]⟩ } }
    (after (.controlHalt .crossLink 1 0xFFFF) s).sle.dbg = { state := 1, part := none, idx := 0, atGate := some 1 } ∧
    (after (.controlHalt .crossLink 1 9) s).sle.dbg = { state := 1, part := some 1, idx := 9, stopAt := some 1 }) := by decide +kernel
/-- R277: a swatch that another module calls over the ring, ahead and passed. -/
theorem test_ring_swatch : (let t := after (.controlSwatch fromOne 9 1000001) (stacked 2 {})
    t.tmu.swatch.state = 1 ∧ t.tmu.swatch.id = 9 ∧ t.tmu.swatch.tsw = 1000001) ∧
    (let t := after (.controlSwatch .crossLink 9 999990) (stacked 1 {})
     (t.tmu.swatch.record.map (fun r => (r.id, r.origin, r.tsw, r.latchedAt, r.late))) = some (9, 3, 999990, 1000000, true) ∧ t.tmu.swatch.state = 3) := by
  decide +kernel

/-! The recorder's stream (R447 to R453) and its episodes (R456) -/

/-- Run, without bindings; partition 0 has an open attempt that writes word 8, at its 256th release. -/
def streaming (r : Rec) (m : Mode := .run) : State :=
  let s := running m (lotOf [(3, [])])
  { s with
    rcr := r,
    sle := { s.sle with parts := ⟨[(0, { phase := .gate, key := 9, attempt := 2, failedKey := 3, seq := 255, stamp := 990000, workG := ⟨[(8, some ⟨5, 0x14, 9⟩)]⟩, sgC := 0x22222222 })]⟩ } }
def stream : Rec := { budget := 8000, total := 5000, written := 4080, recs := [⟨0, 0, 0, [0x30]⟩] }
theorem test_commit_record : (let s := streaming stream
    let t := s.frcCommit 0
    s.frcRuns = true ∧ (s.releaseRecord 0).take 2 = [16, 137] ∧ (s.releaseRecord 0).drop ((s.releaseRecord 0).length - 8) = leBytes 8 (s.part 0).sigG ∧
    s.rcr.fits (s.releaseRecord 0).length = true ∧ t.rcr.total = 5000 + (s.releaseRecord 0).length ∧ t.rcr.lastW8 = some ⟨5, 0x14, 0⟩ ∧
    t.rcr.recs.length = 2) := by decide +kernel
theorem test_commit_gap : (let s := streaming { stream with winBytes := 79999 }
    (s.frcCommit 0).rcr.gap = some (990000, (s.releaseRecord 0).length) ∧ (s.frcCommit 0).rcr.recs = s.rcr.recs) := by decide +kernel
/-- 1,000 bytes in a window without budget, 80,000 with it; the marker of an open gap counts. -/
theorem test_fits : ({ winBytes := 900, budget := 0 } : Rec).fits 100 = true ∧ ({ winBytes := 900, budget := 0 } : Rec).fits 101 = false ∧
    ({ winBytes := 79900, budget := 1 } : Rec).fits 100 = true ∧ ({ winBytes := 79900, budget := 1 } : Rec).fits 101 = false ∧
    ({ winBytes := 900, budget := 0, gap := some (1, 1) } : Rec).fits 83 = true ∧ ({ winBytes := 900, budget := 0, gap := some (1, 1) } : Rec).fits 84 = false := by decide +kernel
def put (r : Rec) (b : List Byte) : Rec := ((streaming r).frcPut 7 b).rcr
theorem test_gap : (let r := put { stream with budget := 0, winBytes := 1000 } [1, 2]
    r.gap = some (7, 2) ∧ r.gaps = 1 ∧ r.keyOwed = true ∧ r.lastRel = none) ∧
    (let r := put { stream with budget := 0, winBytes := 1000, gap := some (3, 40) } [1, 2]
     r.gap = some (3, 42) ∧ r.gaps = 0 ∧ r.total = 5000) ∧
    (let r := put { stream with gap := some (3, 40) } [1, 2]
     r.gap = none ∧ r.total = 5019 ∧ r.recs.drop 1 = [⟨5000, 2000000, 1000000, [0x40, 3, 0, 0, 0, 0, 0, 0, 0, 40, 0, 0, 0, 0, 0, 0, 0]⟩, ⟨5017, 2000000, 7, [1, 2]⟩]) := by
  decide +kernel
theorem test_keyframe : (let s := streaming { stream with keyOwed := true }
    s.keyDue = true ∧ s.frcRelease.rcr.keyOwed = false ∧ s.frcRelease.rcr.keyAt = 2000000 ∧ s.frcRelease.rcr.keyPos = 5000) ∧
    (let s := streaming { stream with keyOwed := true, winBytes := 79999 }
     s.frcRelease.rcr.keyOwed = true ∧ s.frcRelease.rcr.keyAt = 0) := by decide +kernel
/-- R456: no episode open, one open, one of this cycle, no keyframe. -/
def freezing (r : Rec) : State := streaming { stream with budget := r.budget, recs := r.recs, open_ := r.open_, cycleTrig := r.cycleTrig, episodes := r.episodes }
theorem test_freeze_opens : (let s := freezing stream
    let t := after .freezeCommand s
    s.episodeStart = some ⟨0, 0, 0, [0x30]⟩ ∧ s.episodeSlot false = some 0 ∧ s.cycleEpisode = none ∧ (t.episode 0).state = 1 ∧ (t.episode 0).trigger = 3 ∧
    (t.episode 0).trigAt = 1000000 ∧ t.rcr.open_ = some (0, 2000000) ∧ done t = true) := by decide +kernel
theorem test_freeze_again : (let s := freezing { stream with open_ := some (4, 3000000), episodes := ⟨[(4, { state := 1, trigger := 5 })]⟩ }
    let t := after .freezeCommand s
    t.rcr.open_ = some (4, 3000000) ∧ t.rcr.episodes = s.rcr.episodes ∧ done t = true ∧
    (t.rcr.recs.getLast?.map (fun r => r.bytes)) = some ([0x20, 9] ++ leBytes 8 1000000 ++ leBytes 8 772)) := by decide +kernel
theorem test_freeze_same_cycle : (let s := freezing { stream with cycleTrig := some (4, 2000000), episodes := ⟨[(4, { state := 1, trigger := 5 })]⟩ }
    let t := after .freezeCommand s
    s.cycleEpisode = some 4 ∧ t.episode 4 = { state := 1, trigger := 3 } ∧ done t = true) := by decide +kernel
theorem test_freeze_no_key : (let s := freezing { stream with recs := [] }
    s.episodeStart = none ∧ after .freezeCommand s = { s with hpo := { s.hpo with reply := some .done } }) := by decide +kernel
theorem test_freeze_off : (let s := freezing stream
    let u : State := { s with pwr := { s.pwr with doms := onDoms [0, 1, 3] } }
    u.domOn 2 = false ∧ after .freezeCommand u = u.refuse 0x06060000) := by decide +kernel
theorem test_post_trigger_waits : (let s := freezing { stream with open_ := some (4, 2000001) }
    after .episodePostTriggerEnd s = s) := by decide +kernel
/-- What a table reads that lists the same for each of the numbers from a on. -/
theorem look_same {α : Type} (c : α) (n : Nat) : ∀ a w, a ≤ w → w < a + n → Tab.look w ((List.range' a n).map (fun i => (i, c))) = some c := by
  induction n with
  | zero => intro a w h1 h2; omega
  | succ n ih =>
    intro a w h1 h2
    simp only [List.range', List.map_cons, Tab.look]
    split
    · rfl
    · exact ih (a + 1) w (by omega) (by omega)
/-- Partition 0 in its passes under key 3: every word of its planes is 5 in the ground bank, and in the overdye bank the image of 5. -/
def passesAt : State :=
  { State.reset with
    sle := { State.reset.sle with parts := ⟨[(0, { phase := .passes, key := 3 })]⟩ },
    nmt := { State.reset.nmt with planeG := ⟨(List.range' 0 2048).map (fun i => (i, ⟨5, 0x14, 0⟩))⟩,
                                  planeO := ⟨(List.range' 0 2048).map (fun i => (i, ⟨dye 3 5, 0x14, 3⟩))⟩ } }
theorem passesAt_word (w : Nat) (h : w < 2048) :
    passesAt.curWord 0 .ground w = ⟨5, 0x14, 0⟩ ∧ passesAt.curWord 0 .overdye w = ⟨dye 3 5, 0x14, 3⟩ := by
  have g := look_same (⟨5, 0x14, 0⟩ : Cell) 2048 0 w (by omega) (by omega)
  have o := look_same (⟨dye 3 5, 0x14, 3⟩ : Cell) 2048 0 w (by omega) (by omega)
  constructor
  · show (Tab.look (2048 * 0 + w) ((List.range' 0 2048).map (fun i => (i, (⟨5, 0x14, 0⟩ : Cell))))).getD {} = _
    rw [show 2048 * 0 + w = w by omega, g]; rfl
  · show (Tab.look (2048 * 0 + w) ((List.range' 0 2048).map (fun i => (i, (⟨dye 3 5, 0x14, 3⟩ : Cell))))).getD {} = _
    rw [show 2048 * 0 + w = w by omega, o]; rfl
/-- R126, R129, R138: a state and a WOP that meet the hypotheses of OverdyeMirrorsGround. -/
theorem test_mirrored : passesAt.mirrored 0 ∧ (Wop.ofNat 0).inSpace := by
  refine ⟨⟨fun w h => ?_, fun w => rfl, fun t => ⟨rfl, rfl⟩, ?_, rfl, rfl⟩, ?_⟩
  · rw [(passesAt_word w h).1, (passesAt_word w h).2]; exact ⟨rfl, rfl⟩
  · show undye _ _ = _
    decide +kernel
  · unfold Wop.inSpace; decide
/-- R329: at the tick of the expiry itself, a frame of that tick behind in the queue that lands goes first. -/
def onTick (n : Nat) : State :=
  let s := port .run lotBare { landed := true, quality := 0, period := 250, tLast := 900000, partner := some host }
  { s with clk := { s.clk with now := 900000 + n * 250 }, pending := [.cycleFrame .ha (cycle 7 [] 0 [] 0 0)] }
theorem test_landing_wins : ((onTick 175).landingWaits = true ∧ after .hostStale (onTick 175) = onTick 175) ∧
    ((onTick 525).landingWaits = true ∧ after .hostWatchdogExpiry (onTick 525) = onTick 525) := by decide +kernel
/-- R329: the partner's frame on HB, with one on HA that ended in the same tick. -/
theorem test_frame_yields : (let s0 := port .run lotBare { partner := some host, nc := some 6 }
    let s := { s0 with hpo := { s0.hpo with answeredA := some s0.clk.real } }
    let u := { s0 with pending := [.cycleFrame .ha (cycle 8 [] 0 [] 0 0)] }
    after (.cycleFrame .hb (cycle 7 [] 0 [] 0 0)) s = { s with hpo := { s.hpo with discarded := 1 } } ∧
    after (.cycleFrame .hb (cycle 7 [] 0 [] 0 0)) u = { u with hpo := { u.hpo with discarded := 1 } }) := by decide +kernel

end Sys2Proof.Tests
end

section
/-! SUPPORT. WOPs of the ground pass: the function stage by lanes, what a WOP writes and what it leaves alone, where its attempt
stands behind it; at the end the proof of GroundWops (chapter 05). -/

namespace Sys2Proof.Machine

/-! ### Tables lane by lane (R106) -/

theorem getLsbD_minterm (a b c d : Lanes) (i : Nat) {l : Nat} (hl : l < 128) :
    (minterm a b c d i).getLsbD l = ((a.getLsbD l == bitOf i 0) && (b.getLsbD l == bitOf i 1) &&
      (c.getLsbD l == bitOf i 2) && (d.getLsbD l == bitOf i 3)) := by
  have pick (x : Lanes) (v : Bool) : (if v then x else ~~~ x).getLsbD l = (x.getLsbD l == v) := by
    cases v <;> simp [hl]
  simp only [minterm, BitVec.getLsbD_and, pick]

/-- The four bits of a table index are the four inputs (R106). -/
theorem index_bits_eq : ∀ (i : Fin 16) (a b c d : Bool),
    ((a == bitOf i.val 0) && (b == bitOf i.val 1) && (c == bitOf i.val 2) && (d == bitOf i.val 3)) =
      decide (i.val = a.toNat + 2 * b.toNat + 4 * c.toNat + 8 * d.toNat) := by decide

theorem getLsbD_foldl_or (t : Nat → Bool) (m : Nat → Lanes) (l : Nat) (is : List Nat) (y : Lanes) :
    (is.foldl (fun y i => if t i then y ||| m i else y) y).getLsbD l =
      (y.getLsbD l || is.any (fun i => t i && (m i).getLsbD l)) := by
  induction is generalizing y with
  | nil => simp
  | cons i is ih => cases ht : t i <;> simp [ih, ht, Bool.or_assoc]

/-- R106: each lane of the table result is the table bit that the lane's inputs select. -/
theorem getLsbD_lutLanes (t : BitVec 16) (a b c d : Lanes) {l : Nat} (hl : l < 128) :
    (lutLanes t a b c d).getLsbD l = t.getLsbD ((a.getLsbD l).toNat + 2 * (b.getLsbD l).toNat +
      4 * (c.getLsbD l).toNat + 8 * (d.getLsbD l).toNat) := by
  have selects : ∀ i < 16, (minterm a b c d i).getLsbD l = decide (i = (a.getLsbD l).toNat +
      2 * (b.getLsbD l).toNat + 4 * (c.getLsbD l).toNat + 8 * (d.getLsbD l).toNat) :=
    fun i hi => (getLsbD_minterm a b c d i hl).trans (index_bits_eq ⟨i, hi⟩ _ _ _ _)
  rw [lutLanes, getLsbD_foldl_or, Bool.eq_iff_iff]
  simp only [BitVec.ofNat_eq_ofNat, BitVec.getLsbD_zero, Bool.false_or, List.any_eq_true, List.mem_range, Bool.and_eq_true]
  constructor
  · rintro ⟨i, hi, ht, hm⟩
    rw [selects i hi, decide_eq_true_eq] at hm
    exact hm ▸ ht
  · intro ht
    have hn := BitVec.lt_of_getLsbD ht
    exact ⟨_, hn, ht, by simp only [selects _ hn, decide_true]⟩

theorem getLsbD_doubled (b : BitVec 16) (hb : ∀ i, 8 ≤ i → b.getLsbD i = false) {n : Nat} (hn : n < 8) (d : Bool) :
    (b ||| (b <<< 8)).getLsbD (n + 8 * d.toNat) = b.getLsbD n := by
  rw [BitVec.getLsbD_or, BitVec.getLsbD_shiftLeft]
  cases d
  · simp [hn]
  · rw [Bool.toNat_true, hb (n + 8 * 1) (by omega), Bool.false_or, decide_eq_true (show n + 8 * 1 < 16 by omega),
      decide_eq_false (show ¬ n + 8 * 1 < 8 by omega)]
    rfl

/-- R111: the set table of LATCH leaves input D out. -/
theorem getLsbD_setTable (t : BitVec 16) {n : Nat} (hn : n < 8) (d : Bool) :
    (setTable t).getLsbD (n + 8 * d.toNat) = t.getLsbD n := by
  have low (i : Nat) : (t &&& 0xFF#16).getLsbD i = (t.getLsbD i && decide (i < 8)) := by
    rw [BitVec.getLsbD_and, BitVec.getLsbD_ofNat, show 255 = 2 ^ 8 - 1 by rfl, Nat.testBit_two_pow_sub_one]
    by_cases hi : i < 8
    · simp [hi, Nat.lt_trans hi (show 8 < 16 by decide)]
    · simp [hi]
  rw [setTable, getLsbD_doubled _ (fun i hi => by simp [low, Nat.not_lt.2 hi]) hn, low, decide_eq_true hn, Bool.and_true]

/-- R111: the reset table of LATCH leaves input D out. -/
theorem getLsbD_resetTable (t : BitVec 16) {n : Nat} (hn : n < 8) (d : Bool) :
    (resetTable t).getLsbD (n + 8 * d.toNat) = t.getLsbD (8 + n) := by
  rw [resetTable, getLsbD_doubled _ (fun i hi => ?_) hn, BitVec.getLsbD_ushiftRight]
  rw [BitVec.getLsbD_ushiftRight, BitVec.getLsbD_of_ge _ _ (by omega)]

/-! ### Operands (R105) -/

theorem getLsbD_rotateRight_mod (x : Lanes) (r : Nat) {l : Nat} (hl : l < 128) :
    (x.rotateRight r).getLsbD l = x.getLsbD ((l + r) % 128) := by
  rw [BitVec.getLsbD_rotateRight]
  by_cases h : l < 128 - r % 128
  · rw [decide_eq_true h, cond_true, show r % 128 + l = (l + r) % 128 by omega]
  · rw [decide_eq_false h, cond_false, decide_eq_true hl, Bool.true_and, show l - (128 - r % 128) = (l + r) % 128 by omega]

/-- R105: an operand lane of the ground pass. -/
theorem getLsbD_operandLanes_ground (k : Key) (o : Operand) (c : Cell) {l : Nat} (hl : l < 128) :
    (operandLanes .ground k o c).getLsbD l = (c.val.getLsbD ((l + o.rot) % 128) != o.inv) := by
  rw [← getLsbD_rotateRight_mod c.val o.rot hl]
  cases hv : o.inv <;> simp only [operandLanes, hv, if_true, Bool.false_eq_true, if_false, BitVec.getLsbD_not, hl,
    decide_true, Bool.true_and, Bool.bne_true, Bool.bne_false]

@[simp] theorem alignLanes_ground (k : Key) (c : Cell) : alignLanes .ground k c = c.val := by
  refine BitVec.eq_of_getLsbD_eq fun l hl => ?_
  rw [alignLanes, getLsbD_operandLanes_ground k _ c hl, Nat.add_zero, Nat.mod_eq_of_lt hl, Bool.bne_false]

/-! ### The function stage of a ground WOP by lanes (R106, R108, R111, R114) -/

section
variable (s : State) (p : Nat) (w : Wop) {l : Nat}

@[simp] theorem State.wopIn_pass : (s.wopIn p .ground w).pass = .ground := rfl
@[simp] theorem State.wopIn_mask : (s.wopIn p .ground w).mask = s.lotD.mask w.mask := rfl
@[simp] theorem State.wopIn_first : (s.wopIn p .ground w).first = s.firstSeen p := rfl
@[simp] theorem State.wopIn_tb : (s.wopIn p .ground w).tb = (s.curWord p .ground w.b.addr).tag := rfl
@[simp] theorem State.wopIn_q : (s.wopIn p .ground w).q = (s.curWord p .ground w.dest).val :=
  alignLanes_ground (s.part p).key _
@[simp] theorem State.wopIn_h : (s.wopIn p .ground w).h = (s.curWord p .ground (w.dest + 1)).val :=
  alignLanes_ground (s.part p).key _

theorem State.lutIndex3_lt : s.lutIndex3 p w l < 8 := by
  have ha := Bool.toNat_le (s.opLane p w.a l)
  have hb := Bool.toNat_le (s.opLane p w.b l)
  have hc := Bool.toNat_le (s.opLane p w.c l)
  unfold State.lutIndex3
  omega

/-- R106, for any table on the operands of a WOP. -/
theorem State.wopIn_lutLanes (t : BitVec 16) (hl : l < 128) :
    let i := s.wopIn p .ground w
    (lutLanes t i.a i.b i.c i.d).getLsbD l = t.getLsbD (s.lutIndex p w l) := by
  simp only [State.wopIn, getLsbD_lutLanes _ _ _ _ _ hl, getLsbD_operandLanes_ground _ _ _ hl]
  rfl

theorem State.wopIn_table (hl : l < 128) : ((s.wopIn p .ground w).table w).getLsbD l = s.lutLane p w l :=
  s.wopIn_lutLanes p w w.lut hl

theorem State.wopIn_latchS (hl : l < 128) :
    ((s.wopIn p .ground w).latchS w).getLsbD l = w.lut.getLsbD (s.lutIndex3 p w l) :=
  (s.wopIn_lutLanes p w (setTable w.lut) hl).trans (getLsbD_setTable w.lut (s.lutIndex3_lt p w) _)

theorem State.wopIn_latchR (hl : l < 128) :
    ((s.wopIn p .ground w).latchR w).getLsbD l = w.lut.getLsbD (8 + s.lutIndex3 p w l) :=
  (s.wopIn_lutLanes p w (resetTable w.lut) hl).trans (getLsbD_resetTable w.lut (s.lutIndex3_lt p w) _)

/-- R114: the lowest masked lane. -/
theorem getLsbD_lowestLane (m : Lanes) (hl : l < 128) : (lowestLane m).getLsbD l =
    decide (((List.range 128).filter (fun j => m.getLsbD j)).head? = some l) := by
  rw [List.head?_filter, lowestLane]
  cases (List.range 128).find? (fun j => m.getLsbD j) with
  | none => simp
  | some j => simp only [BitVec.getLsbD_ofNat, Nat.testBit_two_pow, hl, decide_true, Bool.true_and, Option.some.injEq]

theorem State.wopIn_lanes (hl : l < 128) : ((s.wopIn p .ground w).lanes w).getLsbD l = s.wopWrites w l := by
  by_cases h : w.cls = 4 ∧ w.auxBit 9 = true
  · simp only [WopIn.lanes, State.wopIn_pass, State.wopIn_mask, passMask, State.wopWrites, State.maskedLanes, if_pos h,
      getLsbD_lowestLane _ hl]
    rfl
  · simp only [WopIn.lanes, State.wopIn_pass, State.wopIn_mask, passMask, State.wopWrites, if_neg h]

theorem getLsbD_spread (v : Bool) (hl : l < 128) : (spread v).getLsbD l = v := by
  cases v
  · exact BitVec.getLsbD_zero
  · exact (BitVec.getLsbD_allOnes (i := l)).trans (decide_eq_true hl)

/-- R111, EQUIV: all masked lanes of the table result are 1. -/
theorem State.maskedLanes_all_iff : (s.maskedLanes w).all (s.lutLane p w) = true ↔
    (s.wopIn p .ground w).table w &&& s.lotD.mask w.mask = s.lotD.mask w.mask := by
  simp only [State.maskedLanes, List.all_eq_true, List.mem_filter, List.mem_range]
  constructor
  · refine fun h => BitVec.eq_of_getLsbD_eq fun l hl => ?_
    rw [BitVec.getLsbD_and, s.wopIn_table p w hl]
    cases hm : (s.lotD.mask w.mask).getLsbD l with
    | false => exact Bool.and_false _
    | true => rw [h l ⟨hl, hm⟩, Bool.and_self]
  · rintro h l ⟨hl, hm⟩
    rw [← h, BitVec.getLsbD_and, s.wopIn_table p w hl, Bool.and_eq_true] at hm
    exact hm.1

/-- R111, EQUIV: a masked lane of the table result is 1. -/
theorem State.maskedLanes_any_iff : (s.maskedLanes w).any (s.lutLane p w) = true ↔
    (s.wopIn p .ground w).table w &&& s.lotD.mask w.mask ≠ 0 := by
  simp only [State.maskedLanes, List.any_eq_true, List.mem_filter, List.mem_range]
  constructor
  · rintro ⟨l, ⟨hl, hm⟩, hx⟩ h
    have hzero := congrArg (fun v => v.getLsbD l) h
    simp [hm, s.wopIn_table p w hl, hx] at hzero
  · intro h
    refine Classical.byContradiction fun hn => h (BitVec.eq_of_getLsbD_eq fun l hl => ?_)
    rw [BitVec.getLsbD_and, s.wopIn_table p w hl]
    refine (Bool.eq_false_iff.2 fun hx => ?_).trans BitVec.getLsbD_zero.symm
    obtain ⟨hx, hm⟩ := Bool.and_eq_true_iff.1 hx
    exact hn ⟨l, ⟨hl, hm⟩, hx⟩

/-- R111, TAGSET: the worst quality of the operands that the table depends on. -/
theorem State.wopIn_worstQ : worstQ ((s.wopIn p .ground w).dependedTags w) =
    ((List.range 4).filter w.depends).foldl (fun a j => max a (tagQ (s.curWord p .ground (w.opnd j).addr).tag)) 0 := by
  rw [worstQ, WopIn.dependedTags, List.foldl_map]
  congr
  funext a j
  match j with
  | 0 | 1 | 2 | _ + 3 => rfl

/-- R111, LATCH: set or reset first, by AUX[8]. -/
theorem State.wopIn_out_latch (hw : w.cls = 1) (hl : l < 128) :
    ((s.wopIn p .ground w).out w).getLsbD l = s.wopLane p w l := by
  have hS := s.wopIn_latchS p w hl
  have hR := s.wopIn_latchR p w hl
  cases ha : w.auxBit 8 <;> simp only [WopIn.out, State.wopLane, hw, ha, State.wopIn_pass, State.wopIn_q, BitVec.getLsbD_and,
    BitVec.getLsbD_or, BitVec.getLsbD_not, hS, hR, hl, decide_true, Bool.true_and, Bool.false_eq_true, if_true, if_false]

/-- R111, EDGE: rising, falling or any edge, none at a first release under AUX[10]. -/
theorem State.wopIn_out_edge (hw : w.cls = 2) (hl : l < 128) :
    ((s.wopIn p .ground w).out w).getLsbD l = s.wopLane p w l := by
  have hx := s.wopIn_table p w hl
  cases hf : (w.auxBit 10 && s.firstSeen p) with
  | true =>
    simp only [WopIn.out, State.wopLane, hw, State.wopIn_pass, State.wopIn_first, hf, if_true]
    exact BitVec.getLsbD_zero
  | false =>
    simp only [WopIn.out, State.wopLane, hw, State.wopIn_pass, State.wopIn_first, State.wopIn_h, hf, Bool.false_eq_true, if_false]
    match field w.aux 1 0 with
    | 0 | 1 | _ + 2 => simp only [BitVec.getLsbD_and, BitVec.getLsbD_xor, BitVec.getLsbD_not, hx, hl, decide_true, Bool.true_and]

/-- R111, EQUIV: all or any of the masked lanes. -/
theorem State.wopIn_out_equiv (hw : w.cls = 4) (hl : l < 128) :
    ((s.wopIn p .ground w).out w).getLsbD l = s.wopLane p w l := by
  cases ha : w.auxBit 8 with
  | false =>
    simp only [WopIn.out, State.wopLane, hw, ha, State.wopIn_pass, getLsbD_spread _ hl, Bool.false_eq_true, if_false]
    exact Bool.eq_iff_iff.2 (decide_eq_true_iff.trans (s.maskedLanes_all_iff p w).symm)
  | true =>
    simp only [WopIn.out, State.wopLane, hw, ha, State.wopIn_pass, getLsbD_spread _ hl, if_true]
    exact Bool.eq_iff_iff.2 (decide_eq_true_iff.trans (s.maskedLanes_any_iff p w).symm)

/-- R111, TAGSET: the constant AUX[10] at or above the threshold, else the table result. -/
theorem State.wopIn_out_tagset (hw : w.cls = 5) (hl : l < 128) :
    ((s.wopIn p .ground w).out w).getLsbD l = s.wopLane p w l := by
  have hx := s.wopIn_table p w hl
  simp only [WopIn.out, State.wopLane, hw, State.wopIn_pass, State.wopIn_tb, s.wopIn_worstQ p w,
    apply_ite (fun v : Lanes => v.getLsbD l), getLsbD_spread _ hl, hx, ge_iff_le]

/-- R111: the output of the function stage by lanes. -/
theorem State.wopIn_out (hw : w.cls ≤ 5) (h3 : w.cls ≠ 3) (hl : l < 128) :
    ((s.wopIn p .ground w).out w).getLsbD l = s.wopLane p w l := by
  obtain h | h | h | h | h : w.cls = 0 ∨ w.cls = 1 ∨ w.cls = 2 ∨ w.cls = 4 ∨ w.cls = 5 := by omega
  · simpa only [WopIn.out, State.wopLane, h] using s.wopIn_table p w hl
  · exact s.wopIn_out_latch p w h hl
  · exact s.wopIn_out_edge p w h hl
  · exact s.wopIn_out_equiv p w h hl
  · exact s.wopIn_out_tagset p w h hl

end

/-! ### The write of a ground WOP (R96, R108, R113) -/

section
variable (q : Part) (lot : Lot) (old : Cell) (d : Nat) (lanes y : Lanes) (t : Tag)

/-- What a write leaves in the working copies of the ground bank: DEST alone is new. -/
theorem Part.write_work_other {v : Nat} (hv : v ≠ d) :
    (q.write .ground lot old d lanes y t).work .ground v = q.work .ground v :=
  Tab.get_set_other _ _ _ hv _

/-- R108: written lanes take the function stage's output, the others what the word held. -/
theorem Part.write_work_same : ∃ c, (q.write .ground lot old d lanes y t).work .ground d = some c ∧
    ∀ l, l < 128 → c.val.getLsbD l = if lanes.getLsbD l then y.getLsbD l else old.val.getLsbD l := by
  refine ⟨_, Tab.get_set_same _ _ _ _, fun l hl => ?_⟩
  cases hm : lanes.getLsbD l <;>
    simp only [alignLanes_ground, BitVec.getLsbD_or, BitVec.getLsbD_and, BitVec.getLsbD_not, hm, hl, decide_true,
      Bool.and_false, Bool.and_true, Bool.not_true, Bool.not_false, Bool.false_or, Bool.or_false, Bool.false_eq_true,
      if_true, if_false]

end

/-- What a pass sees of a word changes only with the lot, the node space and the partition's working copies (R96). -/
theorem State.curWord_congr {s t : State} {p : Nat} (hlot : t.lot = s.lot) (hnmt : t.nmt = s.nmt) (ps : Pass) (v : Nat)
    (hwork : (t.part p).work ps v = (s.part p).work ps v) : t.curWord p ps v = s.curWord p ps v := by
  have hD : t.lotD = s.lotD := congrArg (fun l : LotBlk => l.active.getD {}) hlot
  cases ps <;>
    simp only [State.curWord, hwork, hD, State.committed, State.plane, State.comG, State.comO, State.initG, State.initO, hnmt]

theorem State.curWord_of_work {s : State} {p v : Nat} {ps : Pass} {c : Cell} (h : (s.part p).work ps v = some c) :
    s.curWord p ps v = c := by
  simp only [State.curWord, h]

/-! ### Where the attempt stands after a WOP (R125, R158, R159) -/

/-- The scheduler begins an attempt of a ready partition alone. -/
theorem State.schedule_part (s : State) {p : Nat} (hp : (s.part p).phase ≠ .ready) : s.schedule.part p = s.part p := by
  unfold State.schedule
  split
  · rfl
  · next b _ =>
    split
    · next hb => exact (State.setPart_part ..).trans (if_neg fun e : p = b => hp (e ▸ hb))
    · rfl

/-- A suspension of partition p counted (R159). -/
def State.countSuspension (s : State) (p : Nat) : State :=
  s.setPart p { s.part p with suspensions := (s.part p).suspensions + 1 }

/-- A suspension point leaves the pass running, or counts a suspension and frees the engine or gives it away (R159). -/
theorem State.suspendPoint_cases (s : State) (p : Nat) : s.suspendPoint p = s ∨
    s.suspendPoint p = { s.countSuspension p with sle := { (s.countSuspension p).sle with cur := none } } ∨
    s.suspendPoint p = (s.countSuspension p).schedule := by
  unfold State.suspendPoint
  split
  · split
    · exact .inr ((Classical.em _).imp (fun h => if_pos h) (fun h => if_neg h))
    · exact .inl rfl
  · exact .inl rfl

theorem State.suspendPoint_part (s : State) {p : Nat} (hp : (s.part p).phase ≠ .ready) :
    ∃ n, (s.suspendPoint p).part p = { s.part p with suspensions := n } := by
  have counted : (s.countSuspension p).part p = { s.part p with suspensions := (s.part p).suspensions + 1 } :=
    (State.setPart_part ..).trans (if_pos rfl)
  obtain h | h | h := s.suspendPoint_cases p <;> rw [h]
  · exact ⟨_, rfl⟩
  · exact ⟨_, counted⟩
  · exact ⟨_, ((s.countSuspension p).schedule_part (by rw [counted]; exact hp)).trans counted⟩

/-- Partition p with its ground index one further. -/
def State.groundStepped (s : State) (p : Nat) (ph : Phase) : State :=
  s.setPart p { s.part p with gi := (s.part p).gi + 1, phase := ph }

/-- After a WOP of the ground pass its index is one further; the attempt comes to the gate, goes on, or meets a suspension
point. -/
theorem State.advance_ground_cases (s : State) (p cls : Nat) :
    s.advance p .ground cls = s.groundStepped p .gate ∨
    s.advance p .ground cls = s.groundStepped p (s.part p).phase ∨
    s.advance p .ground cls = (s.groundStepped p (s.part p).phase).suspendPoint p := by
  by_cases hd : (s.part p).gi + 1 ≥ s.lotD.pCount p ∧ (s.part p).oi ≥ s.lotD.pCount p
  · refine .inl ?_
    simp [State.advance, State.groundStepped, hd]
  · refine .inr (Or.symm ?_)
    simp only [State.advance, State.groundStepped, hd, decide_false, Bool.false_eq_true, if_false]
    exact (Classical.em _).imp (fun h => if_pos h) (fun h => if_neg h)

/-- After a WOP of the ground pass only phase and suspensions of its partition may have changed, beside the index. -/
theorem State.advance_ground_part (s : State) {p : Nat} (cls : Nat) (hp : (s.part p).phase = .passes) :
    ∃ ph n, (s.advance p .ground cls).part p =
      { s.part p with gi := (s.part p).gi + 1, phase := ph, suspensions := n } := by
  have stepped (ph : Phase) : (s.groundStepped p ph).part p = { s.part p with gi := (s.part p).gi + 1, phase := ph } :=
    (State.setPart_part ..).trans (if_pos rfl)
  obtain h | h | h := s.advance_ground_cases p cls <;> rw [h]
  · exact ⟨_, _, stepped _⟩
  · exact ⟨_, _, stepped _⟩
  · obtain ⟨n, hn⟩ := (s.groundStepped p (s.part p).phase).suspendPoint_part (p := p) (by rw [stepped, hp]; decide)
    exact ⟨_, n, hn.trans (by rw [stepped])⟩

theorem State.advance_ground_hpo (s : State) (p cls : Nat) : (s.advance p .ground cls).hpo = s.hpo := by
  obtain h | h | h := s.advance_ground_cases p cls <;> rw [h]
  · rfl
  · rfl
  · simp [State.groundStepped]

/-- What a pass sees of the words is the same as before its index went on. -/
theorem State.advance_ground_curWord (s : State) {p : Nat} (cls : Nat) (hp : (s.part p).phase = .passes) (ps : Pass) (v : Nat) :
    (s.advance p .ground cls).curWord p ps v = s.curWord p ps v := by
  obtain ⟨ph, n, h⟩ := s.advance_ground_part cls hp
  refine State.curWord_congr (by simp) (by simp) ps v ?_
  cases ps <;> simp only [Part.work, h]

/-! ### A WOP of a ground pass (R111, R113) -/

/-- The row of the class of the WOP that comes next executes it (R125). -/
theorem State.runWop_ground {s : State} {p i : Nat} {w : Wop} (h : s.groundNext p i w) (flip : Lanes) :
    s.runWop w.cls ⟨.clean, flip⟩ = (s.doWop p .ground w flip).advance p .ground w.cls := by
  obtain ⟨hcur, hphase, rfl, hi, hdbg, rfl⟩ := h
  have hstop : s.stopOf p = none := by simp [State.stopOf, hdbg]
  have hnext : (s.part p).nextWop (s.lotD.pCount p) (s.stopOf p) = some (.ground, (s.part p).gi) := by
    simp [Part.nextWop, hstop, hi]
  simp [State.runWop, hcur, hnext, hphase, hdbg, State.fetchEcc]

section
variable (s : State) (p : Nat) (w : Wop)

/-- The partition behind the write of DEST. -/
def State.destWritten : Part :=
  let i := s.wopIn p .ground w
  (s.part p).write .ground s.lotD (s.curWord p .ground w.dest) w.dest (i.lanes w) (i.out w) (i.tag w)

/-- The partition behind the write of DEST + 1 by an EDGE WOP (R113). -/
def State.edgeWritten : Part :=
  let i := s.wopIn p .ground w
  (s.destWritten p w).write .ground s.lotD (s.curWord p .ground (w.dest + 1)) (w.dest + 1) (i.lanes w) (i.table w) (i.tag w)

theorem State.doWop_ground (hw : w.cls ≤ 5) (h3 : w.cls ≠ 3) : s.doWop p .ground w 0 =
    s.setPart p (if w.cls = 2 then s.edgeWritten p w else s.destWritten p w) := by
  have hx (y : Lanes) : y ^^^ 0 = y := BitVec.xor_zero
  simp only [State.doWop, State.edgeWritten, State.destWritten, hx, Nat.not_lt.2 hw, h3, if_false]
  split <;> rfl

variable (hw : w.cls ≤ 5) (h3 : w.cls ≠ 3)
include hw h3

theorem State.doWop_part : (s.doWop p .ground w 0).part p = if w.cls = 2 then s.edgeWritten p w else s.destWritten p w := by
  rw [s.doWop_ground p w hw h3]
  exact (State.setPart_part ..).trans (if_pos rfl)

/-- A WOP changes neither the overdye copies nor where the attempt stands. -/
theorem State.doWop_part_keeps : ((s.doWop p .ground w 0).part p).workO = (s.part p).workO ∧
    ((s.doWop p .ground w 0).part p).gi = (s.part p).gi ∧ ((s.doWop p .ground w 0).part p).phase = (s.part p).phase := by
  rw [s.doWop_part p w hw h3]
  split <;> exact ⟨rfl, rfl, rfl⟩

/-- R111: each written lane of DEST takes its output lane, every other lane stays. -/
theorem State.doWop_dest (l : Nat) (hl : l < 128) : ((s.doWop p .ground w 0).curWord p .ground w.dest).val.getLsbD l =
    if s.wopWrites w l then s.wopLane p w l else (s.curWord p .ground w.dest).val.getLsbD l := by
  obtain ⟨c, hc, hlanes⟩ := Part.write_work_same (s.part p) s.lotD (s.curWord p .ground w.dest) w.dest
    ((s.wopIn p .ground w).lanes w) ((s.wopIn p .ground w).out w) ((s.wopIn p .ground w).tag w)
  have hwork : ((s.doWop p .ground w 0).part p).work .ground w.dest = some c := by
    rw [s.doWop_part p w hw h3]
    split
    · exact (Part.write_work_other _ _ _ _ _ _ _ (Nat.ne_of_lt (Nat.lt_succ_self _))).trans hc
    · exact hc
  rw [State.curWord_of_work hwork, hlanes l hl, s.wopIn_lanes p w hl, s.wopIn_out p w hw h3 hl]

/-- R113: EDGE writes its input to the same lanes of DEST + 1. -/
theorem State.doWop_edge (h2 : w.cls = 2) (l : Nat) (hl : l < 128) :
    ((s.doWop p .ground w 0).curWord p .ground (w.dest + 1)).val.getLsbD l =
      if s.wopWrites w l then s.lutLane p w l else (s.curWord p .ground (w.dest + 1)).val.getLsbD l := by
  obtain ⟨c, hc, hlanes⟩ := Part.write_work_same (s.destWritten p w) s.lotD (s.curWord p .ground (w.dest + 1)) (w.dest + 1)
    ((s.wopIn p .ground w).lanes w) ((s.wopIn p .ground w).table w) ((s.wopIn p .ground w).tag w)
  have hwork : ((s.doWop p .ground w 0).part p).work .ground (w.dest + 1) = some c := by
    rw [s.doWop_part p w hw h3, if_pos h2]
    exact hc
  rw [State.curWord_of_work hwork, hlanes l hl, s.wopIn_lanes p w hl, s.wopIn_table p w hl]

theorem State.doWop_other {v : Nat} (hv : v ≠ w.dest) (hv2 : w.cls = 2 → v ≠ w.dest + 1) :
    (s.doWop p .ground w 0).curWord p .ground v = s.curWord p .ground v := by
  refine State.curWord_congr (by simp) (by simp) .ground v ?_
  rw [s.doWop_part p w hw h3]
  split
  · next h2 => exact (Part.write_work_other _ _ _ _ _ _ _ (hv2 h2)).trans (Part.write_work_other _ _ _ _ _ _ _ hv)
  · exact Part.write_work_other _ _ _ _ _ _ _ hv

theorem State.doWop_overdye (v : Nat) : (s.doWop p .ground w 0).curWord p .overdye v = s.curWord p .overdye v := by
  obtain ⟨hO, -, -⟩ := s.doWop_part_keeps p w hw h3
  exact State.curWord_congr (by simp) (by simp) .overdye v (congrArg (fun m => m.get none v) hO)

end

/-- A WOP of the ground pass changes the engine's block alone. -/
theorem State.groundWop_changesOnly (s : State) (p : Nat) (w : Wop) (flip : Lanes) :
    s.changesOnly [.sle] ((s.doWop p .ground w flip).advance p .ground w.cls) := by
  intro b hb
  cases b with
  | sle => exact absurd (List.mem_singleton_self _) hb
  | hpo => exact (State.advance_ground_hpo ..).trans (by simp)
  | _ => simp [Block.same]

/-- The row of each class runs the WOPs of that class (R111). -/
theorem exec_wop_row {c : Instr} {cls : Nat} (s : State)
    (hc : (c, cls) ∈ [(Instr.lut ⟨.clean, 0⟩, 0), (Instr.latch ⟨.clean, 0⟩, 1), (Instr.edge ⟨.clean, 0⟩, 2),
      (Instr.equiv ⟨.clean, 0⟩, 4), (Instr.tagset ⟨.clean, 0⟩, 5)]) :
    exec c s = .next (s.runWop cls ⟨.clean, 0⟩) ∧ cls ≤ 5 ∧ cls ≠ 3 := by
  simp only [List.mem_cons, Prod.mk.injEq, List.not_mem_nil, or_false] at hc
  obtain ⟨rfl, rfl⟩ | ⟨rfl, rfl⟩ | ⟨rfl, rfl⟩ | ⟨rfl, rfl⟩ | ⟨rfl, rfl⟩ := hc <;> exact ⟨rfl, by decide, by decide⟩

/-- Settles O20: the WOP's effect by lanes (doWop_dest, doWop_edge, doWop_other, doWop_overdye), which the advance of the pass
leaves as it is. -/
theorem groundWops : Obligations.GroundWops := by
  intro s p i w c hnext hc
  obtain ⟨hexec, hw, h3⟩ := exec_wop_row s hc
  have hrun := State.runWop_ground hnext 0
  obtain ⟨-, hphase, hgi, -, -, -⟩ := hnext
  obtain ⟨-, hgi0, hphase0⟩ := s.doWop_part_keeps p w hw h3
  have hcur := (s.doWop p .ground w 0).advance_ground_curWord w.cls (hphase0.trans hphase)
  obtain ⟨ph, n, hpart⟩ := (s.doWop p .ground w 0).advance_ground_part w.cls (hphase0.trans hphase)
  refine ⟨_, hexec.trans (congrArg _ hrun), s.groundWop_changesOnly p w 0, ?_, fun l hl => ?_, fun h2 l hl => ?_,
    fun v hv hv2 => ?_, fun v => ?_⟩
  · rw [hpart, hgi0, hgi]
  · rw [hcur]; exact s.doWop_dest p w hw h3 l hl
  · rw [hcur]; exact s.doWop_edge p w hw h3 h2 l hl
  · rw [hcur]; exact s.doWop_other p w hw h3 hv hv2
  · rw [hcur]; exact s.doWop_overdye p w hw h3 v

end Sys2Proof.Machine
end

section
/-! SUPPORT. Safety inputs: a computed word lane by lane, the delivered state of a channel, W0 with and without its banks; at the
end the proof of DeliveredState (chapter 08). -/

namespace Sys2Proof.Machine

/-! ### Computed words lane by lane (R91) -/

theorem getLsbD_lanesOf (n : Nat) (f : Nat → Bool) {l : Nat} (hl : l < 128) :
    (lanesOf n f).getLsbD l = (decide (l < n) && f l) := by
  have hbit (i : Nat) : (BitVec.ofNat 128 (2 ^ i)).getLsbD l = decide (i = l) := by
    rw [BitVec.getLsbD_ofNat, Nat.testBit_two_pow, decide_eq_true hl, Bool.true_and]
  rw [lanesOf, getLsbD_foldl_or, Bool.eq_iff_iff]
  simp only [hbit, BitVec.ofNat_eq_ofNat, BitVec.getLsbD_zero, Bool.false_or, List.any_eq_true, List.mem_range,
    Bool.and_eq_true, decide_eq_true_eq]
  exact ⟨fun ⟨_, hi, hf, he⟩ => he ▸ ⟨hi, hf⟩, fun ⟨hi, hf⟩ => ⟨l, hi, hf, rfl⟩⟩

@[simp] theorem localWord_on (v : Lanes) : (localWord true v).val = v := rfl

@[simp] theorem localWord_off (v : Lanes) : (localWord false v).val = 0 := rfl

/-! ### The delivered state of a channel (R174) -/

theorem State.delivered_eq_true_iff (s : State) (n : Nat) : s.delivered n = true ↔
    s.lotD.chUsed n = true ∧ (s.chan n).f = true ∧ (s.chan n).fault = 0 ∧ (s.chan n).chatter = false := by
  simp only [State.delivered, Bool.and_eq_true, decide_eq_true_eq, Bool.not_eq_true', and_assoc]

theorem State.delivered_eq_f {s : State} {n : Nat} (hused : s.lotD.chUsed n = true) (hfault : (s.chan n).fault = 0)
    (hchatter : (s.chan n).chatter = false) : s.delivered n = (s.chan n).f :=
  Bool.eq_iff_iff.2 ((s.delivered_eq_true_iff n).trans ⟨fun ⟨_, hf, _, _⟩ => hf, fun hf => ⟨hused, hf, hfault, hchatter⟩⟩)

theorem State.delivered_eq_false {s : State} {n : Nat}
    (h : s.lotD.chUsed n = false ∨ (s.chan n).fault ≠ 0 ∨ (s.chan n).chatter = true) : s.delivered n = false := by
  refine Bool.eq_false_iff.2 fun hd => ?_
  obtain ⟨hused, -, hfault, hchatter⟩ := (s.delivered_eq_true_iff n).1 hd
  obtain h | h | h := h
  · exact Bool.false_ne_true (h.symm.trans hused)
  · exact h hfault
  · exact Bool.false_ne_true (hchatter.symm.trans h)

/-! ### W0 (R91, R174) -/

theorem State.getLsbD_w0 {s : State} (hon : s.inputsOn = true) {n : Nat} (hn : n < 48) :
    s.w0.val.getLsbD n = s.delivered n := by
  rw [State.w0, hon, localWord_on, getLsbD_lanesOf 48 s.delivered (Nat.lt_trans hn (by decide)), decide_eq_true hn, Bool.true_and]

theorem State.w0_val_off {s : State} (hoff : s.inputsOn = false) : s.w0.val = 0 := by
  rw [State.w0, hoff, localWord_off]

/-- Settles O37: the delivered state by its conditions (delivered_eq_f, delivered_eq_false), W0 by its lanes with the input banks ON
and as a whole without them (getLsbD_w0, w0_val_off). -/
theorem deliveredState : Obligations.DeliveredState :=
  fun _ _ => ⟨State.delivered_eq_f, State.delivered_eq_false, fun hn hon => State.getLsbD_w0 hon hn, State.w0_val_off⟩

end Sys2Proof.Machine
end

section
/-! SUPPORT. Check-value units: what a write of a unit's record does on a free and on a fixed unit, what a read shows, and the
registers against the CRCs of the model; at the end the proofs of CheckValueUnits and CheckValues (chapter 18). -/

namespace Sys2Proof.Machine

/-! ### Writes of a unit's record (R342, R444, R445) -/

theorem State.cvuWrite_fixed (s : State) {n : Nat} (hfixed : cvuUse n ≠ 0) (sub v : Nat) :
    s.cvuWrite n sub v = s.refuse 0x0F000501 := if_pos hfixed

section
variable (s : State) {n : Nat} (hfree : cvuUse n = 0)
include hfree

theorem State.cvuWrite_init : s.cvuWrite n 6 1 = (s.setCvu n (s.cvu n).init).done := if_neg (not_not_intro hfree)

theorem State.cvuWrite_finalise : s.cvuWrite n 6 2 = (s.setCvu n (s.cvu n).finalise).done := if_neg (not_not_intro hfree)

theorem State.cvuWrite_run (v : Nat) :
    s.cvuWrite n 3 v = (s.setCvu n { s.cvu n with run := v, armed := false, ended := false }).done := if_neg (not_not_intro hfree)

theorem State.cvuWrite_data (v : Nat) :
    s.cvuWrite n 4 v = if (s.cvu n).ended then s.refuse 0x0F000502 else (s.setCvu n ((s.cvu n).dataIn v)).done :=
  if_neg (not_not_intro hfree)

theorem State.cvuWrite_data_ended (hended : (s.cvu n).ended = true) (v : Nat) : s.cvuWrite n 4 v = s.refuse 0x0F000502 :=
  (s.cvuWrite_data hfree v).trans (if_pos hended)

theorem State.cvuWrite_data_open (hopen : (s.cvu n).ended = false) (v : Nat) :
    s.cvuWrite n 4 v = (s.setCvu n ((s.cvu n).dataIn v)).done :=
  (s.cvuWrite_data hfree v).trans (if_neg (Bool.eq_false_iff.1 hopen))

end

/-- The first data write after INIT feeds the fold register before its own bytes. -/
theorem Cvu.dataIn_armed {c : Cvu} (harmed : c.armed = true) (v : Nat) :
    c.dataIn v = { c with run := polyFeed c.poly c.run (leBytes 8 c.fold ++ leBytes 4 v), armed := false } := by
  rw [Cvu.dataIn, if_pos harmed]

theorem Cvu.dataIn_unarmed {c : Cvu} (hunarmed : c.armed = false) (v : Nat) :
    c.dataIn v = { c with run := polyFeed c.poly c.run (leBytes 4 v), armed := false } := by
  rw [Cvu.dataIn, if_neg (Bool.eq_false_iff.1 hunarmed), List.nil_append]

/-- An accepted write sets its own unit, answers the access, and changes nothing else. -/
theorem State.setCvu_done (s : State) (n : Nat) (c : Cvu) :
    (s.setCvu n c).done.cvu n = c ∧ (∀ m, m ≠ n → (s.setCvu n c).done.cvu m = s.cvu m) ∧
    (s.setCvu n c).done.hpo = { s.hpo with reply := some .done } ∧ s.changesOnly [.cvus, .hpo] (s.setCvu n c).done := by
  have hcvu (m : Nat) : (s.setCvu n c).done.cvu m = if m = n then c else s.cvu m := s.setCvu_cvu n m c
  refine ⟨(hcvu n).trans (if_pos rfl), fun m hm => (hcvu m).trans (if_neg hm), rfl, fun b hb => ?_⟩
  cases b with
  | cvus => simp at hb
  | hpo => simp at hb
  | _ => simp [Block.same]

/-! ### The running value (R444, R445) -/

/-- No hardware user takes a unit without a fixed use: a read shows what the unit's own register holds. -/
theorem State.cvuValue_free (s : State) {n : Nat} (hfree : cvuUse n = 0) : s.cvuValue n = (s.cvu n).run := by
  unfold State.cvuValue
  split
  iterate 4 simp [cvuUse] at hfree
  exact if_pos (.inl hfree)

/-- Settles O34: the accepted writes of a free unit (cvuWrite_init, cvuWrite_finalise, cvuWrite_run, cvuWrite_data_open), each with
the frame setCvu_done, the refused ones (cvuWrite_data_ended, cvuWrite_fixed), and the read (cvuValue_free). -/
theorem checkValueUnits : Obligations.CheckValueUnits := by
  intro s n v
  refine ⟨fun hfree => ⟨?init, ?finalise, ?run, fun hopen harmed => ?fold, fun hopen hunarmed => ?data,
    fun hended => congrArg Host.Outcome.next (s.cvuWrite_data_ended hfree hended _), s.cvuValue_free hfree⟩, fun hfixed => ?fixed⟩
  case init => exact ⟨_, congrArg Host.Outcome.next (s.cvuWrite_init hfree), s.setCvu_done n _⟩
  case finalise => exact ⟨_, congrArg Host.Outcome.next (s.cvuWrite_finalise hfree), s.setCvu_done n _⟩
  case run => exact ⟨_, congrArg Host.Outcome.next (s.cvuWrite_run hfree _), s.setCvu_done n _⟩
  case fold =>
    rw [← Cvu.dataIn_armed harmed]
    exact ⟨_, congrArg Host.Outcome.next (s.cvuWrite_data_open hfree hopen _), s.setCvu_done n _⟩
  case data =>
    rw [← Cvu.dataIn_unarmed hunarmed]
    exact ⟨_, congrArg Host.Outcome.next (s.cvuWrite_data_open hfree hopen _), s.setCvu_done n _⟩
  case fixed =>
    have hrefused := s.cvuWrite_fixed hfixed
    exact ⟨congrArg Host.Outcome.next (hrefused 6 1), congrArg Host.Outcome.next (hrefused 6 2),
      congrArg Host.Outcome.next (hrefused 4 _), congrArg Host.Outcome.next (hrefused 3 _)⟩

/-! ### The algorithms (R443) -/

/-- The final XOR of a 32-bit algorithm inverts every bit of the register. -/
theorem xor_allOnes_toNat (r : BitVec 32) : Nat.xor r.toNat 0xFFFFFFFF = (~~~r).toNat := by
  rw [← BitVec.xor_allOnes, BitVec.toNat_xor]
  rfl

/-- The whole calculation with polynomial 0 is the CRC-32 of the lots. -/
theorem polyFeed_ieee (l : List Byte) : Nat.xor (polyFeed 0 (polyInit 0) l) (polyXor 0) = (crc32 l).toNat := xor_allOnes_toNat _

/-- The whole calculation with polynomial 1 is the CRC-32C of the signatures and frames. -/
theorem polyFeed_c (l : List Byte) : Nat.xor (polyFeed 1 (polyInit 1) l) (polyXor 1) = (crc32c l).toNat := xor_allOnes_toNat _

theorem polyFeed_ccitt (l : List Byte) : Nat.xor (polyFeed 2 (polyInit 2) l) (polyXor 2) = crc16Feed 0xFFFF l := Nat.xor_zero _

theorem polyFeed_crc8 (l : List Byte) : Nat.xor (polyFeed 3 (polyInit 3) l) (polyXor 3) = crc8Feed 0 l := Nat.xor_zero _

/-- Settles O35: each whole calculation is a CRC of the model (polyFeed_ieee, polyFeed_c, polyFeed_ccitt, polyFeed_crc8), which is
then computed over the nine digits. -/
theorem checkValues : Obligations.CheckValues :=
  ⟨(polyFeed_ieee _).trans (by decide +kernel), (polyFeed_c _).trans (by decide +kernel), (polyFeed_ccitt _).trans (by decide +kernel),
    (polyFeed_crc8 _).trans (by decide +kernel)⟩

end Sys2Proof.Machine
end
